-- ==== Sys2Proof/Word.lean ====
section
/-! DEFINITION. The word types of the part and their plainest arithmetic (chapter 0: R2, R7, R8, R10, R11). -/

namespace Sys2Proof

/-- A setup register, one dword of BAR0 (R258). -/
abbrev Word := BitVec 32
/-- A byte of a host-memory structure (R12). -/
abbrev Byte := BitVec 8
/-- A memory word of 40 data bits (R11). -/
abbrev MemWord := BitVec 40
/-- A 52-bit codeword: 40 data bits and 12 check bits (R11, R413). -/
abbrev Codeword := BitVec 52
/-- A monitor register (R457). -/
abbrev MonWord := BitVec 16
/-- Bytes 8 to 31 of a command descriptor, byte 8 in bits 7:0 (Table 10.4). -/
abbrev Operands := BitVec 192

end Sys2Proof
end

