-- ==== Sys2Proof/Syntax.lean ====
section
/-! DEFINITION. The commands of the block and their operands. Operands that are samples, comparator states or times
within a core cycle are what the analogue side shows at that moment (log entry 8). -/

namespace Sys2Proof

/-- What a PCIe configuration write changes (R249 to R257). -/
inductive CfgWrite where
  /-- Command register: Memory Space Enable and Bus Master Enable. -/
  | command (mse bme : Bool)
  /-- Power management control: D3hot or D0. -/
  | power (d3 : Bool)
  /-- MSI-X message control: enable and Function Mask. -/
  | msix (enable mask : Bool)
  /-- Device Control: Max Payload Size and Max Read Request Size codes. -/
  | deviceControl (mps mrrs : Fin 8)
  /-- Device Control 2: the completion timeout value. -/
  | deviceControl2 (timeout : Fin 16)
  /-- Link Control: the ASPM control code, of which L1 (bit 1) is implemented. -/
  | linkControl (aspm : Fin 4)
  /-- Advanced Error Reporting: 0 uncorrectable status, 1 its mask, 2 its severity, 3 correctable status, 4 its mask. -/
  | aer (reg : Fin 5) (val : BitVec 32)
  /-- A base address register, BAR0 or BAR2. -/
  | bar (two : Bool) (addr : BitVec 64)
  /-- Any other register of the configuration space: read-only, or of a feature that is not implemented. -/
  | other (offset : Fin 1024) (val : BitVec 32)
deriving DecidableEq, Repr

/-- What the always-on watch has seen (R409). -/
inductive Machine.Wake where
  /-- WAKE0 or (`one`) WAKE1 has held a level for some RC periods. -/
  | pin (one level : Bool) (periods : Fin 65536)
  /-- The motion edges on WHL[0] or (`one`) WHL[1]. -/
  | motion (one : Bool)
  /-- WAKE symbols have come in for some microseconds on either port. -/
  | kringle (us : Fin 256)
  /-- MON_CS_N has been low for some RC periods. -/
  | monitor (periods : Fin 65536)
  /-- VSUP has risen to `v`, 100 mV, from `low`, its lowest reading since arming. -/
  | vsup (low v : Fin 1024)
deriving DecidableEq, Repr

/-- A ring frame as a receive port hands it on (R326 to R328); its TYPE is the row's. -/
structure Machine.Frame where
  /-- It came in on KB_IN. -/
  kb : Bool
  /-- A symbol error, an ABT, or a length that disagrees with LEN was seen in it. -/
  err : Bool
  /-- It is an EXPRESS frame that ended a frame of this device's own with ABT. -/
  cut : Bool
  /-- HFLAGS.DIR, DST, SRC, TAGE and LEN. -/
  dir : Bool
  dst : Fin 4096
  src : Fin 4096
  tage : BitVec 8
  len : BitVec 8
  /-- The payload, byte 0 lowest, and the CRC-16 received. -/
  pay : BitVec 576
  crc : BitVec 16
deriving DecidableEq, Repr

/-- A wheel input's comparator sees its level cross: the nanosecond within the core cycle, and the differential voltage reached, mV,
two's complement. -/
structure Crossing where
  ofs : Fin 4
  mv : BitVec 16
deriving DecidableEq, Repr

/-- A converter's switch current rises: the nanosecond within the core cycle, and the sense level reached, mV. -/
structure Sensed where
  ofs : Fin 4
  mv : Fin 256
deriving DecidableEq, Repr

/-- A configuration write request: what it changes, and the function ID it is addressed to. -/
structure CfgRequest where
  write : CfgWrite
  id : BitVec 16
deriving DecidableEq, Repr

/-- A read of an SRAM word: the memory and word that a unit reads, none for the scrubber's next word, and the codeword's bits upset
since it was last written or corrected. -/
structure RamAccess where
  unit : Option (Fin 16 × Fin 8192)
  flips : BitVec 52
deriving DecidableEq, Repr

/-- How a register write comes: through BAR0, else by REG_WRITE, and its byte enables. -/
structure WritePath where
  bar : Bool
  be : BitVec 4
deriving DecidableEq, Repr

/-- An edge on a wake comparator in WATCH: its RC period since arming, and the lowest level since the last edge and the level reached,
mV. -/
structure MotionEdge where
  at_ : BitVec 32
  low : BitVec 16
  mv : BitVec 16
deriving DecidableEq, Repr

/-- The commands of the block, one constructor per row of the table of operations and events. -/
inductive Instr where
  /-- COMPARATOR_TRANSITION (R39). A wheel input comparator switches to its active level and the filter hold begins. Operands: WHL[n] and the crossing. -/
  | comparatorTransition (n : Fin 16) (x : Crossing)
  /-- EDGE_QUALIFIED (R39). The filter time expires with the level held, so the edge is qualified, timestamped and presented to the angle engine. Operands: WHL[n]. -/
  | edgeQualified (n : Fin 16)
  /-- VR_ARM (R37). In VR mode the differential voltage passes the arming threshold and the input arms. Operands: WHL[n] and the largest arming-polarity excursion, mV. -/
  | vrArm (n : Fin 16) (mv : Fin 4096)
  /-- PEAK_DECAY (R37). A VR input fails to arm within the decay time, so PEAK halves. Operands: WHL[n]. -/
  | peakDecay (n : Fin 16)
  /-- DIR_MAX_EXCEEDED (R43). A direction-decoded pulse exceeds DIR_MAX, so an invalid edge is qualified and DIRERR is counted. Operands: WHL[n]. -/
  | dirMaxExceeded (n : Fin 16)
  /-- DOMAIN_SLOT (R64). The angle engine serves a domain in its tick slot: it takes the presented edges or frames, makes the state transitions and publishes the angle state. Operands: ADOM[d]. -/
  | domainSlot (d : Fin 4)
  /-- MISSED_TOOTH (R76). The missed-tooth timeout expires without a tooth, and the tooth is inserted or sync is dropped. Operands: ADOM[d]. -/
  | missedTooth (d : Fin 4)
  /-- STALL (R80). The stall timeout expires without an accepted crank edge, and the domain enters HALTED. Operands: ADOM[d]. -/
  | stall (d : Fin 4)
  /-- CAM_SPAN_DECISION (R71). Once its cam filter delay has passed, a crank span is judged against the cam hypotheses or the cam check. Operands: ADOM[d]. -/
  | camSpanDecision (d : Fin 4)
  /-- SOLVER_SLOT (R101). A solver unit recomputes the start and end times of an actuator's slots in its frame slot and applies the due-start checks. Operands: ACT[a]. -/
  | solverSlot (a : Fin 96)
  /-- FRAME_START (R29). At each frame start the lane engines lock the starts and ends that fall in the frame, and the frame-start judgements are made. -/
  | frameStart
  /-- START_FIRE (R104). The locked start time is reached, and the edge placer turns on phase 0's lanes. Operands: ACT[a].SLOT[k] and the LS current code at that moment. -/
  | startFire (a : Fin 96) (k : Fin 8) (i : Fin 1024)
  /-- END_EDGE (R107). The locked end time is reached and the turn-off begins. Operands: ACT[a], its FLAG_ONLY event of SLOT[k] or (k = 8) its lane shot, and the LS current code at that moment. -/
  | endEdge (a : Fin 96) (k : Fin 9) (i : Fin 1024)
  /-- LANE_SLOT (R137). A lane engine serves a lane in its frame slot: it takes the sample, decides phase changes and runs the per-lane checks and feedback. Operands: LANE[n], the code held now, and the two drain comparator states. -/
  | laneSlot (n : Fin 192) (code : Fin 1024) (above : Bool) (bel : Bool)
  /-- PHASE_TIME_EXIT (R141). A TIME phase reaches T_MAX and ends. Operands: ACT[a] and the LS current code. -/
  | phaseTimeExit (a : Fin 96) (i : Fin 1024)
  /-- PHASE_TMIN_END (R142). A phase whose exit was met early ends once T_MIN has passed. Operands: ACT[a] and the LS current code. -/
  | phaseTminEnd (a : Fin 96) (i : Fin 1024)
  /-- PHASE_TMAX_TIMEOUT (R143). A CURRENT or FLAG phase reaches T_MAX: a peak timeout or PH_TMO, and the next phase follows. Operands: ACT[a] and the LS current code. -/
  | phaseTmaxTimeout (a : Fin 96) (i : Fin 1024)
  /-- REGULATION_CROSSING (R139). The current crosses CMP_HI or CMP_LO, and the regulated lane chops. Operands: ACT[a], through CMP_HI rising or CMP_LO falling, and the nanosecond. -/
  | regulationCrossing (a : Fin 96) (rise : Bool) (ofs : Fin 4)
  /-- EXIT_CROSSING (R141). A CURRENT exit crossing is captured, and the high-sides turn off. Operands: ACT[a] and the nanosecond. -/
  | exitCrossing (a : Fin 96) (ofs : Fin 4)
  /-- TURN_OFF_TIMEOUT (R154). T_OFF_MAX passes from the end edge, so every lane turns off and TAIL_TO is set. Operands: ACT[a]. -/
  | turnOffTimeout (a : Fin 96)
  /-- OVER_CURRENT_TRIP (R175). The over-current comparator trips, the lane turns off and latches, and a fault is reported. Operands: LANE[n] and its current code. -/
  | overCurrentTrip (n : Fin 192) (i : Fin 1024)
  /-- OC_BLANK_END (R175). Over-current blanking ends with the current above the threshold, so the lane trips. Operands: LANE[n] and its current code. -/
  | ocBlankEnd (n : Fin 192) (i : Fin 1024)
  /-- BOOTSTRAP_UNDERVOLTAGE (R165). A high-side bootstrap voltage falls below 8.0 V, so the gate turns off and a lane fault is reported. Operands: LANE[n]. -/
  | bootstrapUndervoltage (n : Fin 192)
  /-- DESAT_FAULT (R226). VD_ABOVE_HI is seen in DESAT_F consecutive slots, so the shot ends with a safe end. Operands: ACT[a]. -/
  | desatFault (a : Fin 96)
  /-- OPEN_LOAD_CHECK (R227). At t_act + OL_T the highest sample is compared with OL_I. Operands: ACT[a]. -/
  | openLoadCheck (a : Fin 96)
  /-- IDLE_FAULT (R228). An idle-check condition persists for (OFF_T + 1) ms and raises its fault. Operands: ACT[a]. -/
  | idleFault (a : Fin 96)
  /-- OPEN_WATCH_END (R182). The opening watch ends without a detection, so OPEN_MISS is set. Operands: ACT[a]. -/
  | openWatchEnd (a : Fin 96)
  /-- CLOSE_WATCH_TIMEOUT (R183). The closing watch reaches CLOSE_WIN without a detection, so CLOSE_MISS is set. Operands: ACT[a]. -/
  | closeWatchTimeout (a : Fin 96)
  /-- SOFT_SHUTDOWN_END (R158). The soft shutdown target reaches zero, so the coil gate turns off. Operands: ACT[a]. -/
  | softShutdownEnd (a : Fin 96)
  /-- COIL_TAIL_END (R159). A coil's spark tail expires and its slot goes FREE. Operands: ACT[a]. -/
  | coilTailEnd (a : Fin 96)
  /-- LANE_SETTLED (R163). The 20 µs settling after a GMODE change ends and RDY sets. Operands: LANE[n]. -/
  | laneSettled (n : Fin 192)
  /-- BOOST_SLOT (R203). A boost controller takes its rail samples in its frame slot, sets the switching enable and changes rail state. Operands: BST[r] and its samples V_B, V_R and VSUP. -/
  | boostSlot (r : Fin 8) (vb : Fin 1024) (vr : Fin 1024) (vs : Fin 1024)
  /-- SWITCHING_PERIOD_START (R202). A converter switching period begins with the gate on. Operands: BST[r]. -/
  | switchingPeriodStart (r : Fin 8)
  /-- IPK_CROSSING (R202). The switch current rises through IPK, so the converter gate turns off. Operands: BST[r], the nanosecond, and the voltage BSTn_CS has risen to, mV. -/
  | ipkCrossing (r : Fin 8) (x : Sensed)
  /-- START_QUIET_END (R203). A rail's first 1 ms in START without switching ends, and a low rail goes to FAULT. Operands: BST[r]. -/
  | startQuietEnd (r : Fin 8)
  /-- START_TIMEOUT (R203). START lasts START_TMO, so the rail enters FAULT. Operands: BST[r]. -/
  | startTimeout (r : Fin 8)
  /-- HOLD_SWITCH_TIMEOUT (R217). The hold switch reaches TMAX and turns off, and HOLD_SHORT is counted. -/
  | holdSwitchTimeout
  /-- SUBWINDOW_CHANGE (R235). A duty sub-window boundary passes, so the oldest sub-window word is cleared. Operands: ACT[a]. -/
  | subwindowChange (a : Fin 96)
  /-- TRAY_TEMP_SAMPLE (R241). The tray die temperature is sampled every 1 ms, and TWARN and TSD are judged. Operands: TRAY[t] and the temperature code. -/
  | trayTempSample (t : Fin 4) (code : Fin 1024)
  /-- DOORBELL_POLL (R262). The poll interval expires and a read of the doorbell page is issued. -/
  | doorbellPoll
  /-- POLL_DATA (R271). The poll data arrives and is taken in one core cycle: heartbeat, claims, completes, consumed positions and producer words. Operands: bytes 0x000 to 0x1BF of the doorbell page, byte 0 lowest. -/
  | pollData (d : BitVec 3584)
  /-- HOST_LOST (R263). The liveness TIMEOUT expires without a heartbeat change, so the host is declared lost. -/
  | hostLost
  /-- PCIE_RESET (R257). PERST, hot reset, link down or FLR clears the LINK domain only. Operands: 0 PERST, 1 hot reset, 2 link down, 3 FLR. -/
  | pcieReset (k : Fin 4)
  /-- CONFIG_SPACE_WRITE (R254). A PCIe configuration write changes, among other things, Bus Master Enable, which stops or resumes DMA. Operands: the control written, and the bus, device and function number the request is addressed to. -/
  | configSpaceWrite (w : CfgRequest)
  /-- DESCRIPTOR_FETCH (R274). A fetched descriptor arrives and is accepted, refetched or stalls the queue pair. Operands: QP[q] and the descriptor fetched, byte 0 lowest. -/
  | descriptorFetch (q : Fin 32) (d : BitVec 256)
  /-- COMPLETION_WRITE (R281). A waiting completion or event completion is written once its ring has room. Operands: QP[q]. -/
  | completionWrite (q : Fin 32)
  /-- RECORD_WRITE (R287). A producer's record entry is written to its stream once the stream has room. Operands: RS[s]. -/
  | recordWrite (r : Fin 8)
  /-- ABORT_DECISION (R285). At the frame after an ABORT is accepted, its victim's outcome is decided. Operands: QP[q]. -/
  | abortDecision (q : Fin 32)
  /-- CANCEL_DECISION (R122). At the frame start after a cancel is taken, each matching slot is decided by its state. Operands: command-buffer entry. -/
  | cancelDecision (e : Fin 64)
  /-- NOP (R300). Does nothing, and measures the round trip on a slave. Operands: command-buffer entry. -/
  | nop (e : Fin 64)
  /-- RESYNC (R291). Resets a queue pair's expected SEQ, optionally drains it, and writes a view. Operands: QP[q]. -/
  | resync (q : Fin 32)
  /-- FENCE (R279). Finishes when every earlier command of its queue pair, or of every queue pair, has finished. Operands: command-buffer entry. -/
  | fence (e : Fin 64)
  /-- ABORT (R284). Names a victim command in flight to be aborted. Operands: QP[q]. -/
  | abort (q : Fin 32)
  /-- REG_WRITE (R301). Writes one setup dword, on the master, a slave or by broadcast. Operands: command-buffer entry. -/
  | regWrite (e : Fin 64)
  /-- REG_READ (R301). Reads one setup dword. Operands: command-buffer entry. -/
  | regRead (e : Fin 64)
  /-- LOAD_TABLE (R54). Loads a tooth table, corrections, profiles, feedback tables or a Pretzel memory from host memory. Operands: command-buffer entry. -/
  | loadTable (e : Fin 64)
  /-- READ_TABLE (R303). Writes a table image to host memory. Operands: command-buffer entry. -/
  | readTable (e : Fin 64)
  /-- ARM_EVENT (R96). Arms one event after the acceptance checks, in the actuator's solver slot. Operands: command-buffer entry. -/
  | armEvent (e : Fin 64)
  /-- ARM_BATCH (R100). Arms up to 16 events from host memory at a frame start. Operands: command-buffer entry. -/
  | armBatch (e : Fin 64)
  /-- CANCEL_EVENT (R121). Names armed or running events to cancel. Operands: command-buffer entry. -/
  | cancelEvent (e : Fin 64)
  /-- FORCE_ON (R305). Starts a forced shot outside the event slots at the next frame start. Operands: command-buffer entry, and the LS current code at F. -/
  | forceOn (e : Fin 64) (i : Fin 1024)
  /-- FORCE_OFF (R307). Ends the running shots of actuators at the next frame start, and optionally flushes their slots. Operands: command-buffer entry. -/
  | forceOff (e : Fin 64)
  /-- SYNC_RESET (R93). Puts a domain in UNSYNC at its next slot. Operands: command-buffer entry. -/
  | syncReset (e : Fin 64)
  /-- SET_CYCLE (R61). Sets a domain's cycle length and invalidates its table. Operands: command-buffer entry. -/
  | setCycle (e : Fin 64)
  /-- READ_ANGLE (R309). Takes an angle snapshot and returns it. Operands: command-buffer entry. -/
  | readAngle (e : Fin 64)
  /-- ACT_READ (R310). Returns an actuator's status, fault and lane data. Operands: command-buffer entry. -/
  | actRead (e : Fin 64)
  /-- ACT_REENABLE (R310). Re-enables the disabled actuators named by a mask. Operands: command-buffer entry. -/
  | actReenable (e : Fin 64)
  /-- ACT_UNFREEZE (R310). Unfreezes the feedback of the actuators named by a mask. Operands: command-buffer entry. -/
  | actUnfreeze (e : Fin 64)
  /-- BST_SETPOINT (R311). Writes a rail's setpoint, AEN and floor. Operands: command-buffer entry. -/
  | bstSetpoint (e : Fin 64)
  /-- BST_ENABLE (R311). Writes the EN of the rails named by a mask. Operands: command-buffer entry. -/
  | bstEnable (e : Fin 64)
  /-- TIMER_START (R312). Starts a timer or linked pair. Operands: command-buffer entry. -/
  | timerStart (e : Fin 64)
  /-- TIMER_STOP_ARM (R380). Stops a timer and optionally re-arms it. Operands: command-buffer entry. -/
  | timerStopArm (e : Fin 64)
  /-- TIMER_CAPTURE (R387). Reads a timer or pair in one core cycle. Operands: command-buffer entry. -/
  | timerCapture (e : Fin 64)
  /-- GLOBAL_START (R388). Starts timers 28 to 31 now or at AT_TIME. Operands: command-buffer entry. -/
  | globalStart (e : Fin 64)
  /-- GLOBAL_START_AT_TIME (R388). AT_TIME is reached and the named timers start. Operands: command-buffer entry. -/
  | globalStartAtTime (e : Fin 64)
  /-- PZ_INJECT (R373). Places an injected instruction as pending on an engine. Operands: command-buffer entry. -/
  | pzInject (e : Fin 64)
  /-- PZ_PUSH (R367). Moves host words into an engine's down queue. Operands: command-buffer entry. -/
  | pzPush (e : Fin 64)
  /-- PZ_PULL (R367). Moves words from an engine's up queue to the completion. Operands: command-buffer entry. -/
  | pzPull (e : Fin 64)
  /-- PZ_CONTROL (R371). Stops, starts or resets the named engines of a group. Operands: command-buffer entry. -/
  | pzControl (e : Fin 64)
  /-- JRN_FLUSH (R314). Commits every pending crumb. Operands: command-buffer entry. -/
  | jrnFlush (e : Fin 64)
  /-- JRN_READ (R314). Writes live journal bank words to host memory. Operands: command-buffer entry. -/
  | jrnRead (e : Fin 64)
  /-- JRN_WRITE (R421). Commits a host crumb read from host memory. Operands: command-buffer entry. -/
  | jrnWrite (e : Fin 64)
  /-- JRN_COMPACT (R424). Starts a journal compaction. Operands: command-buffer entry. -/
  | jrnCompact (e : Fin 64)
  /-- KR_ENUMERATE (R330). Advances the epoch and sends the enumeration tokens round the ring. Operands: command-buffer entry. -/
  | krEnumerate (e : Fin 64)
  /-- KR_STATUS (R315). Returns a device's port status, hop latency, stale count and epoch. Operands: command-buffer entry. -/
  | krStatus (e : Fin 64)
  /-- KR_REJOIN (R350). Schedules the end of repaired loop-backs and then re-enumerates. Operands: command-buffer entry. -/
  | krRejoin (e : Fin 64)
  /-- RS_STATUS (R316). Returns a record stream's view line. Operands: command-buffer entry. -/
  | rsStatus (e : Fin 64)
  /-- LOG_CLOSE (R316). Closes a domain's open tooth-period record. Operands: command-buffer entry. -/
  | logClose (e : Fin 64)
  /-- FIFO_STATUS (R316). Returns the fault FIFO fill, summary and loss counts. Operands: command-buffer entry. -/
  | fifoStatus (e : Fin 64)
  /-- VENDOR_TEST (R317). A vendor test opcode, refused on locked parts. Operands: command-buffer entry. -/
  | vendorTest (e : Fin 64)
  /-- ENUM_A (R330). A slave takes the KA enumeration token, takes its address and D_A, and forwards the token. Operands: the frame received. -/
  | enumA (f : Machine.Frame)
  /-- ENUM_B (R330). A slave takes the KB enumeration token, sets D_B and forwards it. Operands: the frame received. -/
  | enumB (f : Machine.Frame)
  /-- PROBE (R329). A neighbour's probe is answered with ECHO. Operands: the frame received. -/
  | probe (f : Machine.Frame)
  /-- ECHO (R329). An echo gives one round-trip measurement of the segment latency. Operands: the frame received, and the latency s measured, 1/16 ns. -/
  | echo (f : Machine.Frame) (smp : Fin 65536)
  /-- TIME_SYNC (R338). A TIME_SYNC frame gives the TIME of the last MARK and drives the time state. Operands: the frame received. -/
  | timeSync (f : Machine.Frame)
  /-- ANGLE_STATE (R344). A slave takes the master's angle state into its ring-fed domain. Operands: the frame received. -/
  | angleState (f : Machine.Frame)
  /-- HB (R337). A heartbeat frame refreshes or declares the slave's host watch. Operands: the frame received. -/
  | hb (f : Machine.Frame)
  /-- CMD (R332). A slave takes a forwarded command and executes it. Operands: the frame received. -/
  | cmd (f : Machine.Frame)
  /-- CPL (R332). The master takes a slave's completion and writes it to the issuing ring. Operands: the frame received. -/
  | cpl (f : Machine.Frame)
  /-- ECPL (R334). The master takes a slave's event completion and answers ACK or NACK. Operands: the frame received. -/
  | ecpl (f : Machine.Frame)
  /-- ACK (R334). A slave takes an acknowledgement of a forwarded entry or access. Operands: the frame received. -/
  | ack (f : Machine.Frame)
  /-- NACK (R334). A slave takes a refusal and will resend. Operands: the frame received. -/
  | nack (f : Machine.Frame)
  /-- ABORT_FWD (R336). A slave takes a forwarded abort and decides it at its own F. Operands: the frame received. -/
  | abortFwd (f : Machine.Frame)
  /-- DMA_RD (R333). The master issues a slave's host read on PCIe. Operands: the frame received. -/
  | dmaRd (f : Machine.Frame)
  /-- DMA_DATA (R333). A slave takes host read data. Operands: the frame received. -/
  | dmaData (f : Machine.Frame)
  /-- DMA_WR (R333). The master issues a slave's host write on PCIe. Operands: the frame received. -/
  | dmaWr (f : Machine.Frame)
  /-- RECORD (R334). The master takes a slave's record entries for a stream. Operands: the frame received. -/
  | record (f : Machine.Frame)
  /-- IRQ_NOTE (R408). The master takes a slave's interrupt notice into its remote-notice table, or NACKs it. Operands: the frame received. -/
  | irqNote (f : Machine.Frame)
  /-- BREAK (R348). The master takes a break report and records the looping device. Operands: the frame received. -/
  | breakFrame (f : Machine.Frame)
  /-- REJOIN (R350). A looping device takes the loop-back opening time. Operands: the frame received. -/
  | rejoin (f : Machine.Frame)
  /-- MARK_SEND (R338). The master sends MARK at each multiple of 1,024 ns of TIME. -/
  | markSend
  /-- MARK_CAPTURE (R338). A slave captures a MARK and steers its PLL phase. Operands: the port (true KB_IN), and the capture within the core cycle, 1/16 ns. -/
  | markCapture (kb : Bool) (sub : Fin 64)
  /-- MARK_LOSS (R339). No MARK arrives on either ring for 16 µs, so the slave goes to HOLDOVER. -/
  | markLoss
  /-- FOLLOW_KB (R338). Eight MARKs are missing on KA, so the slave follows KB. -/
  | followKb
  /-- TIME_STEP (R340). A slave in ACQUIRE steps TIME once no shot runs. -/
  | timeStep
  /-- PROBE_SEND (R329). Every 1,024 ns a device sends PROBE. -/
  | probeSend
  /-- RING_TIMEOUT (R318). A forwarded command gets no reply within RING_TO and completes RING_TIMEOUT. Operands: command-buffer entry. -/
  | ringTimeout (e : Fin 64)
  /-- ENUM_TIMEOUT (R330). An enumeration token fails to return within 64 × RING_TO. -/
  | enumTimeout
  /-- FORWARD_RETRY (R334). A slave resends an ECPL or RECORD 4 µs after a NACK or timeout. Operands: 0 to 7 a record stream, 8 the event completions. -/
  | forwardRetry (k : Fin 9)
  /-- IRQ_NOTE_RETRY (R408). A slave resends a NACKed interrupt notice after 4 µs, or drops it. Operands: TGT[g]. -/
  | irqNoteRetry (g : Fin 16)
  /-- HB_SEND (R337). The master sends a periodic heartbeat frame every TIMEOUT/4. -/
  | hbSend
  /-- SLAVE_HOST_LOST (R337). A slave's watch expires without a heartbeat and it declares the host lost. -/
  | slaveHostLost
  /-- ANGLE_REFRESH (R343). A REFRESH interval passes, so the master sends a refresh ANGLE_STATE. Operands: ADOM[d]. -/
  | angleRefresh (d : Fin 4)
  /-- ANGLE_SOURCE_LOST (R345). A ring-fed domain takes no frame for LOSS_TO and goes to UNSYNC. Operands: ADOM[d]. -/
  | angleSourceLost (d : Fin 4)
  /-- PORT_LOST (R348). A receive port loses signal or decode, so the device loops back and reports a break. Operands: the receive port (true KB_IN). -/
  | portLost (kb : Bool)
  /-- PORT_REPAIRED (R348). A lost port decodes cleanly for 1 ms and REPAIRED sets. -/
  | portRepaired
  /-- LOOPBACK_OPEN (R350). At the rejoin time, repaired loop-backs end. -/
  | loopbackOpen
  /-- WAKE_FORWARD (R351). Once its ports are up after start-up, a device with WAKE_FWD sends a wake burst. -/
  | wakeForward
  /-- JMP (R362). An engine cycle executes a JMP. Operands: PZ[p], and the pin levels of this core cycle. -/
  | jmp (p : Fin 16) (pins : BitVec 32)
  /-- WAIT (R362). An engine cycle executes a WAIT on a pin, frame or tick. Operands: PZ[p], and the pin levels of this core cycle. -/
  | wait (p : Fin 16) (pins : BitVec 32)
  /-- IN (R362). An engine cycle executes an IN shift into SH. Operands: PZ[p], and the pin levels of this core cycle. -/
  | in_ (p : Fin 16) (pins : BitVec 32)
  /-- OUT (R362). An engine cycle executes an OUT shift from SH. Operands: PZ[p], and the pin levels of this core cycle. -/
  | out (p : Fin 16) (pins : BitVec 32)
  /-- PUSH (R362). An engine cycle executes a PUSH of SH into UQ, possibly closing a record. Operands: PZ[p], and the pin levels of this core cycle. -/
  | push (p : Fin 16) (pins : BitVec 32)
  /-- PULL (R362). An engine cycle executes a PULL from DQ into SH. Operands: PZ[p], and the pin levels of this core cycle. -/
  | pull (p : Fin 16) (pins : BitVec 32)
  /-- MOV (R362). An engine cycle executes a MOV. Operands: PZ[p], and the pin levels of this core cycle. -/
  | mov (p : Fin 16) (pins : BitVec 32)
  /-- SET (R362). An engine cycle executes a SET. Operands: PZ[p], and the pin levels of this core cycle. -/
  | set (p : Fin 16) (pins : BitVec 32)
  /-- FLAG (R362). An engine cycle executes a FLAG set, clear, toggle or wait. Operands: PZ[p], and the pin levels of this core cycle. -/
  | flag (p : Fin 16) (pins : BitVec 32)
  /-- XFER (R362). An engine cycle executes a duplex XFER shift. Operands: PZ[p], and the pin levels of this core cycle. -/
  | xfer (p : Fin 16) (pins : BitVec 32)
  /-- PAUSE (R362). An engine cycle executes a PAUSE. Operands: PZ[p], and the pin levels of this core cycle. -/
  | pause (p : Fin 16) (pins : BitVec 32)
  /-- TIMER_INCREMENT (R378). A timer's count source increments it, and match, overflow and their actions follow. Operands: TMR[t], and the pin levels of this core cycle. -/
  | timerIncrement (t : Fin 32) (pins : BitVec 32)
  /-- TIMER_TRIGGER (R380). A flag edge or actuator start or end becomes visible and starts a timer. Operands: TMR[t]. -/
  | timerTrigger (t : Fin 32)
  /-- HOST_TARGET_ARBITRATION (R400). A host target arbitrates in its frame slot and delivers, replaces or withdraws a delivery. Operands: TGT[g]. -/
  | hostTargetArbitration (g : Fin 16)
  /-- MONITOR_TARGET_ARBITRATION (R407). TGT[16] arbitrates each core cycle and drives MON_IRQ_N. -/
  | monitorTargetArbitration
  /-- WATCH_WAKE (R409). A watch source (wake pin, motion, Kringle, monitor or VSUP) wakes the device from WATCH. Operands: what the source has seen, and the RC periods since arming. -/
  | watchWake (k : Machine.Wake) (ticks : BitVec 32)
  /-- CRUMB_DUE (R421). A pending object falls due after AUTO_INT, or a dip forces it, and its commit begins. Operands: kind and key of the object. -/
  | crumbDue (kind : Fin 256) (key : Fin 256)
  /-- CRUMB_WORD_WRITTEN (R420). A journal word write and verify completes, and the crumb advances, commits or is retried. Operands: the verify read agrees. -/
  | crumbWordWritten (ok : Bool)
  /-- SECTOR_ERASE_DONE (R424). A bank erase step of compaction completes. -/
  | sectorEraseDone
  /-- SCRUB_VISIT (R415). The scrubber visits one SRAM word and corrects or reports it. Operands: a unit's own read instead, of a word
  of a memory (R417: the reaction is the same); the bits of the word's codeword upset since it was last written or corrected. -/
  | scrubVisit (x : RamAccess)
  /-- FUSE_KEY (R433). The fuse key is written, opening a 1 ms window for an operation. Operands: the word written to FUSE_CTRL. -/
  | fuseKey (v : Word)
  /-- BURN_MAP (R433). FUSE_CTRL.OP 1 programs the map words from the shadow. -/
  | burnMap
  /-- SEAL (R433). FUSE_CTRL.OP 2 blows the seal fuses. -/
  | seal
  /-- FUSE_OP_DONE (R433). A fuse operation finishes or stops on a supply fault. Operands: words programmed before the operation ended, and which of them failed their verify. -/
  | fuseOpDone (n : Fin 43) (bad : BitVec 42)
  /-- SHADOW_WRITE (R430). A write of the protection map shadow is taken or refused. Operands: dword of the shadow, and the word written. -/
  | shadowWrite (i : Fin 107) (v : Word)
  /-- VSUP_DIP_BEGIN (R438). VSUP stays below WARN for WARN_FILT, so a dip begins at the frame start. Operands: the highest VSUP reading, 100 mV, of the last us µs. -/
  | vsupDipBegin (v : Fin 1024) (us : Fin 64)
  /-- VSUP_DIP_END (R437). VSUP stays above WARN + HYST for 10 µs with the hold switch off, so the dip ends. Operands: the lowest VSUP reading, 100 mV, of the last us µs. -/
  | vsupDipEnd (v : Fin 1024) (us : Fin 64)
  /-- BROWNOUT (R439). The reset comparator trips, so the device enters SAFE with cause SUPPLY. -/
  | brownout
  /-- BROWNOUT_RESET (R439). Reset is asserted at the earliest of the safe ends finishing, 10 ms, VGD low or VSUP low. Operands: VGD is below 8.0 V or VSUP below 3.0 V. -/
  | brownoutReset (early : Bool)
  /-- RESET_RELEASE (R439). VSUP stays above 5.0 V for 100 µs and reset is released. -/
  | resetRelease
  /-- RAIL_UNDERVOLTAGE (R436). An internal rail falls below its monitor level and its flag is set. Operands: VGD, V5A, V3IO, V1P8 or VCORE. -/
  | railUndervoltage (r : Fin 5)
  /-- RAIL_FAILURE (R436). A rail stays low for 10 µs and the device resets. Operands: VGD, V5A, V3IO, V1P8 or VCORE. -/
  | railFailure (r : Fin 5)
  /-- POWER_ON_RESET (R440). VSUP rises through 5.0 V and every domain is cleared. -/
  | powerOnReset
  /-- SOFT_RESET (R440). The RST_CTRL key resets the main domain. Operands: the word written to RST_CTRL. -/
  | softReset (v : Word)
  /-- TRST_RESET (R440). TRST_N resets the test access port. -/
  | trstReset
  /-- PLL_UNLOCK (R443). The PLL loses lock, a SAFE cause. -/
  | pllUnlock
  /-- PLL_RELOCK (R443). The PLL relocks and LOCK sets. -/
  | pllRelock
  /-- SHELL_TEMP_SAMPLE (R446). The shell die temperature is sampled: warning, SAFE cause or overheat reset. Operands: the temperature code. -/
  | shellTempSample (code : Fin 1024)
  /-- REQUEST_RUN (R445). RUN_CTRL.REQ 1 requests RUN. -/
  | requestRun
  /-- REQUEST_DOZE (R445). RUN_CTRL.REQ 2 requests DOZE. -/
  | requestDoze
  /-- REQUEST_WATCH (R445). RUN_CTRL.REQ 3 requests WATCH. -/
  | requestWatch
  /-- DOZE_EXIT_DONE (R445). Tray clocks and lanes have settled, so RUN is in force. -/
  | dozeExitDone
  /-- WATCH_ENTRY_DONE (R445). Crumbs, faults and records have drained, so the main domain powers off and the watch arms. -/
  | watchEntryDone
  /-- STARTUP_STEP (R452). A start-up step completes and the next begins; READY sets after the last. Operands: ROLE strapped to 0, TESTMODE strapped to 1 (R480), crystal running, PE_REFCLK present, and the trays that answer. -/
  | startupStep (slave : Bool) (test : Bool) (xtal : Bool) (refclk : Bool) (trays : BitVec 4)
  /-- SAFE_N_LOW (R463). SAFE_N is held low for 500 ns and the device enters SAFE. Operands: whether SAFE_N has gone low, or reads high again. -/
  | safeNLow (low : Bool)
  /-- HOST_REQ (R463). SAFE_CTRL = 0x0000_5AFE requests SAFE. -/
  | hostReq
  /-- SAFE_EXIT_REQUEST (R468). SAFE_CTRL = 0x0000_E417 requests exit, to be judged at the next frame start. -/
  | safeExitRequest
  /-- MONITOR_TRANSACTION (R459). An SPI transaction of three frames is taken whole, checked and executed. Operands: 48 clocks were seen, and frames A, B and C of MON_SDI. -/
  | monitorTransaction (full : Bool) (fa : MonWord) (fb : MonWord) (fc : MonWord)
  /-- WATCHDOG_WINDOW_EXPIRY (R461). MAX passes without a kick: a violation, and SAFE at FAILS. -/
  | watchdogWindowExpiry
  /-- REGISTER_WRITE (R258). A BAR0 or REG_WRITE write of a register without its own row is stored under its access code. Operands: the dword's number (its address is four times that), the word, and how the write comes. -/
  | registerWrite (a : Fin 0x4000) (v : Word) (p : WritePath)
  /-- WHL_LAST_TS_LO_READ (R42). Reading the low timestamp copies the upper half into the shadow. Operands: WHL[n]. -/
  | whlLastTsLoRead (n : Fin 16)
  /-- ID_UID_LO_READ (R261). Reading the low UID copies the upper half into the shadow. -/
  | idUidLoRead
  /-- WHL_CFG_WRITE (R47). A wheel input configuration write enables, disables or is refused. Operands: WHL[n], and the word written. -/
  | whlCfgWrite (n : Fin 16) (v : Word)
  /-- ADOM_CFG_WRITE (R90). An angle domain configuration write enables or disables the domain. Operands: ADOM[d], and the word written. -/
  | adomCfgWrite (d : Fin 4) (v : Word)
  /-- TAKE (R91). ADOM_SNAP.TAKE captures the angle state in the domain's next slot. Operands: ADOM[d]. -/
  | take (d : Fin 4)
  /-- SCHED_PEEK_WRITE (R124). Selecting an actuator slot fills the PEEK registers in its solver slot. Operands: the word written. -/
  | schedPeekWrite (v : Word)
  /-- ACT_CFG_WRITE (R129). Setting EN binds the actuator after the binding checks; clearing it unbinds. Operands: ACT[a], and the word written. -/
  | actCfgWrite (a : Fin 96) (v : Word)
  /-- BANK_CFG_WRITE (R161). A bank declaration is written, or refused while the bank is in use. Operands: BANK[b], and the word written. -/
  | bankCfgWrite (b : Fin 32) (v : Word)
  /-- LANE_CFG_WRITE (R163). A lane configuration write sets its gate mode and starts settling, or is refused. Operands: LANE[n], and the word written. -/
  | laneCfgWrite (n : Fin 192) (v : Word)
  /-- FEEDBACK_UNFREEZE (R193). Writing 1 to SFB_FROZEN unfreezes an actuator. Operands: register of ACT[32·m] to ACT[32·m+31], and the word written. -/
  | feedbackUnfreeze (m : Fin 3) (v : Word)
  /-- ACTUATOR_REENABLE (R234). Writing 1 to DIAG_DIS re-enables an actuator, or is refused. Operands: register of ACT[32·m] to ACT[32·m+31], and the word written. -/
  | actuatorReenable (m : Fin 3) (v : Word)
  /-- BOOST_SETPOINT_WRITE (R210). A BST_SET or BST_ADAPT write clamps SET_ACT and reopens the window. Operands: BST[r], BST_ADAPT rather than BST_SET, and the word written. -/
  | boostSetpointWrite (r : Fin 8) (adapt : Bool) (v : Word)
  /-- BST_HOLD_WRITE (R215). The hold-up rail and hold switch are named, or the write is refused. Operands: the word written. -/
  | bstHoldWrite (v : Word)
  /-- DB_POLL_WRITE (R262). Enabling or disabling doorbell polling. Operands: the word written. -/
  | dbPollWrite (v : Word)
  /-- HL_LIVE_WRITE (R263). Enabling the liveness watch sets its reference, or the write is refused. Operands: the word written. -/
  | hlLiveWrite (v : Word)
  /-- QP_CFG_WRITE (R294). Enabling a queue pair resets its sequence state; disabling is refused while it holds work. Operands: QP[q], and the word written. -/
  | qpCfgWrite (q : Fin 32) (v : Word)
  /-- RS_CFG_WRITE (R295). Enabling a record stream resets its sequence state. Operands: RS[r], and the word written. -/
  | rsCfgWrite (r : Fin 8) (v : Word)
  /-- IE_TGT_WRITE (R401). Enabling or disabling interrupt targets, which ends deliveries and sets claim baselines. Operands: the word written. -/
  | ieTgtWrite (v : Word)
  /-- INT_RNPOP_READ (R408). Reading returns and removes the oldest remote notice. -/
  | intRnpopRead
  /-- INT_RCPL_WRITE (R408). A slave source is completed for a host target. Operands: the word written. -/
  | intRcplWrite (v : Word)
  /-- TMR_START (R380). Writing 1 starts a timer. Operands: the word written. -/
  | tmrStart (v : Word)
  /-- TMR_STOP (R380). Writing 1 stops a timer. Operands: the word written. -/
  | tmrStop (v : Word)
  /-- TMR_ARM (R380). Writing 1 re-arms a timer. Operands: the word written. -/
  | tmrArm (v : Word)
  /-- TMR_CMP_WRITE (R383). The live compare value is changed and judged from the next increments. Operands: TMR[t], and the word written. -/
  | tmrCmpWrite (t : Fin 32) (v : Word)
  /-- PZG_START (R371). A PZG_CTRL.RUN bit set to 1 starts an engine. Operands: PZ[p], the engine of the RUN bit. -/
  | pzgStart (p : Fin 16)
  /-- PZG_STOP (R371). A PZG_CTRL.RUN bit set to 0 stops an engine. Operands: PZ[p], the engine of the RUN bit. -/
  | pzgStop (p : Fin 16)
  /-- PZG_RESET (R371). A PZG_CTRL.RESET bit resets an engine. Operands: PZ[p], the engine of the RESET bit. -/
  | pzgReset (p : Fin 16)
  /-- PROGRAM_WINDOW_WRITE (R372). An instruction is written through the program window, or refused while the group runs. Operands: PZG[g], instruction i, and the word written. -/
  | programWindowWrite (g : Fin 4) (i : Fin 64) (v : Word)
  /-- PZ_FLAG_SET (R370). The host sets flags. Operands: the word written. -/
  | pzFlagSet (v : Word)
  /-- PZ_FLAG_CLR (R370). The host clears flags. Operands: the word written. -/
  | pzFlagClr (v : Word)
  /-- SEND (R351). KR_WAKE.SEND makes the master send a wake burst. -/
  | send
  /-- COMPARATOR_RETURN (R39). A wheel comparator output leaves its active level, which drops a transition still inside its filter time or ends a direction-decoded pulse. Operands: WHL[n], the nanosecond, and the differential voltage reached, mV, two's complement. -/
  | comparatorReturn (n : Fin 16) (x : Crossing)
  /-- CHOP_TMIN_EXPIRY (R139). A chopping lane's minimum on-time or off-time CHOP_TMIN runs out, and a switching that the comparators asked for meanwhile takes effect. Operands: ACT[a]. -/
  | chopTminExpiry (a : Fin 96)
  /-- SWITCHING_DUTY_LIMIT (R202). 90 % of a converter switching period passes without an IPK crossing, so the converter gate turns off. Operands: BST[r]. -/
  | switchingDutyLimit (r : Fin 8)
  /-- LINK_UP (R257). The PCIe link finishes training after a reset or link-down, so HL_STAT.LINK_UP, SPEED and WIDTH are set and the LINK FIFOs are brought back by pointer resync. Operands: the codes of HL_STAT. -/
  | linkUp (speed : Fin 4) (width : Fin 4)
  /-- PORT_DECODE_LOCK (R450). A Kringle receive port gains signal and decode lock, so its KRG clock domain runs and its FIFOs are resynchronised. Operands: the receive port (true KB_IN). -/
  | portDecodeLock (kb : Bool)
  /-- DMA_READ_COMPLETION (R255). The data of a device host-memory read arrives, or an error completion arrives, for a table image, batch buffer, journal image or a slave's DMA_RD. Operands: the tag; 0 data, 1 Unsupported Request or Completer Abort, 2 poisoned; the data, byte 0 lowest. -/
  | dmaReadCompletion (t : Fin 16) (st : Fin 3) (d : BitVec 4096)
  /-- COMPLETION_TIMEOUT (R255). The PCIe completion timeout of a device read expires, so CPL_TO is counted, the data is discarded and the waiting operation fails. Operands: the tag. -/
  | completionTimeout (t : Fin 16)
  /-- ENGINE_IDLE_CYCLE (R365). A Pretzel engine cycle passes as a TRAIL or PAUSE idle cycle, and the idle counter counts down. Operands: PZ[p]. -/
  | engineIdleCycle (p : Fin 16)
  /-- WAKE_MOTION_EDGE (R409). In WATCH, an active edge on a wake comparator of WHL[0] or WHL[1] advances the motion edge count, or restarts it if it came more than 8,192 RC periods after the one before. Operands: the wheel input, the RC periods since arming, and the lowest differential voltage since the last edge and the one reached now, mV, two's complement. -/
  | wakeMotionEdge (w : Fin 2) (x : MotionEdge)
  /-- MSIX_TABLE_WRITE (R256). A BAR2 write to the MSI-X table or pending-bit array changes a vector mask, which releases any message held pending for that vector. Operands: dword of BAR2, and the word written. -/
  | msixTableWrite (i : Fin 1024) (v : Word)
deriving DecidableEq, Repr

end Sys2Proof
end

