-- ==== Sys2Proof/Config.lean ====
section
/-! DEFINITION. The values the manual leaves open, each an opaque constant: nothing in the model fixes them. -/

namespace Sys2Proof.Config

/-- A fresh free value, one per use of the counter `State.free` (log entry 20). -/
opaque freeWord : Nat → BitVec 64
/-- Whether an angle between two steps of the 20-bit word shows as the upper step (log entry 21). -/
opaque angleUp : Nat → Bool

/-- Where the list of capabilities begins in the configuration space (log entry 30). -/
opaque capPtr : Nat → BitVec 8

/-- The cycles after which a pulse crossing accepts its next pulse, where the manual gives a limit only (R449, log entry 36). -/
opaque handshake : Nat → Nat

end Sys2Proof.Config
end

