-- ==== Sys2Proof/Machine/Bits.lean ====
section
/-! DEFINITION. Bit fields, saturating counters, rounding (R488) and the little list helpers the chapters share. -/

namespace Sys2Proof.Machine

/-- Bits `hi` to `lo` of a word, right-aligned. -/
def fld {w : Nat} (x : BitVec w) (hi lo : Nat) : Nat := x.toNat / 2 ^ lo % 2 ^ (hi + 1 - lo)

/-- Bit `b` of a word. -/
def bit {w : Nat} (x : BitVec w) (b : Nat) : Bool := x.toNat / 2 ^ b % 2 = 1

/-- The word with bits `hi` to `lo` replaced by `v` (its low bits). -/
def setFld {w : Nat} (x : BitVec w) (hi lo v : Nat) : BitVec w :=
  BitVec.ofNat w (x.toNat - fld x hi lo * 2 ^ lo + v % 2 ^ (hi + 1 - lo) * 2 ^ lo)

/-- The word with bit `b` set to `v`. -/
def setBit {w : Nat} (x : BitVec w) (b : Nat) (v : Bool) : BitVec w := setFld x b b v.toNat

/-- A saturating counter field: bits `hi` to `lo` plus `n`, held at the field's maximum. -/
def bumpBy {w : Nat} (x : BitVec w) (hi lo n : Nat) : BitVec w :=
  setFld x hi lo (min (fld x hi lo + n) (2 ^ (hi + 1 - lo) - 1))

/-- A saturating counter field, plus one. -/
def bump {w : Nat} (x : BitVec w) (hi lo : Nat) : BitVec w := bumpBy x hi lo 1

/-- A word built from (high bit, low bit, value) fields; the rest is zero. -/
def pack : List (Nat × Nat × Nat) → Nat
  | [] => 0
  | (hi, lo, v) :: t => v % 2 ^ (hi + 1 - lo) * 2 ^ lo + pack t

/-- A 32-bit word built from fields. -/
def word (l : List (Nat × Nat × Nat)) : Word := BitVec.ofNat 32 (pack l)

/-- A two's complement value of `w` bits. -/
def sgn (w v : Nat) : Int := if v % 2 ^ w < 2 ^ (w - 1) then (v % 2 ^ w : Nat) else ((v % 2 ^ w : Nat) : Int) - (2 ^ w : Nat)

/-- The two's complement bits of an integer. -/
def unsgn (w : Nat) (v : Int) : Nat := (v % (2 ^ w : Nat)).toNat

/-- `p / q` rounded to the nearest integer, halves away from zero (R488), for naturals. -/
def roundDiv (p q : Nat) : Nat := (2 * p + q) / (2 * q)

/-- `p / q` rounded to the nearest integer, halves away from zero (R488); `q` is positive. -/
def roundDivI (p : Int) (q : Nat) : Int :=
  if 0 ≤ p then (roundDiv p.toNat q : Nat) else - ((roundDiv (-p).toNat q : Nat) : Int)

/-- The integer held between two bounds. -/
def clampI (lo hi v : Int) : Int := if v < lo then lo else if hi < v then hi else v

/-- The smallest multiple of `m` at or after `t`. -/
def ceilTo (m t : Nat) : Nat := (t + m - 1) / m * m

/-- The largest multiple of `m` at or before `t`. -/
def floorTo (m t : Nat) : Nat := t / m * m

/-- Insert into a list kept in rising order of `key`; equal keys keep their order of arrival. -/
def insertBy {α : Type} (key : α → Nat) (x : α) : List α → List α
  | [] => [x]
  | y :: t => if key x < key y then x :: y :: t else y :: insertBy key x t

/-- Sort by rising key, equal keys in their order of arrival. -/
def sortBy {α : Type} (key : α → Nat) (l : List α) : List α := l.foldl (fun a x => insertBy key x a) []

/-- The indices below `n`. -/
def below (n : Nat) : List Nat := List.range n

/-- The bytes of a little-endian value (R12). -/
def bytesLE : Nat → Nat → List Byte
  | 0, _ => []
  | n + 1, v => BitVec.ofNat 8 v :: bytesLE n (v / 256)

/-- The little-endian value of some bytes (R12). -/
def ofBytesLE : List Byte → Nat
  | [] => 0
  | b :: t => b.toNat + 256 * ofBytesLE t

end Sys2Proof.Machine
end

