-- ==== Sys2Proof/Machine/AngleMath.lean ====
section
/-! DEFINITION. The arithmetic of prediction, exact (R73 to R76, R80, R488).
Angles are in 1/16 au, times in ns, ω in 2⁻²⁰ au/µs, a in 2⁻³⁹ au/µs². With τ = p/q ns the angle travelled is
(ω·2²⁰·10³·p·q + a·p²) / (2³⁶·10⁶·q²) sixteenths of an au (R74). -/

namespace Sys2Proof.Machine

/-- 2³⁶·10⁶, the unit that turns sixteenths of an au into the polynomial's unit. -/
def angUnit : Int := 68719476736000000

/-- The travelled angle at τ = p/q ns, times `angUnit`·q² (R74, before any limit). -/
def travelPoly (om : Nat) (a : Int) (p q : Nat) : Int := (om : Int) * 1048576000 * p * q + a * p * p

/-- τ = p/q ns lies beyond ω/|a|, where a slowing trajectory stops (R74 limit 1). -/
def pastVertex (om : Nat) (a : Int) (p q : Nat) : Bool := decide (a < 0 ∧ (om : Int) * 524288000 * q < -a * p)

/-- A slowing trajectory comes as far as `D` sixteenths (its whole travel is 4ω²/|a|). -/
def vertexReaches (om : Nat) (a : Int) (D : Nat) : Bool := decide ((D : Int) * (-a) ≤ 4 * (om : Int) * om)

/-- The unfenced angle has travelled `D` sixteenths by τ = p/q ns. -/
def reached (om : Nat) (a : Int) (D p q : Nat) : Bool :=
  if pastVertex om a p q then vertexReaches om a D else decide ((D : Int) * angUnit * q * q ≤ travelPoly om a p q)

/-- The unfenced angle passes `D` sixteenths strictly before τ = p/q ns. -/
def reachedBefore (om : Nat) (a : Int) (D p q : Nat) : Bool :=
  if pastVertex om a p q then vertexReaches om a D else decide ((D : Int) * angUnit * q * q < travelPoly om a p q)

/-- Whole sixteenths of an au travelled at τ = n ns, with limit 1 of R74. -/
def travelFloor (om : Nat) (a : Int) (n : Nat) : Nat :=
  if pastVertex om a n 1 then 4 * om * om / (-a).toNat else (travelPoly om a n 1 / angUnit).toNat

/-- Whole au travelled beyond a start of `base` sixteenths, and whether that is exact. -/
def travelAu (om : Nat) (a : Int) (base n : Nat) : Nat × Bool :=
  if pastVertex om a n 1 then
    ((base + 4 * om * om / (-a).toNat) / 16, decide ((base * (-a).toNat + 4 * om * om) % (16 * (-a).toNat) = 0))
  else
    let x := (base : Int) * angUnit + travelPoly om a n 1
    ((x / (16 * angUnit)).toNat, decide (x % (16 * angUnit) = 0))

/-- The smallest `n` of `[lo, hi]` at which a rising test holds (`hi` if none below it does). -/
def bisect (f : Nat → Bool) : Nat → Nat → Nat → Nat
  | 0, _, hi => hi
  | k + 1, lo, hi =>
    if hi ≤ lo then hi
    else if f ((lo + hi) / 2) then bisect f k lo ((lo + hi) / 2) else bisect f k ((lo + hi) / 2 + 1) hi

/-- The predicted period to a tooth `D` sixteenths ahead (R75). -/
inductive Period where
  | root (om : Nat) (a : Int) (D : Nat)
  | line (num den : Nat)
  | unbounded
deriving DecidableEq, Repr

/-- The predicted period under R75: the root of the trajectory, else 2·Δ/ω, else unbounded. -/
def periodTo (om : Nat) (a : Int) (D : Nat) : Period :=
  if (a < 0 && ! vertexReaches om a D) || (a = 0 && om = 0) then
    (if om = 0 then .unbounded else .line (D * 131072000) om)
  else .root om a D

/-- The period is at most p/q ns. -/
def Period.le (P : Period) (p q : Nat) : Bool :=
  match P with
  | .root om a D => reached om a D p q
  | .line n d => decide (n * q ≤ p * d)
  | .unbounded => false

/-- The period is strictly below p/q ns. -/
def Period.lt (P : Period) (p q : Nat) : Bool :=
  match P with
  | .root om a D => reachedBefore om a D p q
  | .line n d => decide (n * q < p * d)
  | .unbounded => false

/-- The longest whole number of nanoseconds the roots are sought in. -/
def rootBound : Nat := 2 ^ 56

/-- (m/d)·P rounded to the nearest nanosecond, halves up (R488); none while P is unbounded. -/
def Period.near (P : Period) (m d : Nat) : Option Nat :=
  match P with
  | .unbounded => none
  | .line n e => some (roundDiv (n * m) (e * d))
  | .root om a D => some (bisect (fun n => reachedBefore om a D (d * (2 * n + 1)) (2 * m)) 60 0 rootBound)

/-- Speed and acceleration of a fit (R73): ω, a and α in their formats. -/
structure Fit where
  om : Nat := 0
  a : Int := 0
  al : Int := 0
deriving DecidableEq, Repr

/-- ω = v + a·T/2 rounded and clamped to R5, with v = D/(16·q·T) and a = numA/denA. -/
def fitOmega (D q T : Nat) (numA : Int) (denA : Nat) : Nat :=
  (clampI 0 1073741823 (roundDivI (((D : Int) * 2000000 * denA + numA * T * (16 * q * T)) * 1048576) (32000 * q * T * denA))).toNat

/-- The fit of R73 over the periods `T1 T2 T3` (ns) and spans `D1 D2 D3` (sixteenths of an au, over `q`), weight `W`. -/
def fit3 (W q T1 T2 T3 D1 D2 D3 : Nat) : Fit :=
  let w := min W 16
  let numA : Int := 2000000 * ((w : Int) * ((D3 : Int) * T2 - (D2 : Int) * T3) * (T1 * (T1 + T2))
    + ((16 - w : Nat) : Int) * ((D2 : Int) * T1 - (D1 : Int) * T2) * (T3 * (T2 + T3)))
  let denA : Nat := 256 * q * (T1 * T2 * T3 * ((T1 + T2) * (T2 + T3)))
  { om := fitOmega D3 q T3 numA denA
    a := clampI (-549755813888) 549755813887 (roundDivI (numA * 549755813888) denA)
    al := clampI (-536870912) 536870911 (roundDivI (numA * 1048576000) denA) }

/-- ω at the third restart edge, from the two periods between the restart edges (R80). -/
def fitRestart (T1 T2 D1 D2 : Nat) : Nat :=
  fitOmega D2 1 T2 (2000000 * ((D2 : Int) * T1 - (D1 : Int) * T2)) (16 * (T1 * T2 * (T1 + T2)))

end Sys2Proof.Machine
end

