-- ==== Sys2Proof/Machine/Regs.lean ====
section
/-! DEFINITION. The setup registers of BAR0: where each lies, its reset value, and which of its bits a plain write
changes, written from the register tables of the chapters (R15, R16, R258, R259). Bits that a chapter computes from
other state are RO here and are laid over the stored word when the register is read. -/

namespace Sys2Proof.Machine

/-- ID_DEV (R261). -/
abbrev rID_DEV : Nat := 0x0000
/-- ID_REV (R261). -/
abbrev rID_REV : Nat := 0x0004
/-- ID_ADDR (R261). -/
abbrev rID_ADDR : Nat := 0x0008
/-- ID_UID_LO (R261). -/
abbrev rID_UID_LO : Nat := 0x000C
/-- ID_UID_HI (R261). -/
abbrev rID_UID_HI : Nat := 0x0010
/-- ID_RES (R261). -/
abbrev rID_RES : Nat := 0x0014
/-- FUSE_SUM (R261). -/
abbrev rFUSE_SUM : Nat := 0x0020
/-- SAFE_STAT (R474). -/
abbrev rSAFE_STAT : Nat := 0x0100
/-- SAFE_CAUSE (R474). -/
abbrev rSAFE_CAUSE : Nat := 0x0104
/-- SAFE_CTRL (R474). -/
abbrev rSAFE_CTRL : Nat := 0x0108
/-- SAFE_CNT (R474). -/
abbrev rSAFE_CNT : Nat := 0x010C
/-- PWR_STAT (R454). -/
abbrev rPWR_STAT : Nat := 0x0400
/-- PWR_VSUP (R454). -/
abbrev rPWR_VSUP : Nat := 0x0404
/-- PWR_MEAS (R454). -/
abbrev rPWR_MEAS : Nat := 0x0408
/-- PWR_CNT (R454). -/
abbrev rPWR_CNT : Nat := 0x040C
/-- RUN_CTRL (R454). -/
abbrev rRUN_CTRL : Nat := 0x0410
/-- RST_CAUSE (R454). -/
abbrev rRST_CAUSE : Nat := 0x0414
/-- RST_CTRL (R454). -/
abbrev rRST_CTRL : Nat := 0x0418
/-- CLK_CFG (R454). -/
abbrev rCLK_CFG : Nat := 0x041C
/-- CLK_STAT (R454). -/
abbrev rCLK_STAT : Nat := 0x0420
/-- XING_CNT (R454). -/
abbrev rXING_CNT : Nat := 0x0424
/-- PWR_TEMP (R454). -/
abbrev rPWR_TEMP : Nat := 0x0428
/-- HL_STAT (R265). -/
abbrev rHL_STAT : Nat := 0x0800
/-- HL_ERR (R265). -/
abbrev rHL_ERR : Nat := 0x0804
/-- DB_BASE_LO (R265). -/
abbrev rDB_BASE_LO : Nat := 0x0808
/-- DB_BASE_HI (R265). -/
abbrev rDB_BASE_HI : Nat := 0x080C
/-- DB_POLL (R265). -/
abbrev rDB_POLL : Nat := 0x0810
/-- HL_LIVE (R265). -/
abbrev rHL_LIVE : Nat := 0x0814
/-- HL_HB (R265). -/
abbrev rHL_HB : Nat := 0x0818
/-- RS_CFG (R296). -/
abbrev rRS_CFG (i : Nat) : Nat := 0x0840 + 0x20 * i
/-- RS_BASE_LO (R296). -/
abbrev rRS_BASE_LO (i : Nat) : Nat := 0x0844 + 0x20 * i
/-- RS_BASE_HI (R296). -/
abbrev rRS_BASE_HI (i : Nat) : Nat := 0x0848 + 0x20 * i
/-- RS_STAT (R296). -/
abbrev rRS_STAT (i : Nat) : Nat := 0x084C + 0x20 * i
/-- RS_SEQ (R296). -/
abbrev rRS_SEQ (i : Nat) : Nat := 0x0850 + 0x20 * i
/-- MBX_BASE_LO (R296). -/
abbrev rMBX_BASE_LO : Nat := 0x0940
/-- MBX_BASE_HI (R296). -/
abbrev rMBX_BASE_HI : Nat := 0x0944
/-- QE_STAT (R296). -/
abbrev rQE_STAT : Nat := 0x0948
/-- QE_STALL (R296). -/
abbrev rQE_STALL : Nat := 0x094C
/-- QP_CFG (R296). -/
abbrev rQP_CFG (i : Nat) : Nat := 0x1000 + 0x40 * i
/-- QP_STAT (R296). -/
abbrev rQP_STAT (i : Nat) : Nat := 0x1004 + 0x40 * i
/-- QP_SQ_LO (R296). -/
abbrev rQP_SQ_LO (i : Nat) : Nat := 0x1008 + 0x40 * i
/-- QP_SQ_HI (R296). -/
abbrev rQP_SQ_HI (i : Nat) : Nat := 0x100C + 0x40 * i
/-- QP_CQ_LO (R296). -/
abbrev rQP_CQ_LO (i : Nat) : Nat := 0x1010 + 0x40 * i
/-- QP_CQ_HI (R296). -/
abbrev rQP_CQ_HI (i : Nat) : Nat := 0x1014 + 0x40 * i
/-- QP_CSEQ (R296). -/
abbrev rQP_CSEQ (i : Nat) : Nat := 0x1018 + 0x40 * i
/-- QP_CNT (R296). -/
abbrev rQP_CNT (i : Nat) : Nat := 0x101C + 0x40 * i
/-- QP_OWN (R296). -/
abbrev rQP_OWN (i j : Nat) : Nat := 0x1020 + 0x40 * i + 0x4 * j
/-- INT_SRC (R412). -/
abbrev rINT_SRC (i : Nat) : Nat := 0x1800 + 0x4 * i
/-- INT_THR (R412). -/
abbrev rINT_THR (i : Nat) : Nat := 0x1D00 + 0x10 * i
/-- INT_TSTAT (R412). -/
abbrev rINT_TSTAT (i : Nat) : Nat := 0x1D04 + 0x10 * i
/-- INT_TCNT (R412). -/
abbrev rINT_TCNT (i : Nat) : Nat := 0x1D08 + 0x10 * i
/-- IE_TGT (R412). -/
abbrev rIE_TGT : Nat := 0x1E40
/-- INT_CFG (R412). -/
abbrev rINT_CFG : Nat := 0x1E44
/-- INT_RNPOP (R412). -/
abbrev rINT_RNPOP : Nat := 0x1E48
/-- INT_RCPL (R412). -/
abbrev rINT_RCPL : Nat := 0x1E4C
/-- INT_GSTAT (R412). -/
abbrev rINT_GSTAT : Nat := 0x1E50
/-- AON_WATCH (R412). -/
abbrev rAON_WATCH : Nat := 0x1E80
/-- AON_CAUSE (R412). -/
abbrev rAON_CAUSE : Nat := 0x1E84
/-- AON_TICKS (R412). -/
abbrev rAON_TICKS : Nat := 0x1E88
/-- KR_CFG (R352). -/
abbrev rKR_CFG : Nat := 0x2000
/-- KR_STAT (R352). -/
abbrev rKR_STAT : Nat := 0x2004
/-- KR_PORT (R352). -/
abbrev rKR_PORT : Nat := 0x2008
/-- KR_HOP (R352). -/
abbrev rKR_HOP : Nat := 0x200C
/-- KR_DLY_A (R352). -/
abbrev rKR_DLY_A : Nat := 0x2010
/-- KR_DLY_B (R352). -/
abbrev rKR_DLY_B : Nat := 0x2014
/-- KR_TIME (R352). -/
abbrev rKR_TIME : Nat := 0x2018
/-- KR_TMO (R352). -/
abbrev rKR_TMO : Nat := 0x201C
/-- KR_CNT_A (R352). -/
abbrev rKR_CNT_A : Nat := 0x2020
/-- KR_CNT_B (R352). -/
abbrev rKR_CNT_B : Nat := 0x2024
/-- KR_BREAK (R352). -/
abbrev rKR_BREAK : Nat := 0x2028
/-- KR_WAKE (R352). -/
abbrev rKR_WAKE : Nat := 0x202C
/-- WHL_CFG (R49). -/
abbrev rWHL_CFG (i : Nat) : Nat := 0x2400 + 0x40 * i
/-- WHL_VR (R49). -/
abbrev rWHL_VR (i : Nat) : Nat := 0x2404 + 0x40 * i
/-- WHL_HALL (R49). -/
abbrev rWHL_HALL (i : Nat) : Nat := 0x2408 + 0x40 * i
/-- WHL_FILT (R49). -/
abbrev rWHL_FILT (i : Nat) : Nat := 0x240C + 0x40 * i
/-- WHL_DIR (R49). -/
abbrev rWHL_DIR (i : Nat) : Nat := 0x2410 + 0x40 * i
/-- WHL_PLAUS (R49). -/
abbrev rWHL_PLAUS (i : Nat) : Nat := 0x2414 + 0x40 * i
/-- WHL_STAT (R49). -/
abbrev rWHL_STAT (i : Nat) : Nat := 0x2418 + 0x40 * i
/-- WHL_CNT_REJ (R49). -/
abbrev rWHL_CNT_REJ (i : Nat) : Nat := 0x241C + 0x40 * i
/-- WHL_CNT_EDGE (R49). -/
abbrev rWHL_CNT_EDGE (i : Nat) : Nat := 0x2420 + 0x40 * i
/-- WHL_LAST_TS_LO (R49). -/
abbrev rWHL_LAST_TS_LO (i : Nat) : Nat := 0x2424 + 0x40 * i
/-- WHL_LAST_TS_HI (R49). -/
abbrev rWHL_LAST_TS_HI (i : Nat) : Nat := 0x2428 + 0x40 * i
/-- ADOM_CFG (R90). -/
abbrev rADOM_CFG (i : Nat) : Nat := 0x2800 + 0x100 * i
/-- ADOM_GAP (R90). -/
abbrev rADOM_GAP (i : Nat) : Nat := 0x2804 + 0x100 * i
/-- ADOM_TMO (R90). -/
abbrev rADOM_TMO (i : Nat) : Nat := 0x2808 + 0x100 * i
/-- ADOM_LEARN (R90). -/
abbrev rADOM_LEARN (i : Nat) : Nat := 0x280C + 0x100 * i
/-- ADOM_LOG (R90). -/
abbrev rADOM_LOG (i : Nat) : Nat := 0x2810 + 0x100 * i
/-- ADOM_STAT (R90). -/
abbrev rADOM_STAT (i : Nat) : Nat := 0x2814 + 0x100 * i
/-- ADOM_CNT_SYNC (R90). -/
abbrev rADOM_CNT_SYNC (i : Nat) : Nat := 0x2818 + 0x100 * i
/-- ADOM_CNT_TOOTH (R90). -/
abbrev rADOM_CNT_TOOTH (i : Nat) : Nat := 0x281C + 0x100 * i
/-- ADOM_SNAP (R91). -/
abbrev rADOM_SNAP (i : Nat) : Nat := 0x2820 + 0x100 * i
/-- ADOM_SNAP_ANGLE (R91). -/
abbrev rADOM_SNAP_ANGLE (i : Nat) : Nat := 0x2824 + 0x100 * i
/-- ADOM_SNAP_OMEGA (R91). -/
abbrev rADOM_SNAP_OMEGA (i : Nat) : Nat := 0x2828 + 0x100 * i
/-- ADOM_SNAP_ALPHA (R91). -/
abbrev rADOM_SNAP_ALPHA (i : Nat) : Nat := 0x282C + 0x100 * i
/-- ADOM_SNAP_TS_LO (R91). -/
abbrev rADOM_SNAP_TS_LO (i : Nat) : Nat := 0x2830 + 0x100 * i
/-- ADOM_SNAP_TS_HI (R91). -/
abbrev rADOM_SNAP_TS_HI (i : Nat) : Nat := 0x2834 + 0x100 * i
/-- ADOM_SNAP_CYCLE (R91). -/
abbrev rADOM_SNAP_CYCLE (i : Nat) : Nat := 0x2838 + 0x100 * i
/-- SCHED_CFG (R124). -/
abbrev rSCHED_CFG : Nat := 0x2C00
/-- SCHED_STAT (R124). -/
abbrev rSCHED_STAT : Nat := 0x2C04
/-- SCHED_CNT_A (R124). -/
abbrev rSCHED_CNT_A : Nat := 0x2C08
/-- SCHED_CNT_B (R124). -/
abbrev rSCHED_CNT_B : Nat := 0x2C0C
/-- SCHED_CNT_C (R124). -/
abbrev rSCHED_CNT_C : Nat := 0x2C10
/-- SCHED_PEEK (R124). -/
abbrev rSCHED_PEEK : Nat := 0x2C14
/-- SCHED_PEEK_STAT (R124). -/
abbrev rSCHED_PEEK_STAT : Nat := 0x2C18
/-- SCHED_PEEK_END (R124). -/
abbrev rSCHED_PEEK_END : Nat := 0x2C1C
/-- SCHED_PEEK_START (R124). -/
abbrev rSCHED_PEEK_START : Nat := 0x2C20
/-- ACT_LANES (R161). -/
abbrev rACT_LANES (i : Nat) : Nat := 0x3000 + 0x10 * i
/-- ACT_CFG (R161). -/
abbrev rACT_CFG (i : Nat) : Nat := 0x3004 + 0x10 * i
/-- ACT_SAFE (R161). -/
abbrev rACT_SAFE (i : Nat) : Nat := 0x3008 + 0x10 * i
/-- ACT_STAT (R161). -/
abbrev rACT_STAT (i : Nat) : Nat := 0x300C + 0x10 * i
/-- BANK_CFG (R161). -/
abbrev rBANK_CFG (i : Nat) : Nat := 0x3600 + 0x4 * i
/-- PROF_VALID_LO (R161). -/
abbrev rPROF_VALID_LO : Nat := 0x3680
/-- PROF_VALID_HI (R161). -/
abbrev rPROF_VALID_HI : Nat := 0x3684
/-- BANK_INUSE (R161). -/
abbrev rBANK_INUSE : Nat := 0x3688
/-- ACT_GSTAT (R161). -/
abbrev rACT_GSTAT : Nat := 0x368C
/-- LANE_CFG (R196). -/
abbrev rLANE_CFG (i : Nat) : Nat := 0x3700 + 0x8 * i
/-- LANE_TRIM (R196). -/
abbrev rLANE_TRIM (i : Nat) : Nat := 0x3704 + 0x8 * i
/-- TRAY_VD (R196). -/
abbrev rTRAY_VD (i : Nat) : Nat := 0x3D00 + 0x40 * i
/-- TRAY_CNT (R196). -/
abbrev rTRAY_CNT (i : Nat) : Nat := 0x3D04 + 0x40 * i
/-- TRAY_OC_LO (R196). -/
abbrev rTRAY_OC_LO (i : Nat) : Nat := 0x3D08 + 0x40 * i
/-- TRAY_OC_HI (R196). -/
abbrev rTRAY_OC_HI (i : Nat) : Nat := 0x3D0C + 0x40 * i
/-- TRAY_PEEK (R196). -/
abbrev rTRAY_PEEK (i : Nat) : Nat := 0x3D10 + 0x40 * i
/-- TRAY_PEEK_DATA (R196). -/
abbrev rTRAY_PEEK_DATA (i : Nat) : Nat := 0x3D14 + 0x40 * i
/-- SFB_SIG_A (R196). -/
abbrev rSFB_SIG_A (i j : Nat) : Nat := 0x3D18 + 0x40 * i + 0x8 * j
/-- SFB_SIG_B (R196). -/
abbrev rSFB_SIG_B (i j : Nat) : Nat := 0x3D1C + 0x40 * i + 0x8 * j
/-- SFB_ACT (R196). -/
abbrev rSFB_ACT (i : Nat) : Nat := 0x3E00 + 0x4 * i
/-- SFB_FROZEN (R196). -/
abbrev rSFB_FROZEN (i : Nat) : Nat := 0x3F80 + 0x4 * i
/-- SFB_CNT_A (R196). -/
abbrev rSFB_CNT_A : Nat := 0x3F8C
/-- SFB_CNT_B (R196). -/
abbrev rSFB_CNT_B : Nat := 0x3F90
/-- SFB_CNT_C (R196). -/
abbrev rSFB_CNT_C : Nat := 0x3F94
/-- BST_CFG (R219). -/
abbrev rBST_CFG (i : Nat) : Nat := 0x4000 + 0x40 * i
/-- BST_SET (R219). -/
abbrev rBST_SET (i : Nat) : Nat := 0x4004 + 0x40 * i
/-- BST_ADAPT (R219). -/
abbrev rBST_ADAPT (i : Nat) : Nat := 0x4008 + 0x40 * i
/-- BST_LIM (R219). -/
abbrev rBST_LIM (i : Nat) : Nat := 0x400C + 0x40 * i
/-- BST_STAT (R220). -/
abbrev rBST_STAT (i : Nat) : Nat := 0x4010 + 0x40 * i
/-- BST_MEAS (R220). -/
abbrev rBST_MEAS (i : Nat) : Nat := 0x4014 + 0x40 * i
/-- BST_E_DRV (R220). -/
abbrev rBST_E_DRV (i : Nat) : Nat := 0x4018 + 0x40 * i
/-- BST_E_RCV (R220). -/
abbrev rBST_E_RCV (i : Nat) : Nat := 0x401C + 0x40 * i
/-- BST_CNT (R220). -/
abbrev rBST_CNT (i : Nat) : Nat := 0x4020 + 0x40 * i
/-- BST_HOLD (R220). -/
abbrev rBST_HOLD : Nat := 0x4200
/-- BST_GSTAT (R220). -/
abbrev rBST_GSTAT : Nat := 0x4204
/-- TMR_CFG (R391). -/
abbrev rTMR_CFG (i : Nat) : Nat := 0x4400 + 0x10 * i
/-- TMR_AUX (R391). -/
abbrev rTMR_AUX (i : Nat) : Nat := 0x4404 + 0x10 * i
/-- TMR_CMP (R391). -/
abbrev rTMR_CMP (i : Nat) : Nat := 0x4408 + 0x10 * i
/-- TMR_COUNT (R391). -/
abbrev rTMR_COUNT (i : Nat) : Nat := 0x440C + 0x10 * i
/-- TMR_START (R391). -/
abbrev rTMR_START : Nat := 0x4600
/-- TMR_STOP (R391). -/
abbrev rTMR_STOP : Nat := 0x4604
/-- TMR_ARM (R391). -/
abbrev rTMR_ARM : Nat := 0x4608
/-- TMR_RUN (R391). -/
abbrev rTMR_RUN : Nat := 0x460C
/-- TMR_MATCH (R391). -/
abbrev rTMR_MATCH : Nat := 0x4610
/-- TMR_OVF (R391). -/
abbrev rTMR_OVF : Nat := 0x4614
/-- TMR_GSTAT (R391). -/
abbrev rTMR_GSTAT : Nat := 0x4618
/-- PZ_CLK (R376). -/
abbrev rPZ_CLK (i : Nat) : Nat := 0x4800 + 0x40 * i
/-- PZ_EXEC (R376). -/
abbrev rPZ_EXEC (i : Nat) : Nat := 0x4804 + 0x40 * i
/-- PZ_SHIFT (R376). -/
abbrev rPZ_SHIFT (i : Nat) : Nat := 0x4808 + 0x40 * i
/-- PZ_REC (R376). -/
abbrev rPZ_REC (i : Nat) : Nat := 0x480C + 0x40 * i
/-- PZ_PINS (R376). -/
abbrev rPZ_PINS (i : Nat) : Nat := 0x4810 + 0x40 * i
/-- PZ_STAT (R376). -/
abbrev rPZ_STAT (i : Nat) : Nat := 0x4814 + 0x40 * i
/-- PZ_X (R376). -/
abbrev rPZ_X (i : Nat) : Nat := 0x4818 + 0x40 * i
/-- PZ_Y (R376). -/
abbrev rPZ_Y (i : Nat) : Nat := 0x481C + 0x40 * i
/-- PZ_SH (R376). -/
abbrev rPZ_SH (i : Nat) : Nat := 0x4820 + 0x40 * i
/-- PZ_CNT (R376). -/
abbrev rPZ_CNT (i : Nat) : Nat := 0x4828 + 0x40 * i
/-- PZ_IEN (R376). -/
abbrev rPZ_IEN (i : Nat) : Nat := 0x482C + 0x40 * i
/-- PZG_CTRL (R376). -/
abbrev rPZG_CTRL (i : Nat) : Nat := 0x4C00 + 0x10 * i
/-- PZG_STAT (R376). -/
abbrev rPZG_STAT (i : Nat) : Nat := 0x4C04 + 0x10 * i
/-- PZ_FLAGS (R376). -/
abbrev rPZ_FLAGS : Nat := 0x4D00
/-- PZ_FLAG_SET (R376). -/
abbrev rPZ_FLAG_SET : Nat := 0x4D04
/-- PZ_FLAG_CLR (R376). -/
abbrev rPZ_FLAG_CLR : Nat := 0x4D08
/-- PZ_PIN_IN (R376). -/
abbrev rPZ_PIN_IN : Nat := 0x4D0C
/-- PZ_OWN_EN (R376). -/
abbrev rPZ_OWN_EN : Nat := 0x4D10
/-- PZ_OWN_GLO (R376). -/
abbrev rPZ_OWN_GLO : Nat := 0x4D14
/-- PZ_OWN_GHI (R376). -/
abbrev rPZ_OWN_GHI : Nat := 0x4D18
/-- PZ_SAFE_OE (R376). -/
abbrev rPZ_SAFE_OE : Nat := 0x4D1C
/-- PZ_SAFE_VAL (R376). -/
abbrev rPZ_SAFE_VAL : Nat := 0x4D20
/-- JRN_CFG (R434). -/
abbrev rJRN_CFG : Nat := 0x6000
/-- JRN_STAT (R434). -/
abbrev rJRN_STAT : Nat := 0x6004
/-- JRN_FILL (R434). -/
abbrev rJRN_FILL : Nat := 0x6008
/-- JRN_GEN (R434). -/
abbrev rJRN_GEN : Nat := 0x600C
/-- JRN_SEQ (R434). -/
abbrev rJRN_SEQ : Nat := 0x6010
/-- JRN_CNT (R434). -/
abbrev rJRN_CNT : Nat := 0x6014
/-- JRN_WEAR (R434). -/
abbrev rJRN_WEAR (i : Nat) : Nat := 0x6018 + 0x4 * i
/-- PM_ACT (R434). -/
abbrev rPM_ACT (i : Nat) : Nat := 0x7000 + 0x4 * i
/-- PM_LANE (R434). -/
abbrev rPM_LANE (i : Nat) : Nat := 0x7180 + 0x4 * i
/-- PM_FULLQP (R434). -/
abbrev rPM_FULLQP : Nat := 0x7198
/-- PM_GLOBAL (R434). -/
abbrev rPM_GLOBAL : Nat := 0x719C
/-- PM_PZ_EN (R434). -/
abbrev rPM_PZ_EN : Nat := 0x71A0
/-- PM_PZ_GLO (R434). -/
abbrev rPM_PZ_GLO : Nat := 0x71A4
/-- PM_PZ_GHI (R434). -/
abbrev rPM_PZ_GHI : Nat := 0x71A8
/-- FUSE_CTRL (R434). -/
abbrev rFUSE_CTRL : Nat := 0x7200
/-- FUSE_STAT (R434). -/
abbrev rFUSE_STAT : Nat := 0x7204
/-- FUSE_ADDR (R434). -/
abbrev rFUSE_ADDR : Nat := 0x7208
/-- FUSE_RD_LO (R434). -/
abbrev rFUSE_RD_LO : Nat := 0x720C
/-- FUSE_RD_HI (R434). -/
abbrev rFUSE_RD_HI : Nat := 0x7210
/-- FUSE_KEY (R434). -/
abbrev rFUSE_KEY : Nat := 0x7214
/-- DIAG_TTP (R248). -/
abbrev rDIAG_TTP (i : Nat) : Nat := 0x7800 + 0x10 * i
/-- DIAG_LIM (R248). -/
abbrev rDIAG_LIM (i : Nat) : Nat := 0x7804 + 0x10 * i
/-- DIAG_REACT (R248). -/
abbrev rDIAG_REACT (i : Nat) : Nat := 0x7808 + 0x10 * i
/-- DIAG_DUTY (R248). -/
abbrev rDIAG_DUTY (i : Nat) : Nat := 0x780C + 0x10 * i
/-- DIAG_AST (R248). -/
abbrev rDIAG_AST (i : Nat) : Nat := 0x7E00 + 0x4 * i
/-- DIAG_CFG (R248). -/
abbrev rDIAG_CFG : Nat := 0x7F80
/-- DIAG_SAFE (R248). -/
abbrev rDIAG_SAFE : Nat := 0x7F84
/-- DIAG_FIFO (R248). -/
abbrev rDIAG_FIFO : Nat := 0x7F88
/-- DIAG_LOST (R248). -/
abbrev rDIAG_LOST : Nat := 0x7F8C
/-- DIAG_COAL (R248). -/
abbrev rDIAG_COAL (i : Nat) : Nat := 0x7F90 + 0x4 * i
/-- DIAG_DIS (R248). -/
abbrev rDIAG_DIS (i : Nat) : Nat := 0x7FA0 + 0x4 * i
/-- DIAG_GSTAT (R248). -/
abbrev rDIAG_GSTAT : Nat := 0x7FAC
/-- TRAY_TEMP (R248). -/
abbrev rTRAY_TEMP (i : Nat) : Nat := 0x7FB0 + 0x4 * i
/-- MEM_CFG (R434). -/
abbrev rMEM_CFG : Nat := 0x7FC0
/-- MEM_STAT (R434). -/
abbrev rMEM_STAT : Nat := 0x7FC4
/-- MEM_LAST (R434). -/
abbrev rMEM_LAST : Nat := 0x7FC8
/-- MEM_CNT (R434). -/
abbrev rMEM_CNT : Nat := 0x7FCC
/-- NV_CNT (R434). -/
abbrev rNV_CNT : Nat := 0x7FD0

/-- One register, or a family at a fixed stride: base, stride, count, reset value, bits a write stores, bits a
write of 1 clears, and the bits kept through a reset that keeps the always-on island (RWS). -/
structure RegRow where
  base : Nat
  stride : Nat
  count : Nat
  reset : Nat
  rw : Nat
  w1c : Nat
  rws : Nat
deriving DecidableEq, Repr

/-- The registers of block Id (Table 9.2). -/
def rowsId : List RegRow :=
  [⟨0x0000, 0x4, 1, 0x01921FB2, 0x00000000, 0x00000000, 0x00000000⟩,
   ⟨0x0004, 0x4, 1, 0x00000200, 0x00000000, 0x00000000, 0x00000000⟩,
   ⟨0x0008, 0x4, 1, 0x00000FFF, 0x00000000, 0x00000000, 0x00000000⟩,
   ⟨0x000C, 0x4, 1, 0x00000000, 0x00000000, 0x00000000, 0x00000000⟩,
   ⟨0x0010, 0x4, 1, 0x00000000, 0x00000000, 0x00000000, 0x00000000⟩,
   ⟨0x0014, 0x4, 1, 0x00F00000, 0x00000000, 0x00000000, 0x00000000⟩,
   ⟨0x0020, 0x4, 1, 0x00000000, 0x00000000, 0x00000000, 0x00000000⟩,
   ⟨0x0100, 0x4, 1, 0x00000000, 0x00000000, 0x20000000, 0x00000000⟩,
   ⟨0x0104, 0x4, 1, 0x00000000, 0x00000000, 0x000003FF, 0x00000000⟩,
   ⟨0x0108, 0x4, 1, 0x00000000, 0x00000000, 0x00000000, 0x00000000⟩,
   ⟨0x010C, 0x4, 1, 0x00000000, 0x00000000, 0x00000000, 0x00000000⟩]

/-- The registers of block Pwr (Table 9.2). -/
def rowsPwr : List RegRow :=
  [⟨0x0400, 0x4, 1, 0x00000000, 0x00000000, 0x07E00000, 0x00000000⟩,
   ⟨0x0404, 0x4, 1, 0x118A2000, 0xFFFFF000, 0x00000000, 0x00000000⟩,
   ⟨0x0408, 0x4, 1, 0x00000000, 0x00000000, 0x00000000, 0x00000000⟩,
   ⟨0x040C, 0x4, 1, 0x00000000, 0x00000000, 0x00000000, 0x00000000⟩,
   ⟨0x0410, 0x4, 1, 0x00000000, 0x00000000, 0x04000000, 0x00000000⟩,
   ⟨0x0414, 0x4, 1, 0x00000000, 0x00000000, 0x0000003F, 0x00000000⟩,
   ⟨0x0418, 0x4, 1, 0x00000000, 0x00000000, 0x00000000, 0x00000000⟩,
   ⟨0x041C, 0x4, 1, 0x00000000, 0xC0000000, 0x00000000, 0xC0000000⟩,
   ⟨0x0420, 0x4, 1, 0x00000000, 0x00000000, 0x10000000, 0x00000000⟩,
   ⟨0x0424, 0x4, 1, 0x00000000, 0x00000000, 0x00000000, 0x00000000⟩,
   ⟨0x0428, 0x4, 1, 0x66000000, 0xFFC00000, 0x00000000, 0x00000000⟩]

/-- The registers of block Host (Table 9.2). -/
def rowsHost : List RegRow :=
  [⟨0x0800, 0x4, 1, 0x00000000, 0x00000000, 0x01C00000, 0x00000000⟩,
   ⟨0x0804, 0x4, 1, 0x00000000, 0x00000000, 0x00000000, 0x00000000⟩,
   ⟨0x0808, 0x4, 1, 0x00000000, 0xFFFFF000, 0x00000000, 0x00000000⟩,
   ⟨0x080C, 0x4, 1, 0x00000000, 0xFFFFFFFF, 0x00000000, 0x00000000⟩,
   ⟨0x0810, 0x4, 1, 0x00000003, 0x800000FF, 0x00000000, 0x00000000⟩,
   ⟨0x0814, 0x4, 1, 0x000003E8, 0x8000FFFF, 0x00000000, 0x00000000⟩,
   ⟨0x0818, 0x4, 1, 0x00000000, 0x00000000, 0x00000000, 0x00000000⟩]

/-- The registers of block Stream (Table 9.2). -/
def rowsStream : List RegRow :=
  [⟨0x0840, 0x20, 8, 0x04000000, 0x9F000000, 0x00000000, 0x00000000⟩,
   ⟨0x0844, 0x20, 8, 0x00000000, 0xFFFFFE00, 0x00000000, 0x00000000⟩,
   ⟨0x0848, 0x20, 8, 0x00000000, 0xFFFFFFFF, 0x00000000, 0x00000000⟩,
   ⟨0x084C, 0x20, 8, 0x80000000, 0x00000000, 0x40000000, 0x00000000⟩,
   ⟨0x0850, 0x20, 8, 0xFFFF0000, 0x00000000, 0x00000000, 0x00000000⟩,
   ⟨0x0940, 0x4, 1, 0x00000000, 0xFFFFFC00, 0x00000000, 0x00000000⟩,
   ⟨0x0944, 0x4, 1, 0x00000000, 0xFFFFFFFF, 0x00000000, 0x00000000⟩,
   ⟨0x0948, 0x4, 1, 0x00000000, 0x00000000, 0x80000000, 0x00000000⟩,
   ⟨0x094C, 0x4, 1, 0x00000000, 0x00000000, 0x00000000, 0x00000000⟩]

/-- The registers of block Qp (Table 9.2). -/
def rowsQp : List RegRow :=
  [⟨0x1000, 0x40, 32, 0x04044000, 0x9F1F7F00, 0x00000000, 0x00000000⟩,
   ⟨0x1004, 0x40, 32, 0x00000000, 0x00000000, 0x30000000, 0x00000000⟩,
   ⟨0x1008, 0x40, 32, 0x00000000, 0xFFFFFE00, 0x00000000, 0x00000000⟩,
   ⟨0x100C, 0x40, 32, 0x00000000, 0xFFFFFFFF, 0x00000000, 0x00000000⟩,
   ⟨0x1010, 0x40, 32, 0x00000000, 0xFFFFFE00, 0x00000000, 0x00000000⟩,
   ⟨0x1014, 0x40, 32, 0x00000000, 0xFFFFFFFF, 0x00000000, 0x00000000⟩,
   ⟨0x1018, 0x40, 32, 0xFFFF0000, 0x00000000, 0x00000000, 0x00000000⟩,
   ⟨0x101C, 0x40, 32, 0x00000000, 0x00000000, 0x00000000, 0x00000000⟩,
   ⟨0x1020, 0x40, 32, 0x00000000, 0x00000000, 0x00000000, 0x00000000⟩,
   ⟨0x1024, 0x40, 32, 0x00000000, 0x00000000, 0x00000000, 0x00000000⟩,
   ⟨0x1028, 0x40, 32, 0x00000000, 0x00000000, 0x00000000, 0x00000000⟩]

/-- The registers of block Int (Table 9.2). -/
def rowsInt : List RegRow :=
  [⟨0x1800, 0x4, 320, 0x00000000, 0x001F000F, 0x00000000, 0x00000000⟩,
   ⟨0x1D00, 0x10, 17, 0x00000000, 0x0000000F, 0x00000000, 0x00000000⟩,
   ⟨0x1D04, 0x10, 17, 0x0FFC0000, 0x00000000, 0x00000000, 0x00000000⟩,
   ⟨0x1D08, 0x10, 17, 0x00000000, 0x00000000, 0x00000000, 0x00000000⟩,
   ⟨0x1E40, 0x4, 1, 0x00000000, 0x0001FFFF, 0x00000000, 0x00000000⟩,
   ⟨0x1E44, 0x4, 1, 0x80000000, 0x80000000, 0x00000000, 0x00000000⟩,
   ⟨0x1E48, 0x4, 1, 0x00000000, 0x00000000, 0x00000000, 0x00000000⟩,
   ⟨0x1E4C, 0x4, 1, 0x00000000, 0x00000000, 0x00000000, 0x00000000⟩,
   ⟨0x1E50, 0x4, 1, 0x00000000, 0x00000000, 0x00000000, 0x00000000⟩,
   ⟨0x1E80, 0x4, 1, 0x00008000, 0xFFFFE000, 0x00000000, 0xFFFFE000⟩,
   ⟨0x1E84, 0x4, 1, 0x00000000, 0x00000000, 0x0000007F, 0x00000000⟩,
   ⟨0x1E88, 0x4, 1, 0x00000000, 0x00000000, 0x00000000, 0x00000000⟩]

/-- The registers of block Kr (Table 9.2). -/
def rowsKr : List RegRow :=
  [⟨0x2000, 0x4, 1, 0x000A28E4, 0xCFFFFFFF, 0x00000000, 0x40000000⟩,
   ⟨0x2004, 0x4, 1, 0x00000000, 0x00000000, 0x020000FF, 0x00000000⟩,
   ⟨0x2008, 0x4, 1, 0x00000000, 0x00000000, 0x00000000, 0x00000000⟩,
   ⟨0x200C, 0x4, 1, 0x0000FFFF, 0x00000000, 0x00000000, 0x00000000⟩,
   ⟨0x2010, 0x4, 1, 0xFFFFFFFF, 0x00000000, 0x00000000, 0x00000000⟩,
   ⟨0x2014, 0x4, 1, 0xFFFFFFFF, 0x00000000, 0x00000000, 0x00000000⟩,
   ⟨0x2018, 0x4, 1, 0x00000000, 0x00000000, 0x00000000, 0x00000000⟩,
   ⟨0x201C, 0x4, 1, 0x00000064, 0xFF00FFFF, 0x00000000, 0x00000000⟩,
   ⟨0x2020, 0x4, 1, 0x00000000, 0x00000000, 0x00000000, 0x00000000⟩,
   ⟨0x2024, 0x4, 1, 0x00000000, 0x00000000, 0x00000000, 0x00000000⟩,
   ⟨0x2028, 0x4, 1, 0x0FFF0FFF, 0x00000000, 0x00000000, 0x00000000⟩,
   ⟨0x202C, 0x4, 1, 0x00000000, 0x00000000, 0x00000000, 0x00000000⟩]

/-- The registers of block Whl (Table 9.2). -/
def rowsWhl : List RegRow :=
  [⟨0x2400, 0x40, 16, 0x00000000, 0x87F80000, 0x00000000, 0x00000000⟩,
   ⟨0x2404, 0x40, 16, 0x0000042B, 0x00000FFF, 0x00000000, 0x00000000⟩,
   ⟨0x2408, 0x40, 16, 0x00000000, 0x0000000F, 0x00000000, 0x00000000⟩,
   ⟨0x240C, 0x40, 16, 0x00000000, 0xFFFF3FFF, 0x00000000, 0x00000000⟩,
   ⟨0x2410, 0x40, 16, 0x04E4224A, 0xBFFFFFFF, 0x00000000, 0x00000000⟩,
   ⟨0x2414, 0x40, 16, 0x20201020, 0x3F3F3F3F, 0x00000000, 0x00000000⟩,
   ⟨0x2418, 0x40, 16, 0x00000000, 0x00000000, 0x02000000, 0x00000000⟩,
   ⟨0x241C, 0x40, 16, 0x00000000, 0x00000000, 0x00000000, 0x00000000⟩,
   ⟨0x2420, 0x40, 16, 0x00000000, 0x00000000, 0x00000000, 0x00000000⟩,
   ⟨0x2424, 0x40, 16, 0x00000000, 0x00000000, 0x00000000, 0x00000000⟩,
   ⟨0x2428, 0x40, 16, 0x00000000, 0x00000000, 0x00000000, 0x00000000⟩]

/-- The registers of block Adom (Table 9.2). -/
def rowsAdom : List RegRow :=
  [⟨0x2800, 0x100, 4, 0x01800804, 0xBFE0FFFF, 0x00000000, 0x00000000⟩,
   ⟨0x2804, 0x100, 4, 0x00C0180B, 0x00FCFFFF, 0x00000000, 0x00000000⟩,
   ⟨0x2808, 0x100, 4, 0x2710001C, 0xFFFF003F, 0x00000000, 0x00000000⟩,
   ⟨0x280C, 0x100, 4, 0x0A194040, 0xFFFFF0FF, 0x00000000, 0x00000000⟩,
   ⟨0x2810, 0x100, 4, 0x00000000, 0xE70FFFFF, 0x00000000, 0x00000000⟩,
   ⟨0x2814, 0x100, 4, 0x00000000, 0x00000000, 0x02000000, 0x00000000⟩,
   ⟨0x2818, 0x100, 4, 0x00000000, 0x00000000, 0x00000000, 0x00000000⟩,
   ⟨0x281C, 0x100, 4, 0x00000000, 0x00000000, 0x00000000, 0x00000000⟩,
   ⟨0x2820, 0x100, 4, 0x00000000, 0x00000000, 0x00000000, 0x00000000⟩,
   ⟨0x2824, 0x100, 4, 0x00000000, 0x00000000, 0x00000000, 0x00000000⟩,
   ⟨0x2828, 0x100, 4, 0x00000000, 0x00000000, 0x00000000, 0x00000000⟩,
   ⟨0x282C, 0x100, 4, 0x00000000, 0x00000000, 0x00000000, 0x00000000⟩,
   ⟨0x2830, 0x100, 4, 0x00000000, 0x00000000, 0x00000000, 0x00000000⟩,
   ⟨0x2834, 0x100, 4, 0x00000000, 0x00000000, 0x00000000, 0x00000000⟩,
   ⟨0x2838, 0x100, 4, 0x00000000, 0x00000000, 0x00000000, 0x00000000⟩]

/-- The registers of block Sched (Table 9.2). -/
def rowsSched : List RegRow :=
  [⟨0x2C00, 0x4, 1, 0x00000000, 0x0000000F, 0x00000000, 0x00000000⟩,
   ⟨0x2C04, 0x4, 1, 0x00000000, 0x00000000, 0x00000000, 0x00000000⟩,
   ⟨0x2C08, 0x4, 1, 0x00000000, 0x00000000, 0x00000000, 0x00000000⟩,
   ⟨0x2C0C, 0x4, 1, 0x00000000, 0x00000000, 0x00000000, 0x00000000⟩,
   ⟨0x2C10, 0x4, 1, 0x00000000, 0x00000000, 0x00000000, 0x00000000⟩,
   ⟨0x2C14, 0x4, 1, 0x00000000, 0x00007F07, 0x00000000, 0x00000000⟩,
   ⟨0x2C18, 0x4, 1, 0x00000000, 0x00000000, 0x00000000, 0x00000000⟩,
   ⟨0x2C1C, 0x4, 1, 0x00000000, 0x00000000, 0x00000000, 0x00000000⟩,
   ⟨0x2C20, 0x4, 1, 0x00000000, 0x00000000, 0x00000000, 0x00000000⟩]

/-- The registers of block Act (Table 9.2). -/
def rowsAct : List RegRow :=
  [⟨0x3000, 0x10, 96, 0x00FFFFFF, 0x00FFFFFF, 0x00000000, 0x00000000⟩,
   ⟨0x3004, 0x10, 96, 0x02020A20, 0x8FFFFFFF, 0x00000000, 0x00000000⟩,
   ⟨0x3008, 0x10, 96, 0x180000FA, 0xFF0003FF, 0x00000000, 0x00000000⟩,
   ⟨0x300C, 0x10, 96, 0x00000000, 0x00000000, 0x20000000, 0x00000000⟩,
   ⟨0x3600, 0x4, 32, 0x40FFFF32, 0xC0FFFFFF, 0x00000000, 0x00000000⟩,
   ⟨0x3680, 0x4, 1, 0x00000000, 0x00000000, 0x00000000, 0x00000000⟩,
   ⟨0x3684, 0x4, 1, 0x00000000, 0x00000000, 0x00000000, 0x00000000⟩,
   ⟨0x3688, 0x4, 1, 0x00000000, 0x00000000, 0x00000000, 0x00000000⟩,
   ⟨0x368C, 0x4, 1, 0x00000000, 0x00000000, 0x80000000, 0x00000000⟩]

/-- The registers of block Lane (Table 9.2). -/
def rowsLane : List RegRow :=
  [⟨0x3700, 0x8, 192, 0x21700000, 0xFFFE0000, 0x00002000, 0x00000000⟩,
   ⟨0x3704, 0x8, 192, 0x00000000, 0xFFFFFFFF, 0x00000000, 0x00000000⟩,
   ⟨0x3D00, 0x40, 4, 0x32014000, 0xFFFFF000, 0x00000000, 0x00000000⟩,
   ⟨0x3D04, 0x40, 4, 0x00000000, 0x00000000, 0x00000000, 0x00000000⟩,
   ⟨0x3D08, 0x40, 4, 0x00000000, 0x00000000, 0xFFFFFFFF, 0x00000000⟩,
   ⟨0x3D0C, 0x40, 4, 0x00000000, 0x00000000, 0x0000FFFF, 0x00000000⟩,
   ⟨0x3D10, 0x40, 4, 0x00000000, 0x0000003F, 0x00000000, 0x00000000⟩,
   ⟨0x3D14, 0x40, 4, 0x00000000, 0x00000000, 0x00000000, 0x00000000⟩,
   ⟨0x3D18, 0x40, 4, 0x14198900, 0xFFFFFFC0, 0x00000000, 0x00000000⟩,
   ⟨0x3D20, 0x40, 4, 0x14198900, 0xFFFFFFC0, 0x00000000, 0x00000000⟩,
   ⟨0x3D28, 0x40, 4, 0x14198900, 0xFFFFFFC0, 0x00000000, 0x00000000⟩,
   ⟨0x3D30, 0x40, 4, 0x14198900, 0xFFFFFFC0, 0x00000000, 0x00000000⟩,
   ⟨0x3D1C, 0x40, 4, 0x284B0F00, 0xFFFFFF00, 0x00000000, 0x00000000⟩,
   ⟨0x3D24, 0x40, 4, 0x284B0F00, 0xFFFFFF00, 0x00000000, 0x00000000⟩,
   ⟨0x3D2C, 0x40, 4, 0x284B0F00, 0xFFFFFF00, 0x00000000, 0x00000000⟩,
   ⟨0x3D34, 0x40, 4, 0x284B0F00, 0xFFFFFF00, 0x00000000, 0x00000000⟩,
   ⟨0x3E00, 0x4, 96, 0x008A0814, 0xFFFFFFFF, 0x00000000, 0x00000000⟩,
   ⟨0x3F80, 0x4, 3, 0x00000000, 0x00000000, 0xFFFFFFFF, 0x00000000⟩,
   ⟨0x3F8C, 0x4, 1, 0x00000000, 0x00000000, 0x00000000, 0x00000000⟩,
   ⟨0x3F90, 0x4, 1, 0x00000000, 0x00000000, 0x00000000, 0x00000000⟩,
   ⟨0x3F94, 0x4, 1, 0x00000000, 0x00000000, 0x00000000, 0x00000000⟩]

/-- The registers of block Bst (Table 9.2). -/
def rowsBst : List RegRow :=
  [⟨0x4000, 0x40, 8, 0x20640A64, 0xEFFFFFFF, 0x00000000, 0x00000000⟩,
   ⟨0x4004, 0x40, 8, 0x00000190, 0x000003FF, 0x00000000, 0x00000000⟩,
   ⟨0x4008, 0x40, 8, 0x45032064, 0x7FFFFFFF, 0x00000000, 0x00000000⟩,
   ⟨0x400C, 0x40, 8, 0x00323250, 0x00FFFFFF, 0x00000000, 0x00000000⟩,
   ⟨0x4010, 0x40, 8, 0x00000000, 0x00000000, 0x10800F00, 0x00000000⟩,
   ⟨0x4014, 0x40, 8, 0x00000000, 0x00000000, 0x00000000, 0x00000000⟩,
   ⟨0x4018, 0x40, 8, 0x00000000, 0x00000000, 0x00000000, 0x00000000⟩,
   ⟨0x401C, 0x40, 8, 0x00000000, 0x00000000, 0x00000000, 0x00000000⟩,
   ⟨0x4020, 0x40, 8, 0x00000000, 0x00000000, 0x00000000, 0x00000000⟩,
   ⟨0x4200, 0x4, 1, 0x7FF14010, 0x7FFFFCFF, 0x00000000, 0x00000000⟩,
   ⟨0x4204, 0x4, 1, 0x00000000, 0x00000000, 0x40000000, 0x00000000⟩]

/-- The registers of block Tmr (Table 9.2). -/
def rowsTmr : List RegRow :=
  [⟨0x4400, 0x10, 32, 0x00000000, 0xFFFFFFC0, 0x00000000, 0x00000000⟩,
   ⟨0x4404, 0x10, 32, 0x00000000, 0xFFFFFF7F, 0x00000000, 0x00000000⟩,
   ⟨0x4408, 0x10, 32, 0xFFFFFFFF, 0xFFFFFFFF, 0x00000000, 0x00000000⟩,
   ⟨0x440C, 0x10, 32, 0x00000000, 0xFFFFFFFF, 0x00000000, 0x00000000⟩,
   ⟨0x4600, 0x4, 1, 0x00000000, 0x00000000, 0x00000000, 0x00000000⟩,
   ⟨0x4604, 0x4, 1, 0x00000000, 0x00000000, 0x00000000, 0x00000000⟩,
   ⟨0x4608, 0x4, 1, 0x00000000, 0x00000000, 0x00000000, 0x00000000⟩,
   ⟨0x460C, 0x4, 1, 0x00000000, 0x00000000, 0x00000000, 0x00000000⟩,
   ⟨0x4610, 0x4, 1, 0x00000000, 0x00000000, 0xFFFFFFFF, 0x00000000⟩,
   ⟨0x4614, 0x4, 1, 0x00000000, 0x00000000, 0xFFFFFFFF, 0x00000000⟩,
   ⟨0x4618, 0x4, 1, 0x00000000, 0x00000000, 0x08000000, 0x00000000⟩]

/-- The registers of block Pz (Table 9.2). -/
def rowsPz : List RegRow :=
  [⟨0x4800, 0x40, 16, 0x00010000, 0xFFFFFF00, 0x00000000, 0x00000000⟩,
   ⟨0x4804, 0x40, 16, 0x00000000, 0xFFFF0000, 0x00000000, 0x00000000⟩,
   ⟨0x4808, 0x40, 16, 0x00000000, 0xFFC00000, 0x00000000, 0x00000000⟩,
   ⟨0x480C, 0x40, 16, 0x40000000, 0xF8000000, 0x00000000, 0x00000000⟩,
   ⟨0x4810, 0x40, 16, 0x00000000, 0xFFE00000, 0x00000000, 0x00000000⟩,
   ⟨0x4814, 0x40, 16, 0x00000000, 0x00000000, 0x18000000, 0x00000000⟩,
   ⟨0x4818, 0x40, 16, 0x00000000, 0x00000000, 0x00000000, 0x00000000⟩,
   ⟨0x481C, 0x40, 16, 0x00000000, 0x00000000, 0x00000000, 0x00000000⟩,
   ⟨0x4820, 0x40, 16, 0x00000000, 0x00000000, 0x00000000, 0x00000000⟩,
   ⟨0x4828, 0x40, 16, 0x00000000, 0x00000000, 0x00000000, 0x00000000⟩,
   ⟨0x482C, 0x40, 16, 0x00000000, 0xF0000000, 0x00000000, 0x00000000⟩,
   ⟨0x4C00, 0x10, 4, 0x00000000, 0x0000000F, 0x00000000, 0x00000000⟩,
   ⟨0x4C04, 0x10, 4, 0x80000000, 0x00000000, 0x40000000, 0x00000000⟩,
   ⟨0x4D00, 0x4, 1, 0x00000000, 0x00000000, 0x00000000, 0x00000000⟩,
   ⟨0x4D04, 0x4, 1, 0x00000000, 0x00000000, 0x00000000, 0x00000000⟩,
   ⟨0x4D08, 0x4, 1, 0x00000000, 0x00000000, 0x00000000, 0x00000000⟩,
   ⟨0x4D0C, 0x4, 1, 0x00000000, 0x00000000, 0x00000000, 0x00000000⟩,
   ⟨0x4D10, 0x4, 1, 0x00000000, 0x00000000, 0x00000000, 0x00000000⟩,
   ⟨0x4D14, 0x4, 1, 0x00000000, 0x00000000, 0x00000000, 0x00000000⟩,
   ⟨0x4D18, 0x4, 1, 0x00000000, 0x00000000, 0x00000000, 0x00000000⟩,
   ⟨0x4D1C, 0x4, 1, 0x00000000, 0xFFFFFFFF, 0x00000000, 0x00000000⟩,
   ⟨0x4D20, 0x4, 1, 0x00000000, 0xFFFFFFFF, 0x00000000, 0x00000000⟩]

/-- The registers of block Jrn (Table 9.2). -/
def rowsJrn : List RegRow :=
  [⟨0x6000, 0x4, 1, 0xFFC03C00, 0xFFC0FFFF, 0x00000000, 0x00000000⟩,
   ⟨0x6004, 0x4, 1, 0x00000000, 0x00000000, 0x000000FE, 0x00000000⟩,
   ⟨0x6008, 0x4, 1, 0x00000000, 0x00000000, 0x00000000, 0x00000000⟩,
   ⟨0x600C, 0x4, 1, 0x00000000, 0x00000000, 0x00000000, 0x00000000⟩,
   ⟨0x6010, 0x4, 1, 0x00000000, 0x00000000, 0x00000000, 0x00000000⟩,
   ⟨0x6014, 0x4, 1, 0x00000000, 0x00000000, 0x00000000, 0x00000000⟩,
   ⟨0x6018, 0x4, 2, 0x00000000, 0x00000000, 0x00000000, 0x00000000⟩]

/-- The registers of block Map (Table 9.2). -/
def rowsMap : List RegRow :=
  [⟨0x7000, 0x4, 96, 0x00780000, 0xFFF80000, 0x00000000, 0x00000000⟩,
   ⟨0x7180, 0x4, 6, 0x00000000, 0xFFFFFFFF, 0x00000000, 0x00000000⟩,
   ⟨0x7198, 0x4, 1, 0x00000000, 0xFFFFFFFF, 0x00000000, 0x00000000⟩,
   ⟨0x719C, 0x4, 1, 0xE1000000, 0xFFFFC000, 0x00000000, 0x00000000⟩,
   ⟨0x71A0, 0x4, 1, 0x00000000, 0xFFFFFFFF, 0x00000000, 0x00000000⟩,
   ⟨0x71A4, 0x4, 1, 0x00000000, 0xFFFFFFFF, 0x00000000, 0x00000000⟩,
   ⟨0x71A8, 0x4, 1, 0x00000000, 0xFFFFFFFF, 0x00000000, 0x00000000⟩,
   ⟨0x7200, 0x4, 1, 0x00000000, 0x00000000, 0x00000000, 0x00000000⟩,
   ⟨0x7204, 0x4, 1, 0x00000000, 0x00000000, 0x38000000, 0x00000000⟩,
   ⟨0x7208, 0x4, 1, 0x00000000, 0x000000FF, 0x00000000, 0x00000000⟩,
   ⟨0x720C, 0x4, 1, 0x00000000, 0x00000000, 0x00000000, 0x00000000⟩,
   ⟨0x7210, 0x4, 1, 0x00000000, 0x00000000, 0x00000000, 0x00000000⟩,
   ⟨0x7214, 0x4, 1, 0x00000000, 0x00000000, 0x00000000, 0x00000000⟩]

/-- The registers of block Diag (Table 9.2). -/
def rowsDiag : List RegRow :=
  [⟨0x7800, 0x10, 96, 0x00FFF000, 0x80FFFFFF, 0x00000000, 0x00000000⟩,
   ⟨0x7804, 0x10, 96, 0x04000C40, 0xCFFFFFF8, 0x00000000, 0x00000000⟩,
   ⟨0x7808, 0x10, 96, 0x21000000, 0xFFFF8000, 0x00000000, 0x00000000⟩,
   ⟨0x780C, 0x10, 96, 0x000FA200, 0xE0FFFFFF, 0x00000000, 0x00000000⟩,
   ⟨0x7E00, 0x4, 96, 0xF0000000, 0x00000000, 0x07FF0000, 0x00000000⟩,
   ⟨0x7F80, 0x4, 1, 0x00000000, 0xF00007FF, 0x00000000, 0x00000000⟩,
   ⟨0x7F84, 0x4, 1, 0x00000000, 0x00003FFF, 0x00000000, 0x00000000⟩,
   ⟨0x7F88, 0x4, 1, 0x00000000, 0x00000000, 0x00000000, 0x00000000⟩,
   ⟨0x7F8C, 0x4, 1, 0x00000000, 0x00000000, 0x00000000, 0x00000000⟩,
   ⟨0x7F90, 0x4, 4, 0x00000000, 0x00000000, 0x00000000, 0x00000000⟩,
   ⟨0x7FA0, 0x4, 3, 0x00000000, 0x00000000, 0xFFFFFFFF, 0x00000000⟩,
   ⟨0x7FAC, 0x4, 1, 0x00000000, 0x00000000, 0xC0000000, 0x00000000⟩,
   ⟨0x7FB0, 0x4, 4, 0x66000000, 0xFFC00000, 0x00000000, 0x00000000⟩,
   ⟨0x7FC0, 0x4, 1, 0x0000003F, 0x000000FF, 0x00000000, 0x00000000⟩,
   ⟨0x7FC4, 0x4, 1, 0x00000000, 0x00000000, 0x80000000, 0x00000000⟩,
   ⟨0x7FC8, 0x4, 1, 0x00000000, 0x00000000, 0x00000000, 0x00000000⟩,
   ⟨0x7FCC, 0x4, 1, 0x00000000, 0x00000000, 0x00000000, 0x00000000⟩,
   ⟨0x7FD0, 0x4, 1, 0x00000000, 0x00000000, 0x00000000, 0x00000000⟩]

/-- The registers of the block an address lies in (Table 9.2); none in a reserved block. -/
def rowsAt (a : Nat) : List RegRow :=
  if a < 0x400 then rowsId
  else if a < 0x800 then rowsPwr
  else if a < 0x840 then rowsHost
  else if a < 0x1000 then rowsStream
  else if a < 0x1800 then rowsQp
  else if a < 0x2000 then rowsInt
  else if a < 0x2400 then rowsKr
  else if a < 0x2800 then rowsWhl
  else if a < 0x2C00 then rowsAdom
  else if a < 0x3000 then rowsSched
  else if a < 0x3700 then rowsAct
  else if a < 0x4000 then rowsLane
  else if a < 0x4400 then rowsBst
  else if a < 0x4800 then rowsTmr
  else if a < 0x5000 then rowsPz
  else if a < 0x6000 then []
  else if a < 0x7000 then rowsJrn
  else if a < 0x7800 then rowsMap
  else if a < 0x8000 then rowsDiag
  else []

/-- The address is one of the row's registers. -/
def RegRow.has (r : RegRow) (a : Nat) : Bool :=
  decide (r.base ≤ a) && decide ((a - r.base) % r.stride = 0) && decide ((a - r.base) / r.stride < r.count)

/-- The register at an address, none where the address is reserved. -/
def rowOf (a : Nat) : Option RegRow := (rowsAt a).find? (fun r => r.has a)

/-- The reset value of the register at an address; a reserved address reads zero (R258). -/
def resetOf (a : Nat) : Word :=
  match rowOf a with
  | some r => BitVec.ofNat 32 r.reset
  | none => 0

/-- What a write leaves in the register: RW bits take the value, W1C bits written 1 clear, the rest stays (R15). -/
def rowWrite (r : RegRow) (old v : Word) : Word :=
  let rw := BitVec.ofNat 32 r.rw
  let w1 := BitVec.ofNat 32 r.w1c
  ((old &&& ~~~rw) ||| (v &&& rw)) &&& ~~~(v &&& w1)

end Sys2Proof.Machine
end

