-- ==== Sys2Proof/Machine/Tab.lean ====
section
/-! DEFINITION. Sparse tables: every indexed piece of state (registers, wheels, actuators, memories) is a list of
(key, value) pairs, keys strictly rising, holding only what differs from the value an unlisted key reads as. -/

namespace Sys2Proof.Machine

/-- A sparse table. -/
abbrev Tab (α : Type) := List (Nat × α)

/-- What the table holds at key `i`; `d` is what an unlisted key reads as. -/
def tabGet {α : Type} (d : α) : Tab α → Nat → α
  | [], _ => d
  | (k, v) :: t, i => if i = k then v else tabGet d t i

/-- The table with `v` listed at key `i`. -/
def tabPut {α : Type} (i : Nat) (v : α) : Tab α → Tab α
  | [] => [(i, v)]
  | (k, w) :: t => if i < k then (i, v) :: (k, w) :: t else if i = k then (i, v) :: t else (k, w) :: tabPut i v t

/-- The table with `v` at key `i`. Writing the default removes the entry, so equal tables are equal lists. -/
def tabSet {α : Type} [DecidableEq α] (d : α) (t : Tab α) (i : Nat) (v : α) : Tab α :=
  if v = d then t.filter (fun p => p.1 != i) else tabPut i v t

/-- Every key of the table is above `b`, the keys rise, and no entry holds the default of its key. -/
def tabWfFrom {α : Type} [DecidableEq α] (d : Nat → α) : Nat → Tab α → Bool
  | _, [] => true
  | b, (k, v) :: t => decide (b ≤ k) && decide (v ≠ d k) && tabWfFrom d (k + 1) t

/-- The canonical form of a table whose unlisted key `i` reads as `d i`. -/
def tabWf {α : Type} [DecidableEq α] (d : Nat → α) (t : Tab α) : Bool := tabWfFrom d 0 t

/-- The table with every key in `[lo, hi)` back at its default. -/
def tabClear {α : Type} (lo hi : Nat) (t : Tab α) : Tab α := t.filter (fun p => p.1 < lo || hi ≤ p.1)

end Sys2Proof.Machine
end

