-- ==== Sys2Proof/Machine/State.lean ====
section
/-! DEFINITION. The state of the block: every register, memory, queue, mode and pin the spec gives it, as plain data,
and `State.reset`, the state right after power-on reset (R440, R452). Where a field's reset value is the model's own
choice the assumption log says so (entries 3 to 7). -/

namespace Sys2Proof.Machine

/-! ### Wheel inputs (chapter 2) -/

/-- One wheel front end WHL[n]: what R36 to R43 hold between commands. Times are TIME in ns. -/
structure Wheel where
  /-- The comparator output stands at the active level (R38). -/
  raw : Bool := false
  /-- The filtered level is the active level (R39). -/
  act : Bool := false
  /-- An active transition in its filter hold: its time and its filter time (R39). -/
  hold : Option (Nat × Nat) := none
  /-- A return in its filter hold: its time and its filter time (R43). -/
  trail : Option (Nat × Nat) := none
  /-- DIRDEC: the active transition of the pulse being measured, and its filter time (R43). -/
  pulse : Option (Nat × Nat) := none
  /-- VR input armed (R37). -/
  armed : Bool := false
  /-- VR: largest arming-polarity excursion of the present half-wave, mV (R37). -/
  exc : Nat := 0
  /-- VR: PEAK before halving, mV (R37). -/
  peak : Nat := 0
  /-- VR: how often PEAK has halved since the last qualified edge (R37). -/
  halvings : Nat := 0
  /-- Qualified edges seen since EN, up to 2 (R37). -/
  quals : Nat := 0
  /-- TIME of the last qualified edge's qualification (R37, R41). -/
  lastQual : Option Nat := none
  /-- The interval between the last two qualified edges, ns (R37). -/
  interval : Nat := 0
  /-- Qualification of the last edge that left the chain (R41). -/
  lastOut : Option Nat := none
  /-- Timestamp the BLANK condition compares with (R41). -/
  blankRef : Option Nat := none
  /-- Timestamp of the last active edge that left the chain (R42). -/
  lastTs : Nat := 0
  /-- Shadow of the timestamp's upper half (R42). -/
  tsShadow : Nat := 0
  /-- DIR_LAST: 0 none, 1 forward, 2 reverse, 3 invalid (R49). -/
  dirLast : Nat := 0
deriving DecidableEq, Repr

/-! ### Angle domains (chapter 3) -/

/-- A qualified edge presented to a domain (R24): its input, role (1 crank, 2 to 4 cam 0 to 2), timestamp, the
core-cycle boundary at which it is presented, and its direction (0 none, 1 forward, 2 reverse, 3 invalid). -/
structure WEdge where
  inp : Nat
  role : Nat
  ts : Nat
  pres : Nat
  dir : Nat
deriving DecidableEq, Repr

/-- The angle state a domain publishes (R62). Angles are in 1/16 au. -/
structure Pub where
  /-- Sync state, Table 3.1. -/
  st : Nat := 0
  /-- Entry of the last accepted crank tooth. -/
  entry : Nat := 0
  /-- Corrected domain angle of that tooth; in HALTED the held angle. -/
  theta : Nat := 0
  /-- An angle is carried (R62). -/
  hasAngle : Bool := false
  /-- Its timestamp. -/
  tk : Nat := 0
  /-- ω, 2⁻²⁰ au/µs (R5). -/
  om : Nat := 0
  /-- α, 2⁻²⁰ au/µs per ms (R6). -/
  al : Int := 0
  /-- a, 2⁻³⁹ au/µs² (R73). -/
  a : Int := 0
  /-- Distance from θ_k to the fence θ_F (R74). -/
  fence : Nat := 0
  /-- The 16-bit cycle counter (R3). -/
  cyc : Nat := 0
  /-- The domain's cycle is 360 °CA (R61). -/
  cyc360 : Bool := false
deriving DecidableEq, Repr

/-- A span waiting for its cam decision (R71): entry, start and end timestamps, when it may be decided, and
whether it reaches the end of the cycle. -/
structure Span where
  entry : Nat
  start : Nat
  fin : Nat
  due : Nat
  wraps : Bool
deriving DecidableEq, Repr

/-- The open tooth-period record (R87, R88). -/
structure ToothRec where
  /-- Bit 0 DISC, bit 1 HYP. -/
  flags : Nat := 0
  /-- Entry ending the first period. -/
  entry : Nat := 0
  /-- Timestamp of the edge ending the last period. -/
  time : Nat := 0
  /-- Up to four period words, first period first. -/
  periods : List Nat := []
deriving DecidableEq, Repr

/-- A captured angle snapshot (R91). -/
structure Snap where
  st : Nat := 0
  angle : Nat := 0
  om : Nat := 0
  al : Int := 0
  time : Nat := 0
  cyc : Nat := 0
  entry : Nat := 0
  tk : Nat := 0
deriving DecidableEq, Repr

/-- One angle domain ADOM[d]. -/
structure Domain where
  /-- Published state now in force or about to be (R25), the one before it, and when `cur` is valid. -/
  cur : Pub := {}
  old : Pub := {}
  validAt : Nat := 0
  /-- Edges presented and not yet taken (R24). -/
  inbox : List WEdge := []
  /-- Tooth table: valid, length, 0 °CA offset in au (R53, R54). -/
  tableValid : Bool := false
  tableLen : Nat := 0
  zeroOfs : Nat := 0
  /-- The cycle is 360 °CA (R61). -/
  cyc360 : Bool := false
  /-- Row 1 of Table 3.2 requested for the next slot: the cause, Table 3.5. -/
  row1 : Option Nat := none
  /-- Timestamps of the last accepted edges in SEEK, newest first, and how many were counted (R69). -/
  seek : List Nat := []
  seekCount : Nat := 0
  /-- The GAP value of a candidate awaiting its confirming edge (R69). -/
  cand : Option Nat := none
  /-- Candidate entries at the last confirmed gap, the edge count at that gap, gaps confirmed (R69). -/
  cands : List Nat := []
  gapAt : Nat := 0
  gaps : Nat := 0
  ambig : Bool := false
  /-- Fit points, newest first: timestamp and span from the point before, 1/16 au (R73); span not yet closed. -/
  fit : List (Nat × Nat) := []
  fitAcc : Nat := 0
  /-- The last accepted or inserted teeth, newest first: timestamp and span (R68). -/
  teeth : List (Nat × Nat) := []
  /-- An accepted crank edge has been seen since the state was entered: its timestamp (R80). -/
  lastAcc : Option Nat := none
  /-- Travel since the last inserted tooth, 1/16 au (R77); none: no insertion window. -/
  sinceIns : Option Nat := none
  /-- The last tooth was inserted (R87). -/
  lastIns : Bool := false
  suspect : Bool := false
  fwdCnt : Nat := 0
  lastCause : Nat := 0
  /-- What KEEP_POS holds through a stall: state, entry, angle of the last tooth, cycle counter at it (R80). -/
  held : Option (Nat × Nat × Nat × Nat) := none
  /-- Restart edges, newest first (R80). -/
  restart : List Nat := []
  /-- Cam edges kept: timestamp and cam wheel (R71). -/
  camEdges : List (Nat × Nat) := []
  spans : List Span := []
  hyp0 : Bool := true
  hyp1 : Bool := true
  /-- Spans that begin at or after this timestamp are observed whole (R71). -/
  obsFrom : Nat := 0
  /-- The present cycle has failed a cam test, and the run of failing cycles, this one included (R72). -/
  camFail : Bool := false
  camRun : Nat := 0
  /-- Learning: edges since the last SYNC edge and between the two before it, oldest last (R86). -/
  lrnCur : Option (List (Nat × Nat)) := none
  lrnPrev : Option (List (Nat × Nat)) := none
  /-- A correction pass in force from the next slot: entry, CORR, CONF (R86). -/
  lrnPend : List (Nat × Int × Nat) := []
  /-- TAKE is pending (R91), and the captured snapshot. -/
  take : Bool := false
  snap : Snap := {}
  /-- Tooth-period log: the open record, and periods lost since the last record (R87). -/
  logOpen : Option ToothRec := none
  logLost : Bool := false
  /-- Timestamp of the last SYNC entry, and whether it was inserted, for log mode 2 (R87, R88). -/
  logSync : Option (Nat × Bool) := none
  /-- Latched event sources of Table 3.17, bit k (log entry 22). -/
  evt : BitVec 8 := 0
  /-- SRC = 1: the domain has its source, TIME of the last frame taken, its ASEQ, frames waiting for the slot (ASEQ, REV, state),
  and the cycle counter at which the source was lost (R344, R345). -/
  rxHas : Bool := false
  rxTime : Nat := 0
  rxSeq : Option Nat := none
  rxQ : List (Nat × Bool × Pub) := []
  rxLost : Option Nat := none
  /-- Master: a state change or tooth to be sent, with its REV mark; the last ASEQ; TIME of the last frame sent (R343). -/
  txDue : Bool := false
  txRev : Bool := false
  txSeq : Nat := 0
  txTime : Nat := 0
  /-- How often the angle has moved forward by half a cycle, and when the last move comes into force (R71, R98). -/
  mv : Nat := 0
  mvAt : Nat := 0
deriving DecidableEq, Repr

/-! ### Event slots, actuators, lanes (chapters 4 to 6) -/

/-- How the bounds of R190 met a corrected duration: it sits at DMIN, it sits at DMAX, a bound acted. -/
structure DurFit where
  atMin : Bool := false
  atMax : Bool := false
  clamped : Bool := false
deriving DecidableEq, Repr

/-- One event slot ACT[a].SLOT[s] (R94, R95). -/
structure Slot where
  /-- Table 4.1: 0 FREE, 1 ARMED, 2 BLOCKED, 3 WAITING, 4 RUNNING, 5 ENDING. -/
  st : Nat := 0
  /-- Who armed it: queue pair, SEQ, TAG, OPCODE, IRQ flag, batch index (R99). -/
  qp : Nat := 0
  seq : Nat := 0
  tag : Nat := 0
  opcode : Nat := 0
  irq : Bool := false
  batch : Nat := 0
  /-- An event completion was asked for (EVT_CPL). -/
  evtCpl : Bool := false
  /-- An event completion of this slot waits for its ring (R282). -/
  cplWait : Bool := false
  duration : Bool := false
  dom : Nat := 0
  flagOnly : Bool := false
  flagS : Nat := 0
  flagE : Nat := 0
  prof : Nat := 0
  /-- Resolved target: cycle and angle, au (R97). -/
  cyc : Nat := 0
  endAngle : Nat := 0
  dur : Nat := 0
  dmin : Nat := 0
  dmax : Nat := 0
  /-- Computed start and end of the last solver slot (R101), and whether the start is in force (R102). -/
  tS : Int := 0
  tE : Int := 0
  inForce : Bool := false
  /-- The target has passed or lies beyond the trajectory (D ≤ 0; R101, R111). -/
  passed : Bool := false
  /-- The locked start (R29, R104) with the duration it was locked with (R190). -/
  locked : Option Nat := none
  /-- The checks of Table 4.7 have passed: when it fires or merges (R104, R114). -/
  fire : Option Nat := none
  /-- DUR_eff of the last computation and how R190's bounds met it. -/
  durEff : Nat := 0
  durClamp : DurFit := {}
  corr : Int := 0
  /-- Waiting for its bank (check 9 failed), R150. -/
  bankWait : Bool := false
  /-- RUNNING: actual start (t_S for a merged event, R114), fixed on-time, own end in force. -/
  tAct : Nat := 0
  fixed : Option Nat := none
  endF : Nat := 0
  /-- Duty cap on its end (R237, R238). -/
  cap : Option Nat := none
  /-- Moved end of a cancelled event (R122). -/
  cancelEnd : Option Nat := none
  /-- FLAG_ONLY: its locked end (R107). -/
  endLock : Option Nat := none
  /-- Event-completion facts (Table 4.6). -/
  tShow : Nat := 0
  lateness : Nat := 0
  late : Bool := false
  trunc : Bool := false
  mergeExt : Bool := false
  dminOvr : Bool := false
  dmaxCut : Bool := false
  merged : Bool := false
  onTime : Nat := 0
  status : Nat := 0
  /-- How many half-cycle moves of its domain the target includes (R98). -/
  mv : Nat := 0
deriving DecidableEq, Repr

/-- A current sample the opening watch kept: hold time, code, takes part (R182). -/
structure Smp where
  t : Nat
  i : Nat
  ok : Bool
deriving DecidableEq, Repr

/-- A lane shot: RUNNING, ENDING or under its closing watch (chapters 5, 6 and 8). -/
structure Shot where
  /-- 0 RUNNING, 1 ENDING, 2 turn-off finished (closing watch), 3 record closed. -/
  st : Nat := 0
  tAct : Nat := 0
  forced : Bool := false
  /-- A forced shot's end and duty cap (R306). -/
  forcedEnd : Option Nat := none
  forcedCap : Option Nat := none
  prof : Nat := 0
  phase : Nat := 0
  /-- When the phase in force came into force (R141). -/
  entry : Nat := 0
  /-- The phase's exit condition has been met (R142). -/
  met : Bool := false
  /-- It was met before T_MIN had passed (R142). -/
  early : Bool := false
  /-- The phase's high-sides, by role, that its CURRENT crossing has turned off (R141, R149 rule 5). -/
  hsOff : BitVec 3 := 0
  /-- LS turned off at the crossing by rule 5 of R149. -/
  lsOff : Bool := false
  /-- The regulated lane is on, since when, and a switching the comparators asked for meanwhile (R139). -/
  regOn : Bool := false
  regAt : Nat := 0
  regWant : Option Bool := none
  /-- The locked end (R107). -/
  endLock : Option Nat := none
  /-- End edge, its phase, how it turns off: 0 RECOVER, 1 FREEWHEEL, 2 FAST_CLAMP, 3 gate off, 4 soft shutdown, 5 OUTPUT. -/
  tEnd : Nat := 0
  /-- COIL: the gate-off edge its tail runs from (R159). -/
  tailFrom : Nat := 0
  off : Nat := 0
  safe : Bool := false
  tripped : Bool := false
  /-- The current fell through I_ZERO, captured (R154). -/
  zeroAt : Option Nat := none
  /-- Turn-off finished (t_off). -/
  tOff : Nat := 0
  /-- Soft shutdown: start sample and frames stepped (R158). -/
  ssdFrom : Nat := 0
  ssdSteps : Nat := 0
  /-- Slots that shared the shot, bit s. -/
  slots : BitVec 8 := 0
  /-- SFLAGS, Table 6.4. -/
  sflags : BitVec 16 := 0
  /-- Highest sample of the shot record (R171), highest of all samples, last sample. -/
  iPeak : Nat := 0
  iMax : Nat := 0
  iNow : Nat := 0
  tPeak : Option Nat := none
  tOpen : Option Nat := none
  openDone : Bool := false
  sMax : Nat := 0
  openHist : List Smp := []
  tClose : Option Nat := none
  closeHist : List (Nat × Nat) := []
  /-- Energy sums in voltage code × current code × frames, scaled (R212). -/
  eDrv : Nat := 0
  eRcv : Nat := 0
  diverted : Bool := false
  /-- Facts of the start: rail in REG, VSUP at or above warning, settings words in force (R196, R224, R248). -/
  railReg : Bool := false
  vsupOk : Bool := true
  sfb : BitVec 32 := 0
  ttp : BitVec 32 := 0
  lim : BitVec 32 := 0
  react : BitVec 32 := 0
  /-- Commanded duration, its correction and clamp, and table fit for the update (R191). -/
  dur : Nat := 0
  corr : Int := 0
  durClamp : DurFit := {}
  truncated : Bool := false
  /-- When its record closed (R186). -/
  closedAt : Nat := 0
  /-- Diagnostics of the shot (R225 to R233): run of slots above the drain limit, open-load and time-to-peak judged, faults noted. -/
  desatRun : Nat := 0
  olDone : Bool := false
  olFail : Bool := false
  ttpJudged : Bool := false
  swFault : Bool := false
  /-- A fault of R232's order has ended it. -/
  faultEnd : Bool := false
  bst : Bool := false
  onTime : Nat := 0
deriving DecidableEq, Repr

/-- A trip or bootstrap fault waiting for the slot that reports it (R222, R229, R230): its code, lane and current, the phase in
force, whether of a shot, and whether it ended that shot. -/
structure PendFault where
  code : Nat
  lane : Nat
  cur : Nat
  phase : Nat := 0
  shot : Bool := false
  ended : Bool := false
deriving DecidableEq, Repr

/-- One actuator ACT[a]. -/
structure Act where
  bound : Bool := false
  bindErr : Nat := 0
  /-- The LS current sample reported (I_LAST). -/
  iLast : Nat := 0
  /-- The shot RUNNING or ENDING. -/
  shot : Option Shot := none
  /-- A shot whose turn-off finished and whose closing watch runs (R183). -/
  watch : Option Shot := none
  /-- Closed shot records to hand over in the next LS slot (R186). -/
  toClose : List Shot := []
  /-- OUTPUT: the level a safe end left, true for gate on (R131, R160). -/
  hold : Option Bool := none
  /-- Consecutive outlier shots (R193). -/
  outRun : Nat := 0
  /-- Idle since, for R228. -/
  idleFrom : Nat := 0
  /-- Idle checks OFF_LOW, OFF_HIGH, IDLE_CUR: condition true since, idle slots it has been absent, already reported. -/
  idleOn : List (Option Nat) := [none, none, none]
  idleOff : List Nat := [0, 0, 0]
  idleRep : BitVec 3 := 0
  /-- Duty window: current sub-window number, and TIME up to which the running shot's on-time was added (R235). -/
  subWin : Nat := 0
  dutyAt : Nat := 0
  /-- Trips and bootstrap faults to report in the next LS slot (R222, R229, R230). -/
  pend : List PendFault := []
  /-- A SCHED_PEEK fill is pending (R124). -/
  peek : Bool := false
  /-- When diagnostics disabled it, and the place of the cause in the order of R232, 9 for a cause outside it. -/
  disAt : Option (Nat × Nat) := none
deriving DecidableEq, Repr

/-- A sample held in a lane's slot (R171 to R173, R182, R211): hold time, code, drain or current, unsettled, and at that
instant the phase a RUNNING shot was in, whether a high-side and whether the boost high-side drove its node, and the LS gate. -/
structure Held where
  t : Nat
  code : Nat
  drain : Bool
  uns : Bool
  ph : Option Nat
  hs : Bool
  hsv : Bool
  ls : Bool
deriving DecidableEq, Repr

/-- One lane LANE[n] (chapter 6). -/
structure Lane where
  gate : Bool := false
  /-- Settling ends at (R163). -/
  settle : Option Nat := none
  rdy : Bool := false
  bootUv : Bool := false
  /-- After an under-voltage the gate waits for its next commanded on-edge (R165). -/
  bootHold : Bool := false
  /-- Over-current latched for the present shot (R175). -/
  oc : Bool := false
  /-- TIME of the last gate edge and of the last on-edge. -/
  lastEdge : Option Nat := none
  lastOn : Option Nat := none
  /-- The ADC converts the drain (R173). -/
  mux : Bool := false
  /-- The sample held in the last slot, used in the next (R172). -/
  held : Option Held := none
  i : Nat := 0
  vd : Nat := 0
  above : Bool := false
  below_ : Bool := false
  /-- Drain clamp armed (R168). -/
  clamp : Bool := false
  /-- Linear gate mode, its target code (R167). -/
  linear : Option Nat := none
  /-- Comparator thresholds in force (R138, R174). -/
  cmpHi : Nat := 0
  cmpLo : Nat := 0
  /-- Divert as last taken at the lane's slot (R207). -/
  divert : Bool := false
  /-- The slot served last. -/
  slotAt : Option Nat := none
deriving DecidableEq, Repr
/-! ### Queue engine and record streams (chapters 10 and 11) -/

/-- A completion waiting to be written (R280); `result` is bytes 20 to 31, byte 20 lowest. -/
structure Cpl where
  qp : Nat
  opcode : Nat
  status : Nat
  source : Nat := 0
  tag : Nat := 0
  seq : Nat := 0
  time : Nat := 0
  result : Nat := 0
  irq : Bool := false
  /-- The event slot it belongs to, 8·a + s (R282). -/
  slot : Option Nat := none
  /-- Written without the room check (R281). -/
  free : Bool := false
  /-- The command in flight it finishes: its acceptance number (R276). -/
  cmd : Option Nat := none
  /-- On a slave: the TAGE of the CMD frame it answers (R332). -/
  tage : Option Nat := none
  /-- An ABORT's: the acceptance number of the victim whose completion goes first (R285). -/
  after : Option Nat := none
deriving DecidableEq, Repr

/-- One record hand-over (R288): its stream, its producer (0 tooth log, 1 shot, 2 fault FIFO, 3 Pretzel, 4 from a
slave), the core cycle, and its entries (TYPE, FLAGS, SOURCE, OBJECT, TIME, payload bytes 16 to 31). -/
structure Hand where
  rs : Nat
  prod : Nat
  at_ : Nat
  /-- A shot record: when it closed (R186). -/
  closed : Nat := 0
  entries : List (Nat × Nat × Nat × Nat × Nat × Nat)
deriving DecidableEq, Repr

/-- The pending fault summary (R245). -/
structure Summary where
  time : Nat := 0
  lost : Nat := 0
  counts : List Nat := []
deriving DecidableEq, Repr

/-- A command in flight (R276, R278). -/
structure Cmd where
  /-- Acceptance number and command-buffer entry. -/
  ord : Nat
  ent : Nat
  qp : Nat
  seq : Nat
  tag : Nat
  opcode : Nat
  flags : Nat
  target : Nat
  ops : BitVec 192
  /-- It has started (R278), and when. -/
  started : Option Nat := none
  /-- Past its commit point (R285). -/
  committed : Bool := false
  /-- Working data of the opcode: a read has been issued, its tag; a phase number. -/
  phase : Nat := 0
  /-- Finished: its completion waits (R276). -/
  done : Bool := false
  /-- The last status and result when it is forwarded or finished elsewhere. -/
  status : Nat := 0
  result : Nat := 0
  /-- On a slave: it came over the ring with this ORIGIN and TAGE (R332). -/
  ring : Option (Nat × Nat) := none
  /-- Host data that has arrived for it, byte 0 lowest, and its length. -/
  data : Nat := 0
  dataLen : Nat := 0
  /-- The host buffer it reads: address and length in bytes. -/
  base : Nat := 0
  need : Nat := 0
  /-- A read or write of its buffer has failed (R255, R333). -/
  failed : Bool := false
  /-- On the master: broadcast replies and forwarding time (R319, R300). -/
  replies : List (Nat × Nat) := []
  sentAt : Nat := 0
deriving DecidableEq, Repr

/-- An ABORT accepted (R284, R285): what its descriptor carried, the place among accepted commands and the TIME of its
acceptance; `fwd`: it has gone to the victim's slave, with the victim's entry, SEQ and address (R336). -/
structure AbortRq where
  seq : Nat
  tag : Nat
  flags : Nat
  ops : BitVec 192
  ord : Nat
  at_ : Nat
  fwd : Option (Nat × Nat × Nat) := none
deriving DecidableEq, Repr

/-- One queue pair's sequence state (R273 to R291). -/
structure Qp where
  /-- E, the SEQ expected next. -/
  e : Nat := 0
  nextCseq : Nat := 0
  cqDone : Nat := 0xFFFF
  /-- Producer LAST_SEQ taken, and the doorbell word last taken (R271, R275). -/
  lastSeq : Nat := 0xFFFF
  lastWord : Nat := 0
  retry : Nat := 0
  stall : Bool := false
  /-- Descriptors the queue engine may fetch of this turn; a stalled pair's entry that is to be fetched again is one (R275, R277). -/
  fetchLeft : Nat := 0
  /-- Out of bounds: only a RESYNC is taken (R273). -/
  oob : Bool := false
  /-- A RESYNC held or to be finished: SEQ, TAG, FLAGS, operands (R291). -/
  resync : Option (Nat × Nat × Nat × BitVec 192) := none
  drain : Bool := false
  /-- ABORTs accepted and not yet decided, oldest first (R284). -/
  aborts : List AbortRq := []
  /-- Completions waiting, oldest first (R281). -/
  wait : List Cpl := []
deriving DecidableEq, Repr

/-- One record stream's sequence state (R286, R287). -/
structure Rs where
  next : Nat := 0
  done : Nat := 0xFFFF
  written : Bool := false
  /-- The next shot record carries DISC (R185). -/
  disc : Bool := false
deriving DecidableEq, Repr

/-- What every DMA request carries (R252): the default traffic class, the two attributes, and the requester ID. -/
structure Req where
  tc : Nat := 0
  relaxed : Bool := false
  noSnoop : Bool := false
  id : Nat := 0
deriving DecidableEq, Repr

/-- What the block sends out, newest first (the model's own record of its outputs, log entry 9). -/
inductive Out where
  /-- Host memory write: address, length in bytes, value (byte 0 lowest). -/
  | hostWrite (q : Req) (addr len val : Nat)
  /-- Host memory read: address, length, and its tag. -/
  | hostRead (q : Req) (addr len tag : Nat)
  /-- MSI-X message of a vector: the address and the data of its table entry (R256). -/
  | msix (q : Req) (vector addr data : Nat)
  /-- A ring frame: ring 0 KA, 1 KB, or 2 both; its bytes, header to CRC, and their number (R326). -/
  | frame (ring len val : Nat)
  /-- A gate edge of a lane at a nanosecond of TIME (R30). -/
  | gate (lane : Nat) (on : Bool) (t : Nat)
  /-- ABT: the frame that leaves on a ring is ended early (R327, R328). -/
  | abort (ring : Nat)
  /-- Any other pulse or symbol: MARK, WAKE, PROBE. -/
  | pulse (kind arg : Nat)
deriving DecidableEq, Repr
/-- One boost rail BST[n] (chapter 7). -/
structure Rail where
  /-- Table 7.1: 0 OFF, 1 START, 2 REG, 3 PASS, 4 HOLD, 5 FAULT. -/
  st : Nat := 0
  /-- TIME at which START was entered. -/
  startAt : Nat := 0
  /-- The first 1 ms of START has been judged (R203). -/
  quietDone : Bool := false
  /-- Switching enable (R202), the gate, and the running period's start. -/
  enable : Bool := false
  gate : Bool := false
  period : Option Nat := none
  /-- The length of that period, ns (R219). -/
  perLen : Nat := 8000
  /-- SET_ACT, the setpoint in force (R201); as of the last slot, it rests at the floor, at the ceiling, and SET lies above the ceiling. -/
  setAct : Nat := 0
  atMin : Bool := false
  atMax : Bool := false
  setClamp : Bool := false
  /-- IPK, IEN and WIN in force since the last slot (R219), and the recovery check of that slot (R205). -/
  ipk : Nat := 0x64
  ien : Nat := 0
  win : Nat := 0
  rcvHigh : Bool := false
  vb : Nat := 0
  vr : Nat := 0
  /-- OV and UV stand (R206, R220). -/
  ov : Bool := false
  uv : Bool := false
  fcause : Nat := 0
  /-- Adaptive window: largest time-to-peak in µs (T_WIN), counted shots, a peak timeout and a write of BST_ADAPT to act
  on in the next slot (R208 to R210). -/
  tWin : Nat := 0
  counted : Nat := 0
  tmoPend : Bool := false
  winPend : Bool := false
  /-- Remainders below 1,000 µJ (R212). -/
  remDrv : Nat := 0
  remRcv : Nat := 0
deriving DecidableEq, Repr
/-! ### Pretzel engines (chapter 13) -/

/-- A word of an up queue: its value, and TIME of the core cycle it was pushed in. -/
structure UqWord where
  val : BitVec 32
  time : Nat
deriving DecidableEq, Repr

/-- One Pretzel engine PZ[p] (R355). -/
structure Pz where
  /-- Running, the core cycle of engine cycle 0, and the number of the next engine cycle (R357). -/
  run : Bool := false
  startAt : Nat := 0
  n : Nat := 0
  pc : Nat := 0
  x : BitVec 32 := 0
  y : BitVec 32 := 0
  sh : BitVec 32 := 0
  lvl : Nat := 0
  /-- DQ and UQ, oldest first (R355). -/
  dq : List (BitVec 32) := []
  uq : List UqWord := []
  miss : Bool := false
  /-- Idle engine cycles left (R365). -/
  idle : Nat := 0
  /-- The pending injected instruction (R373). -/
  inj : Option (BitVec 16) := none
  /-- PZ_STAT.STALL: 0 none, 1 PULL, 2 PUSH, 3 wait (R366). -/
  stall : Nat := 0
  /-- The next record carries DISC (R369). -/
  disc : Bool := false
deriving DecidableEq, Repr

/-! ### Timers (chapter 14) -/

/-- One timer TMR[t]; its settings are registers. -/
structure Tmr where
  /-- 0 IDLE, 1 RUN, 2 DONE (R377). -/
  st : Nat := 0
  count : Nat := 0
  /-- The core cycle it was started in, and that of its last increment (R378). -/
  startedAt : Option Nat := none
  incAt : Option Nat := none
  /-- CORE: core cycles of the prescaler period already counted (R379). -/
  presc : Nat := 0
  /-- TIME: the last boundary counted (R389). -/
  lastB : Option Nat := none
  /-- The compare value as it stood before a write in this core cycle (R383). -/
  cmpWas : Option (Nat × Nat) := none
deriving DecidableEq, Repr

/-- A pair of partner timers in a core cycle in which one of them increments (R385): the cycle, the two timers as the increments of
the cycle so far have left them, before any action, and the events so far: timer, match, overflow. -/
structure TmrCyc where
  at_ : Option Nat := none
  lo : Tmr := {}
  hi : Tmr := {}
  evts : List (Nat × Bool × Bool) := []
deriving DecidableEq, Repr

/-! ### Host link (chapter 9) -/

/-- A read of host memory, waiting to be issued or in flight (R249, R254): what it is for (0 doorbell page, 1 descriptor of
QP `arg`, 2 the command of acceptance number `arg`, 3 the slave access `arg`, 4 one nothing waits for: of a poll that has failed, or a queue pair disabled since), where, how long, and its PCIe tag once issued. -/
structure Rd where
  kind : Nat
  arg : Nat
  addr : Nat
  len : Nat
  tag : Option Nat := none
  /-- How far into the whole access it begins, where requests split it. -/
  ofs : Nat := 0
deriving DecidableEq, Repr

/-- The LINK domain (R249 to R257): what a PCIe reset clears. Defaults are PCI Express 3.0's (log entry 30). -/
structure Link where
  /-- Memory Space Enable. -/
  mse : Bool := false
  /-- Max Payload Size and Max Read Request Size codes (128 · 2^code bytes), Completion Timeout value. -/
  mps : Nat := 0
  mrrs : Nat := 2
  timeout : Nat := 0
  bar0 : Nat := 0
  bar2 : Nat := 0
  /-- MSI-X Enable, Function Mask, table (key 4·v + dword), pending bits. -/
  msixEn : Bool := false
  msixMask : Bool := false
  table : Tab Word := []
  pba : BitVec 16 := 0
  /-- When each pending message was generated (R253), key v. -/
  pbaAt : Tab Nat := []
  /-- The function's own ID, ASPM control, and Advanced Error Reporting: uncorrectable status, mask and severity, correctable
  status and mask. -/
  id : Nat := 0
  aspm : Nat := 0
  aerStat : Word := 0
  aerMask : Word := 0
  aerSev : Word := 0x00462030
  aerCor : Word := 0
  aerCorMask : Word := 0x2000
deriving DecidableEq, Repr

/-- Doorbell polling and liveness (R262, R263, R337). -/
structure Poll where
  /-- Start of the last poll; a poll is outstanding. -/
  last : Option Nat := none
  busy : Bool := false
  /-- Reference of the liveness watch. -/
  ref : Nat := 0
  /-- Slave: the last HB's EN and TIMEOUT (R337). -/
  hbEn : Bool := false
  hbTmo : Nat := 0
  /-- Master: when the last HB frame was sent. -/
  hbSent : Nat := 0
deriving DecidableEq, Repr

/-! ### Interrupt controller (chapter 15) -/

/-- One target TGT[g]. -/
structure Tgt where
  /-- The source of the delivery awaiting claim (R400). -/
  await : Option Nat := none
  /-- COUNT (R399); on a slave, notices sent. -/
  count : Nat := 0
  /-- The claim and complete counts last taken; none before the first baseline poll, which is due once IE_TGT is set (R402). -/
  claim : Option Nat := none
  compl : Option Nat := none
  baseline : Bool := false
  /-- Mailbox contents that wait for DMA, COUNT aside, and since when (R399). -/
  mbx : Option Nat := none
  mbxAt : Nat := 0
  /-- Slave: when a NACKed notice may be sent again (R408). -/
  retry : Option Nat := none
  /-- Slave: notices sent with neither ACK nor NACK yet, oldest first: TAG and source. -/
  sent : List (Nat × Nat) := []
deriving DecidableEq, Repr

/-! ### Kringle ring (chapter 12) -/

/-- A slave's access to host memory through the master (R333): its tag once sent, the command it serves, and its data. -/
structure Acc where
  ord : Nat
  write : Bool
  addr : Nat
  len : Nat
  val : Nat := 0
  tag : Option Nat := none
  /-- When the last symbol of its frame left (R332). -/
  sent : Nat := 0
deriving DecidableEq, Repr

/-- A slave access taken by the master (R333): who asked, its TAGE, and its data if a write. -/
structure SAcc where
  id : Nat
  src : Nat
  tage : Nat
  write : Bool
  addr : Nat
  len : Nat
  val : Nat := 0
  /-- It has been issued on PCIe; of a read, the bytes that have come and their number. -/
  issued : Bool := false
  data : Nat := 0
  got : Nat := 0
  /-- Answered in arrival order: its outcome, when known. -/
  res : Option (Option Nat) := none
deriving DecidableEq, Repr

/-- An unanswered ECPL or RECORD frame of a slave (R334): 0 to 7 a record stream, 8 the event completions; when it was sent,
and when it is sent again after a NACK. -/
structure Unans where
  key : Nat
  sent : Nat
  again : Option Nat := none
deriving DecidableEq, Repr

/-- A forwarded abort on a slave (R336): victim's TAGE, and when it came. -/
structure FwdAbort where
  tage : Nat
  at_ : Nat
deriving DecidableEq, Repr

/-- The ring controller's state beside its registers. -/
structure Ring where
  /-- The last change of epoch (R331). -/
  epochAt : Option Nat := none
  /-- A KR_ENUMERATE or KR_REJOIN runs: its acceptance number, what it awaits (0 ENUM_A, 1 ENUM_B, 2 the end of RING_TO since
  the last change of epoch, 3 the opening time), and since when. -/
  run : Option (Nat × Nat × Nat) := none
  /-- KR_REJOIN: enumeration follows at this TIME (R350). -/
  rejoinAt : Option Nat := none
  /-- Looping device: the opening TIME it was told (R350). -/
  openAt : Option Nat := none
  /-- A probe is unanswered; the measurements averaged, s in 1/16 ns, newest last (R329). -/
  probe : Bool := false
  probes : List Nat := []
  /-- Slave: since when the master's frames have carried an epoch it has not taken (R330). -/
  newEpoch : Option Nat := none
  /-- MARKs: TIME of the last on either ring and of the last on KA, how many KA missed while KB had them, run of good ones
  (R338, R339). -/
  markAt : Nat := 0
  markA : Nat := 0
  missA : Nat := 0
  good : Nat := 0
  /-- The local TIME of the last capture on the ring followed, 1/16 ns. -/
  markL : Nat := 0
  /-- PLL steering applied, 1/16 ns, and a TIME step that waits, ns (R338, R340). -/
  steer : Int := 0
  step : Option Int := none
  /-- ANG_MAP as in force since the last enumeration (R352). -/
  map : Nat := 0xE4
  /-- Slave: accesses to host memory, in order (R333). -/
  accs : List Acc := []
  /-- Master: slave accesses, in arrival order (R333). -/
  saccs : List SAcc := []
  nextId : Nat := 0
  /-- Slave: frames unanswered (R334). Master: entries of slaves held in its buffers (R334). -/
  unans : List Unans := []
  /-- Slave: records in its outbox, oldest first (R334). -/
  outbox : List Hand := []
  /-- Master: arming commands with FLAGS.IRQ forwarded to slaves: slave, queue pair, SEQ (R283). -/
  irqArms : List (Nat × Nat × Nat) := []
  /-- Slave: aborts forwarded to it, waiting for F (R336). -/
  aborts : List FwdAbort := []
  /-- Since when the lost port has decoded without error (R348). -/
  cleanAt : Option Nat := none
  /-- The wake burst is to be forwarded (R351). -/
  wakeFwd : Bool := false
  /-- Master: the remote-notice table, oldest first: address, target, source (R408). -/
  notices : List (Nat × Nat × Nat) := []
deriving DecidableEq, Repr

/-! ### Journal, memories and fuses (chapter 16) -/

/-- A crumb known to the journal: kind, key, SEQ, first word in the live bank, LEN (R419). -/
structure Crumb where
  kind : Nat
  key : Nat
  seq : Nat
  at_ : Nat
  len : Nat
deriving DecidableEq, Repr

/-- The commit that runs (R420): what it writes, how far it is, failed attempts, the bank and first word, and the
JRN_WRITE it finishes. -/
structure Commit where
  kind : Nat
  key : Nat
  words : List MemWord
  bank : Nat
  at_ : Nat
  seq : Nat
  done : Nat := 0
  tries : Nat := 0
  ord : Option Nat := none
deriving DecidableEq, Repr

/-- The compaction that runs (R424): its step, sectors erased, the append point in the other bank, crumbs copied, crumbs
committed to the old bank since copying began. -/
structure Compact where
  step : Nat := 1
  sectors : Nat := 0
  at_ : Nat := 8
  todo : List Crumb := []
  /-- Committed to the live bank since step 2 began. -/
  later : List Crumb := []
  copied : List Crumb := []
  ord : Option Nat := none
deriving DecidableEq, Repr

/-- A crumb that has fallen due (R421): kind, key, and for a JRN_WRITE its words and acceptance number. -/
structure Due where
  kind : Nat
  key : Nat
  words : List MemWord := []
  ord : Option Nat := none
deriving DecidableEq, Repr

/-- An actuator's lifetime log (Table 16.5, KIND 0x04): shots, on-time in ns, counts per fault code. -/
structure ActLog where
  shots : Nat := 0
  onTime : Nat := 0
  faults : List Nat := [0, 0, 0, 0, 0, 0, 0, 0, 0, 0, 0, 0, 0, 0]
deriving DecidableEq, Repr

/-- The device log (KIND 0x05): resets, RUN time in ns, SAFE entries, highest temperature code of each tray. -/
structure DevLog where
  resets : Nat := 0
  runNs : Nat := 0
  safes : Nat := 0
  temps : List Nat := [0, 0, 0, 0]
deriving DecidableEq, Repr

/-- The journal beside its registers. -/
structure Jrn where
  /-- The array's codewords, key 65,536·bank + word; an erased word is 0 (R418). It survives every reset. -/
  nv : Tab Codeword := []
  /-- The live bank's crumbs, oldest first, and the append point (R420, R422). -/
  crumbs : List Crumb := []
  append : Nat := 8
  live : Nat := 0
  gen : Nat := 0
  topSeq : Nat := 0
  /-- Objects pending since, key 256·kind + key (R421), and crumbs that have fallen due, in order. -/
  since : Tab Nat := []
  due : List Due := []
  commit : Option Commit := none
  compact : Option Compact := none
  /-- A compaction asked for (R422, R424). -/
  want : Bool := false
  /-- The flush of a dip may begin its next commit at or after this TIME (R427). -/
  dipFrom : Nat := 0
  /-- JRN_FLUSH commands: acceptance number, crumbs still to commit, crumbs committed (R314). -/
  flushes : List (Nat × List (Nat × Nat) × Nat) := []
deriving DecidableEq, Repr

/-- Fuses and a fuse operation (R428, R433). -/
structure Fuses where
  /-- Codewords of words 0 to 156, and how many seal fuses are blown. -/
  words : Tab Codeword := []
  blown : Nat := 0
  /-- The words as decoded at the last reset, and those that were uncorrectable then (R432). -/
  decoded : Tab MemWord := []
  bad : List Nat := []
  /-- The key was written at this TIME (R433). -/
  keyAt : Option Nat := none
  /-- The operation that runs (1 BURN_MAP, 2 SEAL), since, and the words still to program. -/
  op : Option (Nat × Nat) := none
  todo : List Nat := []
deriving DecidableEq, Repr

/-- The scrubber (R415, R416): the memory and word it visits next, when, passes; write-backs need no state of their own. -/
structure Scrub where
  id : Nat := 1
  word : Nat := 0
  last : Nat := 0
deriving DecidableEq, Repr

/-! ### Power and monitor port (chapters 17 and 18) -/

/-- Power: run-state requests and their sequences (R445), and the conditions of the supervision unit. -/
structure Pwr where
  /-- The run-state request waiting for the frame start: 1 RUN, 2 DOZE, 3 WATCH (R445). -/
  req : Nat := 0
  /-- SAFE exit requested (R468). -/
  exitReq : Bool := false
  /-- When the trays were restarted, for the DOZE exit (R445). -/
  seqAt : Nat := 0
  /-- PWR_VSUP as in force since the last frame start (R454). -/
  vsupReg : Word := 0x118A2000
  /-- Brown-out: when SAFE was entered for it; reset is held until the supply is back (R439). -/
  brownAt : Option Nat := none
  brownHeld : Bool := false
  /-- SAFE_N reads low (R463). -/
  safeNLow : Bool := false
  /-- Trays that answered at start-up (R452). -/
  trays : Nat := 0
  /-- Reset is held until the shell die has cooled (R446). -/
  overheat : Bool := false
  /-- The TESTMODE strap as sampled at start-up (R480). -/
  testmode : Bool := false
deriving DecidableEq, Repr

/-- The always-on watch (R409 to R411): armed, and per motion input the edges seen and the RC period of the last. -/
structure Aon where
  armed : Bool := false
  /-- VSUP at arming, 100 mV (R410). -/
  vsAt : Nat := 0
  motion : List (Nat × Nat) := [(0, 0), (0, 0)]
deriving DecidableEq, Repr

/-- A crossing that carries event pulses (R449): when the receiver will have acknowledged the pulse in flight, and the sender's
pending bit. Core cycles; for the wake causes RC periods. -/
structure Xing where
  until_ : Nat := 0
  pend : Bool := false
deriving DecidableEq, Repr

/-- The monitor port (R456 to R462). -/
structure MonPort where
  /-- The last transaction was discarded; the last write was refused; accepted transactions modulo 8 (R458). -/
  disc : Bool := false
  refused : Bool := false
  accepted : Nat := 0
  /-- Frames last driven on MON_SDO: A, B, C (R458). -/
  sdo : Nat := 0
  /-- The watchdog window: its opening, MIN and MAX in force (R461, R462). -/
  wdOpen : Option Nat := none
  wdMin : Nat := 0
  wdMax : Nat := 0
  next : Nat := 0
  viol : Nat := 0
deriving DecidableEq, Repr

/-- The block never faults: every stop the spec leaves is a refusal. -/
inductive Fault where
  /-- Raised by nobody; kept so that the type is inhabited. Safe. -/
  | none
deriving DecidableEq, Repr

/-- Why a command has no effect in the model. -/
inductive Refusal where
  /-- A command whose meaning the model does not hold yet, by its mnemonic. Safe: no run goes past it. -/
  | notModelled (mnemonic : String)
  /-- VENDOR_TEST on an unlocked part: R317 keeps its effect out of the manual. Safe: no run goes past it. -/
  | vendorEffect
deriving DecidableEq, Repr

/-- The whole block. -/
structure State where
  /-- Commands waiting, first in first out. -/
  pending : List Instr := []
  /-- TIME, ns (R8). -/
  time : Nat := 0
  /-- The TIME steps taken, ns: TIME less this counts core cycles (R340, R389). -/
  skew : Int := 0
  /-- Start-up steps completed, 7 when READY (R452). -/
  boot : Nat := 0
  /-- Run state, PWR_STAT.RSTATE: 0 RUN, 1 DOZE, 2 SAFE, 3 DOZE exit, 4 WATCH entry (Table 17.8, R445). -/
  run : Nat := 0
  /-- In WATCH: the main domain is off (R32). -/
  watch : Bool := false
  /-- Reset is held: the supply is below its release level (R439). -/
  held : Bool := false
  /-- Ring master (the ROLE strap as sampled at start-up), enumerated, and the ring address (R323, R261). -/
  master : Bool := true
  enumd : Bool := false
  addr : Nat := 0xFFF
  /-- The seal fuses are blown (R428). -/
  sealed : Bool := false
  /-- On a sealed part, whether the map in force is blank for a faulty map word (R432). -/
  mapErr : Bool := false
  /-- Stored register bits, by BAR0 address, where they differ from reset (R15, R258). -/
  regs : Tab Word := []
  /-- Register bits the device has set in the present core cycle, by BAR0 address: a write of 1 does not clear them (R15). -/
  setNow : Tab Word := []
  /-- Stored monitor registers, by register address, where they differ from reset (R473). -/
  mon : Tab MonWord := []
  /-- Observed outputs, newest first (the model's own, log entry 9). -/
  out : List Out := []
  /-- Use counter of the free values (the model's own, log entry 20). -/
  free : Nat := 0
  /-- Wheel front ends, key n (R36). -/
  wheels : Tab Wheel := []
  /-- Angle domains, key d (R60). -/
  doms : Tab Domain := []
  /-- Tooth tables and corrections, key 1024·d + i (R50, R84). -/
  teeth : Tab MemWord := []
  corrs : Tab MemWord := []
  /-- Event slots, key 8·a + s (R94). -/
  slots : Tab Slot := []
  /-- Actuators, key a (R125). -/
  acts : Tab Act := []
  /-- Lanes, key n (R163). -/
  lanes : Tab Lane := []
  /-- Profile store, key 8·p + phase (R133). -/
  profs : Tab (BitVec 128) := []
  /-- Feedback tables, key 16·a + word (R187). -/
  fbs : Tab MemWord := []
  /-- Feedback words learned in the present frame, in force from the next (R190). -/
  fbPend : List (Nat × MemWord) := []
  /-- Duty sub-window words in ns, key 16·a + sub-window (R235). -/
  duty : Tab Nat := []
  /-- Boost rails, key n (R197). -/
  rails : Tab Rail := []
  /-- FLAG[0..31] as written so far in this core cycle (R370), and as they stood at its start (R358). -/
  flags : BitVec 32 := 0
  flagsVis : BitVec 32 := 0
  /-- Scheduler flag actions waiting for the end of their core cycle: its TIME, its place in that cycle, and the action byte (R109, R370). -/
  flagQ : List (Nat × Nat × Nat) := []
  /-- Pretzel engines, key p (R355). -/
  pzs : Tab Pz := []
  /-- Instruction memories, key 64·g + i (R356). -/
  pzMem : Tab (BitVec 16) := []
  /-- Pin output levels, directions, and levels as last seen (R359). -/
  pinOut : BitVec 32 := 0
  pinDir : BitVec 32 := 0
  pinIn : BitVec 32 := 0
  /-- Pin levels and visible flags of the core cycle before (R378, R380). -/
  pinPrev : BitVec 32 := 0
  flagsPrev : BitVec 32 := 0
  /-- Timers, key t (R377). -/
  tmrs : Tab Tmr := []
  /-- Pairs of timers in their last core cycle with an increment, key t / 2 (R385). -/
  tmrCycs : Tab TmrCyc := []
  /-- Starts (true) and ends of shots and flag-only events that timers see: the core cycle, and the actuator (R380). -/
  actMarks : List (Nat × Nat × Bool) := []
  /-- The supply comparator: VSUP below the warning level, a dip stands (R437). -/
  dip : Bool := false
  /-- VSUP as the supervision unit last sampled it, 100 mV (R199). -/
  vsup : Nat := 0
  /-- The hold switch: on since, and a trigger that waits for the hold-up rail's slot (R217). -/
  holdAt : Option Nat := none
  holdArm : Bool := false
  /-- When it last turned off: the dip's recovery is measured from there (R217). -/
  holdOffAt : Nat := 0
  /-- Records handed over, oldest first (R288); fault records here are the fault FIFO (R244). -/
  hands : List Hand := []
  /-- The pending fault summary (R245). -/
  summary : Option Summary := none
  /-- The command buffer: commands in flight, oldest first, and the next acceptance number (R276). -/
  cmds : List Cmd := []
  nextOrd : Nat := 0
  /-- Queue pairs, key q (R273), and record streams, key r (R286). -/
  qps : Tab Qp := []
  rss : Tab Rs := []
  /-- Slave: completions and event completions to be sent to the master, oldest first (R332, R334). -/
  fwd : List Cpl := []
  /-- The LINK domain (R257), host reads (R249), polling and liveness (R262). -/
  link : Link := {}
  reads : List Rd := []
  poll : Poll := {}
  /-- Queue pairs still to be served after the last poll, and the one served first then (R277). -/
  turn : List Nat := []
  firstQp : Nat := 31
  /-- Sources in service: the target that claimed each (R395). -/
  svc : Tab Nat := []
  /-- Interrupt targets, key g (R400). -/
  tgts : Tab Tgt := []
  /-- The ring controller (R324). -/
  ring : Ring := {}
  /-- The journal (R418), and the lifetime and device logs it keeps (R420). -/
  jrn : Jrn := {}
  actLogs : Tab ActLog := []
  devLog : DevLog := {}
  /-- The fuse block (R428), the scrubber (R415), power (R445), the always-on watch (R409), the monitor port (R457). -/
  fuses : Fuses := {}
  scrub : Scrub := {}
  pwr : Pwr := {}
  aon : Aon := {}
  monp : MonPort := {}
  /-- Bits in which a stored SRAM codeword differs from that of the data held here, key 8,192·memory ID + word (R11, R413). -/
  upsets : Tab Codeword := []
  /-- BAR0 writes that wait behind one to a clock domain that has stopped, oldest first: address and value (R451). -/
  barWait : List (Nat × Word) := []
  /-- The crossings that carry event pulses (R449): 0 wake causes, 1 and 2 losses of KA and KB, 3 and 4 their locks. -/
  xings : Tab Xing := []
  /-- A SAFE cause has been seen and entry has not acted yet (R464). -/
  safePend : Bool := false
  /-- SCHED_PEEK naming an ACT above 95 is to be filled with zero at the next frame start (R124). -/
  peekZero : Bool := false
deriving DecidableEq, Repr

/-- The block right after power-on reset, before the first start-up step (R440, R452): TIME zero, every register at its
reset value, RST_CAUSE showing POR (Table 17.2), every table empty, no command waiting. -/
def State.reset : State := { regs := [(rRST_CAUSE, 1)] }

end Sys2Proof.Machine
end

