-- ==== Sys2Proof/Machine/Ops.lean ====
section
/-! DEFINITION. The named operations over the state that every chapter uses: registers, indexed state, outputs,
fault reports (R244 to R246), completions (R280, R281), SAFE causes (R463). -/

namespace Sys2Proof.Machine

/-! ### Registers -/

/-- The stored bits of the register at a BAR0 address. -/
def State.reg (s : State) (a : Nat) : Word := tabGet (resetOf a) s.regs a

/-- The state with the stored bits of a register replaced. -/
def State.setReg (s : State) (a : Nat) (v : Word) : State := { s with regs := tabSet (resetOf a) s.regs a v }

/-- A field of a register. -/
def State.rf (s : State) (a hi lo : Nat) : Nat := fld (s.reg a) hi lo

/-- A bit of a register. -/
def State.rb (s : State) (a b : Nat) : Bool := bit (s.reg a) b

/-- The state with a field of a register replaced. -/
def State.setRf (s : State) (a hi lo v : Nat) : State := s.setReg a (setFld (s.reg a) hi lo v)

/-- The bits of a register that the device has set in the present core cycle. -/
def State.justSet (s : State) (a : Nat) : Word := tabGet 0 s.setNow a

/-- The state with a bit of a register set or cleared; that it was set counts for a write in the same core cycle (R15). -/
def State.setRb (s : State) (a b : Nat) (v : Bool) : State :=
  { s.setReg a (setBit (s.reg a) b v) with setNow := if v then tabSet 0 s.setNow a (setBit (s.justSet a) b true) else s.setNow }

/-- What a write of `v` to write-1-to-clear bits clears: the bits it names, less those the device has set in the same core cycle (R15). -/
def State.clears (s : State) (a : Nat) (v : Word) : Word := v &&& ~~~s.justSet a

/-- A saturating counter field of a register, plus `n`. -/
def State.bumpN (s : State) (a hi lo n : Nat) : State := s.setReg a (bumpBy (s.reg a) hi lo n)

/-- A saturating counter field of a register, plus one. -/
def State.bump (s : State) (a hi lo : Nat) : State := s.bumpN a hi lo 1

/-! ### Indexed state -/

/-- WHL[n]. -/
def State.wheel (s : State) (n : Nat) : Wheel := tabGet {} s.wheels n
def State.setWheel (s : State) (n : Nat) (w : Wheel) : State := { s with wheels := tabSet {} s.wheels n w }
/-- ADOM[d]. -/
def State.dom (s : State) (d : Nat) : Domain := tabGet {} s.doms d
def State.setDom (s : State) (d : Nat) (x : Domain) : State := { s with doms := tabSet {} s.doms d x }
/-- ACT[a]. -/
def State.act (s : State) (a : Nat) : Act := tabGet {} s.acts a
def State.setAct (s : State) (a : Nat) (x : Act) : State := { s with acts := tabSet {} s.acts a x }
/-- ACT[a].SLOT[k]. -/
def State.slot (s : State) (a k : Nat) : Slot := tabGet {} s.slots (8 * a + k)
def State.setSlot (s : State) (a k : Nat) (x : Slot) : State := { s with slots := tabSet {} s.slots (8 * a + k) x }
/-- LANE[n]. -/
def State.lane (s : State) (n : Nat) : Lane := tabGet {} s.lanes n
def State.setLane (s : State) (n : Nat) (x : Lane) : State := { s with lanes := tabSet {} s.lanes n x }
/-- BST[r]. -/
def State.rail (s : State) (r : Nat) : Rail := tabGet {} s.rails r
def State.setRail (s : State) (r : Nat) (x : Rail) : State := { s with rails := tabSet {} s.rails r x }
/-- QP[q]. -/
def State.qp (s : State) (q : Nat) : Qp := tabGet {} s.qps q
def State.setQp (s : State) (q : Nat) (x : Qp) : State := { s with qps := tabSet {} s.qps q x }
/-- RS[r]. -/
def State.rs (s : State) (r : Nat) : Rs := tabGet {} s.rss r
def State.setRs (s : State) (r : Nat) (x : Rs) : State := { s with rss := tabSet {} s.rss r x }

/-- The shot in progress on ACT[a], if any, changed by `f`. -/
def State.modShot (s : State) (a : Nat) (f : Shot → Shot) : State :=
  s.setAct a { s.act a with shot := (s.act a).shot.map f }

/-- A free value: the next use of the counter. -/
def State.fresh (s : State) : BitVec 64 × State := (Config.freeWord s.free, { s with free := s.free + 1 })

/-- An output. -/
def State.emit (s : State) (o : Out) : State := { s with out := o :: s.out }

/-- A start or an end of ACT[a] at `t`, as timers see it (R380). -/
def State.mark (s : State) (a t : Nat) (start : Bool) : State := { s with actMarks := s.actMarks ++ [(ceilTo 4 t, a, start)] }

/-- The next core-cycle boundary after the present core cycle. -/
def State.nextCycle (s : State) : Nat := s.time + 4

/-- The main domain runs: start-up is complete, the device is not in WATCH and no reset is held (R32, R439, R452). -/
def State.live (s : State) : Bool := decide (7 ≤ s.boot) && !s.watch && !s.held

/-- The device is in RUN, in DOZE (or leaving it), in SAFE. -/
def State.inRun (s : State) : Bool := decide (s.run = 0)
def State.inDoze (s : State) : Bool := decide (s.run = 1) || decide (s.run = 3)
def State.inSafe (s : State) : Bool := decide (s.run = 2)

/-- The device address SOURCE carries (R261, R280): 0 on the master. -/
def State.devAddr (s : State) : Nat := if s.master then 0 else s.addr

/-! ### The protection map (R428 to R431): the shadow registers are the map in force -/

/-- The map in force is blank (R432). -/
def State.mapBlank (s : State) : Bool := s.sealed && s.mapErr

/-- The class of ACT[a]: 0 none, 1 INJECTOR, 2 VALVE, 3 COIL, 4 OUTPUT (Table 5.1). -/
def State.cls (s : State) (a : Nat) : Nat := if s.mapBlank then 0 else let c := s.rf (rPM_ACT a) 31 29; if c ≤ 4 then c else 0

/-- LANE[n] is enabled in the protection map. -/
def State.laneEn (s : State) (n : Nat) : Bool := !s.mapBlank && decide (n < 192) && s.rb (rPM_LANE (n / 32)) (n % 32)

/-- LANE[n] can be powered up: enabled, on a tray that answered at start-up, and its trim words readable (R432, R452). -/
def State.laneOn (s : State) (n : Nat) : Bool :=
  s.laneEn n && decide (s.pwr.trays / 2 ^ (n / 48) % 2 = 1) && !s.fuses.bad.contains (3 + n / 2) && !s.fuses.bad.contains (99 + n / 96)

/-- QP[q] is a full queue pair: by its own bit, or because every actuator names it its owner (R290, R429). -/
def State.fullQp (s : State) (q : Nat) : Bool :=
  !s.mapBlank && (s.rb rPM_FULLQP q || (below 96).all (fun a => s.rb (rPM_ACT a) 28 && decide (s.rf (rPM_ACT a) 27 23 = q)))

/-- QP[q] may command ACT[a] (R290, R429). -/
def State.owns (s : State) (q a : Nat) : Bool :=
  s.fullQp q || (!s.mapBlank && decide (a < 96) && s.rb (rPM_ACT a) 28 && decide (s.rf (rPM_ACT a) 27 23 = q))

/-- The fused duty ceiling of ACT[a] (R429). -/
def State.dutyCeil (s : State) (a : Nat) : Nat := 
  if s.mapBlank then 1023 else 64 * (s.rf (rPM_ACT a) 22 19 + 1) - 1

/-- FUSE_SUM.MON_AUTH of the map in force (R456). -/
def State.monAuth (s : State) : Nat := if s.mapBlank then 0 else s.rf rPM_GLOBAL 15 14

/-! ### The monitor registers and the watchdog's arming (R456, R461, R473) -/

/-- Reset values of the monitor registers that hold one. -/
def monReset (a : Nat) : MonWord := match a with | 0x10 => 0x6402 | 0x11 => 0x0003 | _ => 0

/-- The stored bits of a monitor register. -/
def State.monReg (s : State) (a : Nat) : MonWord := tabGet (monReset a) s.mon a
def State.setMon (s : State) (a : Nat) (v : MonWord) : State := { s with mon := tabSet (monReset a) s.mon a v }

/-- The watchdog is armed (Table 18.1). -/
def State.wdArmed (s : State) : Bool := decide (7 ≤ s.boot) && (decide (2 ≤ s.monAuth) || (decide (s.monAuth = 1) && bit (s.monReg 0x11) 15))

/-- A window opens (R461, R462). -/
def State.wdWindow (s : State) : State :=
  { s with monp := { s.monp with wdOpen := some s.time, wdMin := fld (s.monReg 0x10) 7 0, wdMax := fld (s.monReg 0x10) 15 8 } }

/-- Arming opens a window; disarming keeps NEXT and clears VIOL. -/
def State.wdArm (s : State) : State :=
  match s.wdArmed, s.monp.wdOpen with
  | true, none => s.wdWindow
  | false, some _ => { s with monp := { s.monp with wdOpen := none, viol := 0 } }
  | _, _ => s

/-! ### Crossings and stopped clocks (R447 to R451) -/

/-- The access waits: the register is held in the tray-die logic, and its clock is stopped (R447, R451). -/
def State.trayWait (s : State) (a : Nat) : Bool :=
  decide (0x3700 ≤ a ∧ a < 0x4200) && (s.inDoze || decide (s.run = 4) || (s.inSafe && decide (s.rf rCLK_STAT 25 22 = 0) && s.pwr.trays != 0))

/-- A write of the register at `a`, which `f` takes: it waits where the register's clock is stopped (R451). -/
def State.trayWrite (s : State) (a : Nat) (v : Word) (f : State → State) : State :=
  if s.trayWait a then { s with barWait := s.barWait ++ [(a, v)] } else f s

/-- Crossing `k` once `t` has come: what it acknowledged is out of it, and a pending pulse has been sent. -/
def Xing.at_ (x : Xing) (t w : Nat) : Xing :=
  if t < x.until_ then x else if x.pend && decide (t < x.until_ + w) then { until_ := x.until_ + w } else { until_ := t }

/-- An event pulse enters crossing `k` at `t`; the next is accepted at most `most` cycles after it. It passes, it waits as the
pending one, or it merges into that and counts (R449). -/
def State.crossPulse (s : State) (k t most : Nat) (f : State → State) : State :=
  let w := min (Config.handshake k) most
  let x := (tabGet {} s.xings k).at_ t w
  if x.until_ ≤ t then f { s with xings := tabSet {} s.xings k { until_ := t + w } }
  else if !x.pend then f { s with xings := tabSet {} s.xings k { x with pend := true } }
  else s.bump rXING_CNT 31 16

/-! ### Stored words (R11) -/

/-- Word `w` of memory `id` (Table 16.2). -/
def ramKey (id w : Nat) : Nat := 8192 * id + w

/-- A unit writes `n` words of a memory from word `w` on: what is stored there is a codeword again (R416). -/
def State.rewrote (s : State) (id w n : Nat) : State := { s with upsets := tabClear (ramKey id w) (ramKey id (w + n)) s.upsets }

/-! ### SAFE causes (R463) -/

/-- A SAFE cause is seen: its bit is latched, and entry follows unless the device is in SAFE already (R467). -/
def State.latchCause (s : State) (k : Nat) : State :=
  let s := s.setRb rSAFE_CAUSE k true
  if s.inSafe then s else { s with safePend := true }

/-! ### Fault reports (R244 to R246) -/

/-- Entries of the fault FIFO. -/
def State.fifoFill (s : State) : Nat := (s.hands.filter (fun h => h.prod = 2)).length

/-- Where a hand-over stands among those of its core cycle: ascending TYPE and OBJECT (R288), fault reports ascending code
and OBJECT (R244), a summary ahead of them (R245). -/
def Hand.key (h : Hand) : Nat :=
  h.at_ / 4 * 2 ^ 40 + (match h.entries with
    | (t, _, _, o, _, p) :: _ => if h.prod = 2 then (if t = 0x3F then 0x30 * 2 ^ 24 else t * 2 ^ 24 + p % 16 * 65536 + o) else t * 2 ^ 24 + o
    | [] => 0)

/-- A hand-over joins the list: in order of hand-over, and within one core cycle as R288 and R244 order them. -/
def State.hand (s : State) (h : Hand) : State := { s with hands := insertBy Hand.key h s.hands }

/-- The pending summary enters the FIFO once it holds fewer than 48 entries (R245). -/
def State.summaryIn (s : State) : State :=
  match s.summary with
  | none => s
  | some m =>
    if s.fifoFill < 48 then
      let body := ofBytesLE (m.counts.map (BitVec.ofNat 8 ·))
      ({ s with summary := none } : State).hand
        { rs := 0, prod := 2, at_ := s.time, entries := [(0x3F, 1, s.devAddr, m.lost, m.time, body)] }
    else s

/-- One more in position `i` of a list of saturating bytes. -/
def bumpAt : List Nat → Nat → List Nat
  | [], _ => []
  | x :: t, 0 => min (x + 1) 255 :: t
  | x :: t, i + 1 => x :: bumpAt t i

/-- ACT[a]'s lifetime log (KIND 0x04, Table 16.5). -/
def State.actLog (s : State) (a : Nat) : ActLog := tabGet {} s.actLogs a
def State.setActLog (s : State) (a : Nat) (l : ActLog) : State := { s with actLogs := tabSet {} s.actLogs a l }

/-- The lifetime log of an actuator counts a fault of codes 0x00 to 0x0A, whose OBJECT is the actuator (Tables 8.2, 16.5). -/
def State.logFault (s : State) (code a : Nat) : State :=
  if code ≤ 10 then s.setActLog a { s.actLog a with faults := bumpAt (s.actLog a).faults code } else s

/-- What a fault report carries (Table 8.4). -/
structure Report where
  code : Nat
  object : Nat
  react : Nat := 0
  lane : Nat := 0xFFFF
  v1 : Nat := 0
  v2 : Nat := 0
  tShot : Nat := 0
  run : Nat := 0
  slots : Nat := 0
deriving DecidableEq, Repr

/-- The payload of a fault record, bytes 16 to 31 (Table 8.4). -/
def Report.payload (r : Report) (safe : Bool) : Nat :=
  pack [(3, 0, r.code), (15, 8, r.react + (if safe then 4 else 0)), (31, 16, r.lane), (47, 32, r.v1), (63, 48, r.v2),
    (95, 64, r.tShot), (103, 96, r.run), (111, 104, r.slots)]

/-- A report is coalesced (R245): the pending summary, DIAG_LOST and its code's counter. -/
def State.coalesce (s : State) (code : Nat) : State :=
  let m : Summary := s.summary.getD { time := s.time, lost := 0, counts := List.replicate 14 0 }
  let s := { s with summary := some { m with lost := min (m.lost + 1) 0xFFFF, counts := bumpAt m.counts code } }
  let s := s.bump rDIAG_LOST 15 0
  s.bump (rDIAG_COAL (code / 4)) (8 * (code % 4) + 7) (8 * (code % 4))

/-- The report of this core cycle that entered the FIFO last in the order of R244. -/
def State.lastReport (s : State) : Option Hand :=
  (s.hands.filter (fun h => h.prod == 2 && h.at_ / 4 == s.time / 4 && (match h.entries with | e :: _ => e.1 == 0x30 | [] => false))).getLast?

/-- The fault code of a report. -/
def Hand.code (h : Hand) : Nat := match h.entries with | e :: _ => e.2.2.2.2.2 % 16 | [] => 0

/-- A fault report: it requests SAFE where DIAG_SAFE says so, and enters the FIFO or is coalesced (R244 to R246). Of the reports of
one core cycle those that stand last in R244's order are the ones coalesced. -/
def State.report (s : State) (r : Report) : State :=
  let safe := s.rb rDIAG_SAFE r.code
  let s := s.logFault r.code r.object
  let s := if safe then s.latchCause 4 else s
  if !s.rb rDIAG_CFG 31 then s
  else
    let s := s.summaryIn
    let h : Hand := { rs := 0, prod := 2, at_ := s.time, entries := [(0x30, 0, s.devAddr, r.object, s.time, r.payload safe)] }
    if s.summary.isSome || decide (64 ≤ s.fifoFill) then
      match s.lastReport with
      | some l => if h.key < l.key then (({ s with hands := s.hands.erase l }).hand h).coalesce l.code else s.coalesce r.code
      | none => s.coalesce r.code
    else s.hand h

/-! ### Completions (R280, R281) -/

/-- The STATUS byte: the code, with DEV while the map comes from the shadow (R280, R430). -/
def State.statusByte (s : State) (code : Nat) : Nat := code + (if s.sealed then 0 else 128)

/-- A completion joins those waiting: on the master in its queue pair, on a slave among those for the master (R281, R332). -/
def State.postAs (s : State) (c : Cpl) : State :=
  if s.master then s.setQp c.qp { s.qp c.qp with wait := (s.qp c.qp).wait ++ [c] }
  else { s with fwd := s.fwd ++ [c] }

/-- A completion of this device (R280). -/
def State.post (s : State) (c : Cpl) : State := s.postAs { c with source := s.devAddr }

/-- A completion due under R280: asked for, or any status other than OK and OK_MERGED. -/
def cplDue (flags status : Nat) : Bool := decide (flags % 2 = 1) || decide (1 < status)

/-- The command in flight in a command-buffer entry that has not finished. -/
def State.cmdAt (s : State) (e : Nat) : Option Cmd := s.cmds.find? (fun c => c.ent = e && !c.done)

/-- The command of an acceptance number, changed by `f`. -/
def State.modCmd (s : State) (o : Nat) (f : Cmd → Cmd) : State :=
  { s with cmds := s.cmds.map (fun c => if c.ord = o then f c else c) }

/-- A command finishes with a status and a result, with SOURCE `src`: its completion waits if one is due, else it leaves the
buffer (R276, R280). -/
def State.finishFrom (s : State) (c : Cmd) (src time status result : Nat) : State :=
  if cplDue c.flags status || c.ring.isSome then
    (s.modCmd c.ord (fun c => { c with done := true, status := status, result := result })).postAs
      { qp := c.qp, opcode := c.opcode, status := s.statusByte status, tag := c.tag, seq := c.seq, time := time, source := src
        result := result, irq := c.flags / 4 % 2 = 1, free := (s.qp c.qp).drain, cmd := some c.ord, tage := c.ring.map Prod.snd }
  else { s with cmds := s.cmds.filter (fun x => x.ord ≠ c.ord) }

/-- Devices a broadcast reaches: those of the last enumeration, or the master alone (R319). -/
def State.devices (s : State) : Nat := max 1 (s.rf rKR_STAT 23 12)

/-- A device's reply to a broadcast command: with the last of them it finishes (R319). -/
def State.reply (s : State) (o addr status : Nat) : State :=
  let s := s.modCmd o (fun c => if c.replies.any (fun r => r.1 = addr) then c else { c with replies := c.replies ++ [(addr, status)] })
  match s.cmds.find? (fun c => c.ord = o && !c.done) with
  | some c =>
    if c.replies.length < s.devices then s
    else
      let bad := sortBy Prod.fst (c.replies.filter (fun r => r.2 != 0))
      let first := bad.headD (0xFFFF, 0)
      s.finishFrom c 4095 s.time first.2 (pack [(15, 0, c.replies.length - bad.length), (31, 16, first.1), (39, 32, first.2)])
  | none => s

/-- A command finishes here: a broadcast's own share counts as a reply (R319). -/
def State.finishAt (s : State) (c : Cmd) (time status result : Nat) : State :=
  if c.target = 4095 && c.ring.isNone then s.reply c.ord 0 status else s.finishFrom c s.devAddr time status result

/-- A command finishes now. -/
def State.finish (s : State) (c : Cmd) (status result : Nat) : State := s.finishAt c s.time status result

/-- The core cycle, as the TIME it would have had TIME not stepped (R340, R389). -/
def State.coreAt (s : State) : Nat := ((s.time : Int) - s.skew).toNat

/-- The start of the frame that holds a TIME. -/
def frameOf (t : Nat) : Nat := floorTo 64 t

end Sys2Proof.Machine
end

