-- ==== Sys2Proof/Machine/Flags.lean ====
section
/-! DEFINITION. The 32 device-wide flags and the scheduler's actions on them (R109, R358, R370): a write changes the
working flags at once, readers see the flags as they stood at the start of the core cycle, and the scheduler's actions
of a core cycle apply last in it. -/

namespace Sys2Proof.Machine

/-- FLAG[n] as the engines, the profile phases and the timers see it. -/
def State.flag (s : State) (n : Nat) : Bool := bit s.flagsVis (n % 32)

/-- The flags with one action applied: bits 4:0 the flag, bits 6:5 none, set, clear, toggle (R109). -/
def applyFlag (w : BitVec 32) (f : Nat) : BitVec 32 :=
  match f / 32 % 4 with
  | 1 => setBit w (f % 32) true
  | 2 => setBit w (f % 32) false
  | 3 => setBit w (f % 32) (!bit w (f % 32))
  | _ => w

/-- A scheduler flag action of ACT[a], FLAG_S (`start`) or FLAG_E, at the first core-cycle boundary at or after `t`. -/
def State.flagAction (s : State) (a : Nat) (start : Bool) (t f : Nat) : State :=
  if f / 32 % 4 = 0 then s
  else { s with flagQ := insertBy (fun q => q.1 * 256 + q.2.1) (ceilTo 4 t, 2 * a + start.toNat, f) s.flagQ }

/-- The core cycle ends: the scheduler actions of it apply, and the flags become visible. -/
def State.flagsTick (s : State) : State :=
  let due := s.flagQ.filter (fun q => q.1 ≤ s.time)
  let w := due.foldl (fun w q => applyFlag w q.2.2) s.flags
  { s with flags := w, flagsPrev := s.flagsVis, flagsVis := w, flagQ := s.flagQ.filter (fun q => s.time < q.1) }

end Sys2Proof.Machine
end

