-- ==== Sys2Proof/Machine/Shot.lean ====
section
/-! DEFINITION. Lane shots: the gates a shot asks for (R125 to R132, R137 to R149), how it starts, changes phase and
ends (R137 to R144, R153 to R160), what happens to its slots (Table 4.2), and disabling (R233). -/

namespace Sys2Proof.Machine

/-! ### Bindings -/

/-- The lane an actuator names in a role: 0 LS, 1 HSB, 2 HSV (R125); 0xFF none. -/
def State.roleLane (s : State) (a r : Nat) : Nat := s.rf (rACT_LANES a) (8 * r + 7) (8 * r)
/-- The LS lane. -/
def State.lsLane (s : State) (a : Nat) : Nat := s.roleLane a 0
/-- The tray that holds an actuator's lanes (R128). -/
def State.trayOf (s : State) (a : Nat) : Nat := s.lsLane a / 48
/-- The actuator's boost rail (R128). -/
def State.railOf (s : State) (a : Nat) : Nat := 2 * s.trayOf a + s.rf (rACT_CFG a) 26 26
/-- RCV_FIT. -/
def State.rcvFit (s : State) (a : Nat) : Bool := s.rb (rACT_CFG a) 25
/-- The bank an actuator belongs to (R147). -/
def State.bankOf (s : State) (a : Nat) : Option Nat := if s.rb (rACT_CFG a) 24 then some (s.rf (rACT_CFG a) 23 19) else none
/-- The actuators bound to bank `b`, ascending. -/
def State.members (s : State) (b : Nat) : List Nat := (below 96).filter (fun a => (s.act a).bound && s.bankOf a == some b)
/-- The bank's lane in a role, 1 HSB or 2 HSV. -/
def State.bankLane (s : State) (b r : Nat) : Nat := s.rf (rBANK_CFG b) (8 * r + 7) (8 * r)
/-- The bound actuators that name a lane, through a bank too. -/
def State.namers (s : State) (n : Nat) : List Nat :=
  (below 96).filter (fun a => (s.act a).bound && (s.roleLane a 0 == n || s.roleLane a 1 == n || s.roleLane a 2 == n))
/-- The bound actuators whose LS lane is `n`. -/
def State.lsActs (s : State) (n : Nat) : List Nat := (below 96).filter (fun a => (s.act a).bound && s.lsLane a == n)
/-- I_ZERO. -/
def State.iZero (s : State) (a : Nat) : Nat := s.rf (rACT_CFG a) 15 8

/-! ### Phase records (Table 5.3) -/

/-- Phase `ph` of PROF[p]. -/
def State.phaseRec (s : State) (p ph : Nat) : BitVec 128 := tabGet 0 s.profs (8 * p + ph)

/-- The fields of a phase record. -/
abbrev phLast (x : BitVec 128) : Bool := bit x 73
abbrev phPeak (x : BitVec 128) : Bool := bit x 72
abbrev phOff (x : BitVec 128) : Nat := fld x 71 70
abbrev phReg (x : BitVec 128) : Nat := fld x 69 68
abbrev phLanes (x : BitVec 128) : Nat := fld x 67 65
abbrev phLists (x : BitVec 128) (r : Nat) : Bool := bit x (65 + r)
abbrev phFlagPol (x : BitVec 128) : Bool := bit x 64
abbrev phFlag (x : BitVec 128) : Nat := fld x 63 59
abbrev phDir (x : BitVec 128) : Bool := bit x 58
abbrev phExit (x : BitVec 128) : Nat := fld x 57 56
abbrev phTmax (x : BitVec 128) : Nat := fld x 55 36
abbrev phTmin (x : BitVec 128) : Nat := fld x 35 20
abbrev phHyst (x : BitVec 128) : Nat := fld x 19 10
abbrev phTgt (x : BitVec 128) : Nat := fld x 9 0

/-- The phase in force of an actuator's shot; an OUTPUT has no profile and counts as one hold phase with LS listed. -/
def State.phaseOf (s : State) (a : Nat) (sh : Shot) : BitVec 128 :=
  if s.cls a = 4 then BitVec.ofNat 128 (pack [(73, 73, 1), (65, 65, 1), (57, 56, 3)]) else s.phaseRec sh.prof sh.phase

/-- CMP_HI of a phase (R138). -/
def cmpHi (x : BitVec 128) : Nat := phTgt x
/-- CMP_LO of a phase (R138). -/
def cmpLo (x : BitVec 128) : Nat := if phExit x = 0 && phDir x then phTgt x else phTgt x - phHyst x

/-! ### Gates -/

/-- A member's phase lists a bank lane (R149). -/
def State.listsBank (s : State) (a b : Nat) : Bool :=
  match (s.act a).shot with
  | some sh => decide (sh.st = 0) &&
      ((phLists (s.phaseOf a sh) 1 && decide (s.bankLane b 1 < 192)) || (phLists (s.phaseOf a sh) 2 && decide (s.bankLane b 2 < 192)))
  | none => false

/-- The RUNNING members of a bank whose phases list a bank lane. -/
def State.listers (s : State) (b : Nat) : List Nat := (s.members b).filter (fun a => s.listsBank a b)

/-- Regulating on LS under rule 3 of R149. -/
def State.lsFallback (s : State) (a : Nat) : Bool :=
  match s.bankOf a, (s.act a).shot with
  | some b, some sh => s.listsBank a b && decide (2 ≤ (s.listers b).length) && decide (2 ≤ phReg (s.phaseOf a sh))
  | _, _ => false

/-- The bank lane of role `r` is driven on (R149): while a RUNNING member's phase lists it, unless that member's crossing has
turned it off (rule 5), and chopped by the only member that lists a bank lane (rule 2). -/
def State.bankOn (s : State) (b r : Nat) : Bool :=
  let l := s.listers b
  l.any (fun a =>
    match (s.act a).shot with
    | some sh => phLists (s.phaseOf a sh) r && !bit sh.hsOff r &&
        (if l.length = 1 && phReg (s.phaseOf a sh) = r + 1 then sh.regOn else true)
    | none => false) && decide (s.bankLane b r < 192)

/-- Some lane of the bank is on. -/
def State.bankAny (s : State) (b : Nat) : Bool := s.bankOn b 1 || s.bankOn b 2

/-- What an actuator asks of its own high-side lane of role `r`. -/
def State.wantHs (s : State) (a r : Nat) : Bool :=
  match (s.act a).shot with
  | some sh => decide (sh.st = 0) && phLists (s.phaseOf a sh) r && !bit sh.hsOff r &&
      (if phReg (s.phaseOf a sh) = r + 1 then sh.regOn else true)
  | none => false

/-- The gate level of an OUTPUT's idle state (R160). -/
def State.idleGate (s : State) (a : Nat) : Bool := s.rb (rACT_SAFE a) 25

/-- What an actuator asks of its LS lane. -/
def State.wantLs (s : State) (a : Nat) : Bool :=
  let rule4 (sh : Shot) : Bool :=
    match s.bankOf a with
    | some b => s.bankAny b && !s.listsBank a b && decide (sh.st ≤ 1)
    | none => false
  match (s.act a).shot with
  | some sh =>
    if s.cls a = 4 then (if sh.st = 0 then !s.idleGate a else (s.act a).hold.getD (s.idleGate a))
    else if s.cls a = 3 then decide (sh.st = 0) || (decide (sh.off = 4) && decide (sh.st = 1) && sh.zeroAt.isNone)
    else if sh.st = 0 then
      let x := s.phaseOf a sh
      phLists x 0 && !sh.lsOff && (if phReg x = 1 || s.lsFallback a then sh.regOn else true) && !rule4 sh
    else decide (sh.off = 1) && sh.zeroAt.isNone && !rule4 sh
  | none => if s.cls a = 4 && (s.act a).bound then (s.act a).hold.getD (s.idleGate a) else false

/-- A lane's gate goes to a level at a nanosecond of TIME; a latched, unsettled or under-voltage lane stays off (R163, R165, R175). -/
def State.drive (s : State) (n : Nat) (want : Bool) (t : Nat) : State :=
  if 192 ≤ n then s
  else
    let l := s.lane n
    let hold := want && (l.bootHold || (l.bootUv && !l.gate))
    let on := want && l.rdy && !l.oc && !hold
    let l := { l with bootHold := hold }
    if on = l.gate then s.setLane n l
    else (s.setLane n { l with gate := on, lastEdge := some t, lastOn := if on then some t else l.lastOn }).emit (.gate n on t)

/-! ### Closing a shot (R186, R212) -/

/-- The signature set of a shot (R181): SFB_SIG_A and SFB_SIG_B. -/
def State.sigA (s : State) (a : Nat) (sh : Shot) : Word := s.reg (rSFB_SIG_A (s.trayOf a) (fld sh.sfb 26 25))
def State.sigB (s : State) (a : Nat) (sh : Shot) : Word := s.reg (rSFB_SIG_B (s.trayOf a) (fld sh.sfb 26 25))

/-- Signatures are sought for the shot (R181). -/
def State.seeks (s : State) (a : Nat) (sh : Shot) : Bool :=
  decide (1 ≤ s.cls a) && decide (s.cls a ≤ 2) && (bit sh.sfb 31 || bit sh.sfb 30)

/-- The shot has an opening watch (R182). -/
def State.opens (s : State) (a : Nat) (sh : Shot) : Bool := s.seeks a sh && decide (fld (s.sigA a sh) 23 16 ≠ 0)

/-- An energy sum in microjoules (R212): the full scale is 5, 10, 20 or 40 A. -/
def State.microJ (s : State) (a sum : Nat) : Nat :=
  min (roundDiv (sum * (5 * 2 ^ s.rf (rLANE_CFG (s.lsLane a)) 29 28)) 160000) 0xFFFFFFFF

/-- A shot's energies join its rail's running sums (R212). -/
def State.railEnergy (s : State) (r drv rcv : Nat) : State :=
  let x := s.rail r
  let d := x.remDrv + drv
  let v := x.remRcv + rcv
  let s := s.setRail r { x with remDrv := d % 1000, remRcv := v % 1000 }
  let s := s.setReg (rBST_E_DRV r) (s.reg (rBST_E_DRV r) + BitVec.ofNat 32 (d / 1000))
  s.setReg (rBST_E_RCV r) (s.reg (rBST_E_RCV r) + BitVec.ofNat 32 (v / 1000))

/-- The gate mode in force of a lane (R163): 0 off, 1 low-side, 2 high-side floating. -/
def State.gmode (s : State) (n : Nat) : Nat :=
  if !s.laneOn n then 0 else let g := s.rf (rLANE_CFG n) 31 30; if g = 3 then 0 else g

/-- The drain clamp of the LS lane is armed (R168); `i` is the code the lane's ADC shows, no current while it is on the drain. -/
def State.clampArmed (s : State) (a i : Nat) : Bool :=
  let l := s.lane (s.lsLane a)
  let flows := decide (0 < i) && !l.mux
  (s.act a).bound && s.gmode (s.lsLane a) == 1 && !l.gate && (match (s.act a).shot with
    | some h => (h.st == 1 && h.off == 2) || ((!s.rcvFit a || l.divert) && flows)
    | none => s.rcvFit a && l.divert && flows)

/-- The clamp is judged anew: in the lane's slot, at a phase's entry and at the end edge (Table 5.8). -/
def State.clampNow (s : State) (a i : Nat) : State :=
  if s.lsLane a < 192 then s.setLane (s.lsLane a) { s.lane (s.lsLane a) with clamp := s.clampArmed a i } else s

/-- A shot record closes (R186): its energies are rounded and join the rail's (R212); an opening watch still running has
found nothing (R182); the record is handed over in the LS lane's next slot. -/
def State.closeShot (s : State) (a : Nat) (sh : Shot) : State :=
  let missed := s.opens a sh && sh.tOpen.isNone && !sh.openDone
  let s := if missed then s.bump rSFB_CNT_B 31 16 else s
  let lane := decide (1 ≤ s.cls a) && decide (s.cls a ≤ 2)
  let d := if lane then s.microJ a sh.eDrv else 0
  let v := if lane then s.microJ a sh.eRcv else 0
  let f := setBit (setBit sh.sflags 5 (bit sh.sflags 5 || missed)) 9 (bit sh.sflags 9 || sh.durClamp.clamped)
  let at_ := if s.cls a = 4 then sh.tEnd else s.time
  let s := if lane then s.railEnergy (s.railOf a) d v else s
  s.setAct a { s.act a with toClose := (s.act a).toClose ++ [{ sh with st := 3, eDrv := d, eRcv := v, sflags := f, closedAt := at_ }] }

/-- A closing watch ends without a detection, with CLOSE_MISS (R183, R184). -/
def State.cutWatch (s : State) (a : Nat) : State :=
  match (s.act a).watch with
  | some sh =>
    let s := if s.lsLane a < 192 then s.setLane (s.lsLane a) { s.lane (s.lsLane a) with mux := false } else s
    let s := s.bump rSFB_CNT_B 15 0
    (s.setAct a { s.act a with watch := none }).closeShot a { sh with sflags := setBit sh.sflags 6 true }
  | none => s

/-- Drive every lane that an actuator's state bears on: its LS, its own high-sides, or its bank's lanes and members (R149). A bank
lane that turns on cuts the members' closing watches (R184). -/
def State.gates (s : State) (a t : Nat) : State :=
  match s.bankOf a with
  | none => ((s.drive (s.lsLane a) (s.wantLs a) t).drive (s.roleLane a 1) (s.wantHs a 1) t).drive (s.roleLane a 2) (s.wantHs a 2) t
  | some b =>
    let s' := (s.drive (s.bankLane b 1) (s.bankOn b 1) t).drive (s.bankLane b 2) (s.bankOn b 2) t
    let rises := [s.bankLane b 1, s.bankLane b 2].any (fun n => decide (n < 192) && !(s.lane n).gate && (s'.lane n).gate)
    let s' := (a :: s.members b).foldl (fun x m => x.drive (s.lsLane m) (s.wantLs m) t) s'
    if rises then (s.members b).foldl (fun x m => x.cutWatch m) s' else s'

/-- The thresholds of a shot's LS comparators (R138, R153, R167). -/
def State.setCmp (s : State) (a hi lo : Nat) : State :=
  if s.lsLane a < 192 then s.setLane (s.lsLane a) { s.lane (s.lsLane a) with cmpHi := hi, cmpLo := lo } else s

/-! ### Phases -/

/-- A CURRENT exit is captured at `t` (R141, R142, R149 rule 5, R223). -/
def State.exitCross (s : State) (a t : Nat) : State :=
  match (s.act a).shot with
  | some sh =>
    let x := s.phaseOf a sh
    if sh.met then s
    else if phDir x then s.modShot a (fun h => { h with met := true })
    else
      let shared (r : Nat) : Bool := match s.bankOf a with
        | some b => phLists x r && decide (s.bankLane b r < 192) && ((s.listers b).filter (fun m => m != a)).any (fun m =>
            match (s.act m).shot with
            | some o => phLists (s.phaseOf m o) r
            | none => false)
        | none => false
      let s := s.modShot a (fun h => { h with
        met := true, hsOff := setBit (setBit h.hsOff 1 (!shared 1)) 2 (!shared 2), lsOff := h.lsOff || shared 1 || shared 2
        tPeak := if phPeak x && h.tPeak.isNone then some (t - h.tAct) else h.tPeak })
      s.gates a t
  | none => s

/-- A phase comes into force at `t` with the LS current at code `i` (R137, R139, R141). -/
def State.enterPhase (s : State) (a ph t i : Nat) : State :=
  let s := s.modShot a (fun h => { h with phase := ph, entry := t, met := false, early := false, hsOff := 0, lsOff := false, regWant := none })
  match (s.act a).shot with
  | some sh =>
    let x := s.phaseOf a sh
    let s := s.modShot a (fun h => { h with regOn := decide (i < cmpHi x), regAt := t })
    let s := ((s.setCmp a (cmpHi x) (cmpLo x)).gates a t).clampNow a i
    if !phLast x && phExit x = 0 && (if phDir x then decide (i ≤ cmpLo x) else decide (cmpHi x ≤ i)) then s.exitCross a t else s
  | none => s

/-! ### Slots -/

/-- The slot's own end in force before any duty cap or cancel (R105, R106). -/
def Slot.natEnd (x : Slot) : Nat :=
  match x.fixed with
  | some d => x.tAct + d
  | none =>
    if x.inForce then (clampI (x.tAct + x.dmin : Nat) (x.tAct + x.dmax : Nat) x.tE).toNat else x.tAct + x.dmax

/-- The slot's own end in force (R105, R106, R122, R237). -/
def Slot.ownEnd (x : Slot) : Nat :=
  let e := match x.cap with | some c => min x.natEnd c | none => x.natEnd
  match x.cancelEnd with | some c => min e c | none => e

/-- The duty cap comes before the slot's natural end (R237, R238). -/
def Slot.capped (x : Slot) : Bool := match x.cap with | some c => decide (c < x.natEnd) | none => false

/-- The slot's own end is not its natural one: a duty cap or a cancel moved it (R155). -/
def Slot.safeOwn (x : Slot) : Bool := x.capped || (match x.cancelEnd with | some c => decide (c < x.natEnd) | none => false)

/-- The natural end is an END_ANGLE end cut at t_act + DMAX (R106). -/
def Slot.dmaxCutNow (x : Slot) : Bool := x.fixed.isNone && (!x.inForce || decide (((x.tAct + x.dmax : Nat) : Int) < x.tE))

/-- The RUNNING lane slots of an actuator. -/
def State.runningSlots (s : State) (a : Nat) : List Nat :=
  (below 8).filter (fun k => (s.slot a k).st = 4 && !(s.slot a k).flagOnly)

/-- The end in force of the shot RUNNING on an actuator (R106, R114, R306); none for an unbounded forced shot. -/
def State.shotEnd (s : State) (a : Nat) : Option Nat :=
  match (s.act a).shot with
  | some sh =>
    if sh.st ≠ 0 then none
    else if sh.forced then
      (match sh.forcedEnd, sh.forcedCap with
       | some e, some c => some (min e c)
       | some e, none => some e
       | none, c => c)
    else some ((s.runningSlots a).foldl (fun m k => max m (s.slot a k).ownEnd) 0)
  | none => none

/-- Result bytes 20 to 31 of an event completion (Table 4.6). -/
def Slot.result (x : Slot) (a k : Nat) : Nat :=
  pack [(7, 0, a), (10, 8, k), (14, 11, x.batch), (15, 15, 1), (31, 16, x.cyc), (63, 32, x.onTime),
    (87, 64, min x.lateness 0xFFFFFF), (88, 88, x.late.toNat), (89, 89, x.trunc.toNat), (90, 90, x.mergeExt.toNat),
    (91, 91, x.dminOvr.toNat), (92, 92, x.dmaxCut.toNat), (95, 95, 1)]

/-- Half-cycle moves of a domain's angle in force at `t` (R25, R98). -/
def Domain.moves (x : Domain) (t : Nat) : Nat := if x.mvAt ≤ t then x.mv else x.mv - 1

/-- A slot with its target moved forward as its domain's angle has moved, with the carry into C (R98). -/
def State.moved (s : State) (x : Slot) : Slot :=
  let n := (s.dom x.dom).moves s.time
  let e := x.endAngle + (n - x.mv) * 368640
  if n ≤ x.mv then x else { x with endAngle := e % 737280, cyc := (x.cyc + e / 737280) % 65536, mv := n }

/-- A slot goes to FREE with an event completion if the event asked for one (R94, R99, R282). -/
def State.freeSlot (s : State) (a k status : Nat) : State :=
  let x := s.slot a k
  let shown := if x.st = 4 || x.st = 5 then x.tShow else s.time
  let s := if x.evtCpl then
      s.post { qp := x.qp, opcode := x.opcode, status := s.statusByte status, tag := x.tag, seq := x.seq, time := shown,
               result := (s.moved x).result a k, irq := x.irq, slot := some (8 * a + k) }
    else s
  let s := if status = 0x21 then s.bump rSCHED_CNT_A 31 16 else s
  s.setSlot a k { cplWait := x.evtCpl }

/-- The actuator counts as bound to the domain of its non-FREE slots (R96). -/
def State.domOf (s : State) (a : Nat) : Option Nat := ((below 8).find? (fun k => (s.slot a k).st ≠ 0)).map (fun k => (s.slot a k).dom)

/-! ### Duty words (R235) -/

/-- The sub-window length S, ns. -/
def State.subLen (s : State) (a : Nat) : Nat := min (max (s.rf (rDIAG_DUTY a) 23 10) 1) 10000 * 62500

/-- On-time up to `t` is added to the current sub-window word. -/
def State.dutyAdd (s : State) (a t : Nat) : State :=
  match (s.act a).shot with
  | some sh =>
    if sh.st ≠ 0 then s
    else
      let from_ := max (s.act a).dutyAt sh.tAct
      let key := 16 * a + (s.act a).subWin % 16
      let s := { s with duty := tabSet 0 s.duty key (tabGet 0 s.duty key + (t - from_)) }.rewrote 7 key 1
      s.setAct a { s.act a with dutyAt := max t (s.act a).dutyAt }
  | none => s

/-- The sum W of the 16 words at `t`. -/
def State.dutySum (s : State) (a t : Nat) : Nat :=
  let w := (below 16).foldl (fun n i => n + tabGet 0 s.duty (16 * a + i)) 0
  match (s.act a).shot with
  | some sh => if sh.st = 0 then w + (t - max (s.act a).dutyAt sh.tAct) else w
  | none => w

/-! ### Turn-off -/

/-- The turn-off mode of a safe end per class (Table 5.9): 0 RECOVER, 1 FREEWHEEL, 2 FAST_CLAMP, 4 soft shutdown, 5 OUTPUT. -/
def State.safeMode (s : State) (a : Nat) (tripped : Bool) : Nat :=
  match s.cls a with
  | 2 => min (s.rf (rACT_SAFE a) 31 30) 2
  | 3 => if tripped then 3 else 4
  | 4 => 5
  | _ => 0

/-- The end edge of the RUNNING shot is placed at `t` (R107, R153 to R157, R160): `mode` the turn-off, `safe` a safe end,
`ov` the status an override gives every slot, `i` the LS current code then. -/
def State.placeEnd (s : State) (a t mode : Nat) (safe : Bool) (ov : Option Nat) (i : Nat) : State :=
  match (s.act a).shot with
  | none => s
  | some sh =>
    if sh.st ≠ 0 then s
    else
      let s := s.dutyAdd a t
      let ks := s.runningSlots a
      let s := ks.foldl (fun s k =>
        let x := s.slot a k
        let own := x.ownEnd
        let cut := x.dmaxCutNow && x.cancelEnd.isNone && ov.isNone && !safe && decide (x.tAct + x.dmax ≤ t)
        let status := match ov with
          | some c => c
          | none => if x.cancelEnd.isSome then 2 else if x.merged then 1 else 0
        (s.setSlot a k { x with
          st := 5, status := status, onTime := t - sh.tAct
          mergeExt := x.mergeExt || (ov.isNone && !x.merged && decide (own < t))
          dminOvr := x.dminOvr || decide (t < x.tAct + x.dmin)
          dmaxCut := x.dmaxCut || cut
          trunc := x.trunc || (x.capped && ov.isNone && decide (own ≤ t)) }).flagAction a false t x.flagE) s
      let zero := if i ≤ s.iZero a && s.cls a ≤ 2 then some t else none
      let ssd := mode = 4
      let s := s.modShot a (fun h => { h with
        st := 1, tEnd := t, tailFrom := t, off := mode, safe := safe, zeroAt := zero, onTime := t - h.tAct, endLock := none
        ssdFrom := if ssd then h.iNow else 0, ssdSteps := 0
        sflags := (setBit (setBit h.sflags 10 (bit h.sflags 10 || safe)) 3 (bit h.sflags 3 || ssd)) })
      let s := if ssd then s.bump rACT_GSTAT 11 0 else s
      let s := if s.cls a = 4 then
          s.setAct a { s.act a with hold := if safe then some (s.rb (rACT_SAFE a) 24 != s.idleGate a) else none } else s
      let s := if ssd && s.lsLane a < 192 then s.setLane (s.lsLane a) { s.lane (s.lsLane a) with linear := some sh.iNow } else s
      (((s.setCmp a (if ssd then sh.iNow else 1023) (s.iZero a)).gates a t).clampNow a i).mark a t false

/-- The end edge of the RUNNING shot `h` at its locked end `e` (R107, R114, R153 to R160): a safe end where a duty cap or a cancel
has moved it. -/
def State.normalEnd (s : State) (a e i : Nat) (h : Shot) : State :=
  let ks := s.runningSlots a
  let last := (s.shotEnd a).getD 0
  let own := ks.filter (fun k => (s.slot a k).ownEnd = last)
  let safe := if h.forced then (match h.forcedCap with | some c => decide (c ≤ e) && !decide (h.forcedEnd = some e) | none => false)
    else own.all (fun k => (s.slot a k).safeOwn)
  let cut := own.any (fun k => (s.slot a k).dmaxCutNow && decide ((s.slot a k).tAct + (s.slot a k).dmax ≤ e))
  let mode := if safe then s.safeMode a h.tripped
    else if s.cls a = 4 then 5
    else if s.cls a = 3 then (if cut && !s.rb (rACT_SAFE a) 26 then 4 else 3)
    else min (phOff (s.phaseOf a h)) 2
  let s := if (safe && h.forced) || own.any (fun k => (s.slot a k).capped) then s.modShot a (fun h => { h with truncated := true }) else s
  s.placeEnd a e mode safe none i

/-- An override ends the shot at `at_` (R108, R155): at its locked end if that comes first, else with a safe end. -/
def State.overrideEnd (s : State) (a at_ status : Nat) : State :=
  match (s.act a).shot with
  | some sh =>
    if sh.st ≠ 0 then s
    else
      match sh.endLock with
      | some e =>
        if e < at_ then s.normalEnd a e sh.iNow sh
        else s.placeEnd a at_ (s.safeMode a sh.tripped) true (some status) sh.iNow
      | none => s.placeEnd a at_ (s.safeMode a sh.tripped) true (some status) sh.iNow
  | none => s

/-- A RUNNING FLAG_ONLY event ends at `t` (R109, R110). -/
def State.endFlagOnly (s : State) (a k t status : Nat) : State :=
  let x := s.slot a k
  let cut := x.dmaxCutNow && status = 0 && decide (t = x.tAct + x.dmax)
  let s := (s.setSlot a k { x with onTime := t - x.tAct, dminOvr := decide (t < x.tAct + x.dmin), dmaxCut := cut }).flagAction a false t x.flagE
  (s.freeSlot a k status).mark a t false

/-- The shot uses the closing watch (R181, R183, R184). -/
def State.wantsWatch (s : State) (a : Nat) (sh : Shot) : Bool :=
  s.seeks a sh && !sh.safe && !sh.tripped && decide (fld (s.sigB a sh) 23 14 ≠ 0)

/-- Turn-off finishes at `t` (R154, R159, R160): the slots go FREE, latches clear, the record waits or the watch begins. -/
def State.finishOff (s : State) (a t : Nat) : State :=
  match (s.act a).shot with
  | none => s
  | some sh =>
    let s := s.dutyAdd a t
    let l := s.actLog a
    let s := s.setActLog a { l with shots := l.shots + 1, onTime := l.onTime + (sh.tEnd - sh.tAct) }
    let s := (below 8).foldl (fun s k => if (s.slot a k).st = 5 then s.freeSlot a k (s.slot a k).status else s) s
    let s := s.setAct a { s.act a with shot := none, idleFrom := t }
    let s := if sh.tripped then s else s.setRf (rDIAG_AST a) 15 12 0
    let s := if sh.swFault then s else s.setRf (rDIAG_AST a) 11 8 0
    let own := [s.lsLane a] ++ (match s.bankOf a with | none => [s.roleLane a 1, s.roleLane a 2] | some _ => [])
    let s := own.foldl (fun (s : State) n => if n < 192 then s.setLane n { s.lane n with oc := false, clamp := false, linear := none } else s) s
    let s := match s.bankOf a with
      | some b => if (s.members b).all (fun m => match (s.act m).shot with | some h => !h.tripped | none => true) then
          [s.bankLane b 1, s.bankLane b 2].foldl (fun (s : State) n => if n < 192 then s.setLane n { s.lane n with oc := false } else s) s
        else s
      | none => s
    let sh := { sh with tOff := t }
    let s := if s.wantsWatch a sh then
        let s := s.cutWatch a
        let s := s.setAct a { s.act a with watch := some { sh with st := 2 } }
        if s.lsLane a < 192 then s.setLane (s.lsLane a) { s.lane (s.lsLane a) with mux := true } else s
      else s.closeShot a sh
    s.gates a t

/-! ### Disabling (R233) -/

/-- The actuator is disabled by diagnostics. -/
def State.disabled (s : State) (a : Nat) : Bool := s.rb (rDIAG_DIS (a / 32)) (a % 32)

/-- Every unstarted slot of the actuator is freed with a status (Table 4.2 row 8). -/
def State.freeUnstarted (s : State) (a status : Nat) : State :=
  (below 8).foldl (fun s k => let st := (s.slot a k).st
    if st = 1 || st = 2 || st = 3 then s.freeSlot a k status else s) s

/-- The slots that share the present shot, as a mask. -/
def State.shotSlots (s : State) (a : Nat) : Nat := ((s.act a).shot.map (fun h => h.slots.toNat)).getD 0

/-- ACT[a] was disabled in this very slot. -/
def State.disabledNow (s : State) (a : Nat) : Bool :=
  s.disabled a && (match (s.act a).disAt with | some d => decide (d.1 = s.time) | none => false)

/-- The cause of a disabling of this slot gives way to one that stands before it in the order of R232, in DCAUSE and in the report. -/
def State.recause (s : State) (a cause rank : Nat) : State :=
  match (s.act a).disAt with
  | some (t, r) =>
    if t = s.time ∧ rank < r ∧ r < 9 then
      let s := (s.setRf (rDIAG_AST a) 31 28 cause).setAct a { s.act a with disAt := some (t, rank) }
      { s with hands := s.hands.map (fun h =>
          if h.prod = 2 ∧ h.at_ = t then
            { h with entries := h.entries.map (fun e =>
                if e.1 = 0x30 ∧ e.2.2.2.1 = a ∧ e.2.2.2.2.2 % 16 = 9 then
                  (e.1, e.2.1, e.2.2.1, e.2.2.2.1, e.2.2.2.2.1, (setFld (BitVec.ofNat 128 e.2.2.2.2.2) 47 32 cause).toNat)
                else e) }
          else h) }
    else s
  | none => s

/-- ACT[a] is disabled with a cause (R233); `rank` is the cause's place in the order of R232, 9 where it has none. -/
def State.disable (s : State) (a cause : Nat) (rank : Nat := 9) : State :=
  if s.disabled a then s.recause a cause rank
  else
    let s := (s.setRb (rDIAG_DIS (a / 32)) (a % 32) true).setAct a { s.act a with disAt := some (s.time, rank) }
    let s := (s.setRb (rDIAG_AST a) 26 true).setRf (rDIAG_AST a) 31 28 cause
    let s := (s.overrideEnd a s.nextCycle 0x30).freeUnstarted a 0x30
    s.report { code := 9, object := a, react := 2, lane := s.lsLane a, v1 := cause, slots := s.shotSlots a
               tShot := ((s.act a).shot.map (fun h => h.tAct)).getD 0 }

end Sys2Proof.Machine
end

