-- ==== Sys2Proof/Machine/Safe.lean ====
section
/-! DEFINITION. Entry to SAFE (R464, R467), the safe part of the rails and the Pretzel engines it touches, and the
wrapper every command's meaning runs in. -/

namespace Sys2Proof.Machine

/-- A rail goes to OFF (row 1 of Table 7.2): no switching period begins, and one already running completes (R202). -/
def State.railOff (s : State) (r : Nat) : State :=
  s.setRail r { s.rail r with st := 0, enable := false, uv := false, quietDone := false }

/-- PZ[p] (R355). -/
def State.pz (s : State) (p : Nat) : Pz := tabGet {} s.pzs p
/-- The state with PZ[p] replaced. -/
def State.setPz (s : State) (p : Nat) (e : Pz) : State := { s with pzs := tabSet {} s.pzs p e }

/-- Engine p stops: idle cycles are discarded, all else is kept (R371). -/
def State.pzStop (s : State) (p : Nat) : State :=
  if (s.pz p).run then s.setPz p { s.pz p with run := false, idle := 0, stall := 0 } else s

/-- The pins the protection map assigns to a group (R359). -/
def State.ownedPins (s : State) : BitVec 32 := if s.mapBlank then 0 else s.reg rPM_PZ_EN

/-- Owned pins take the levels and directions set for SAFE (R374). -/
def State.pinsSafe (s : State) : State :=
  let m := s.ownedPins
  { s with pinOut := (s.pinOut &&& ~~~m) ||| (s.reg rPZ_SAFE_VAL &&& m), pinDir := (s.pinDir &&& ~~~m) ||| (s.reg rPZ_SAFE_OE &&& m) }

/-- Every shot and slot of ACT[a] is ended or freed by the entry to SAFE; OUTPUT lanes take SAFE_LVL (R464, R160). -/
def State.safeAct (s : State) (a : Nat) : State :=
  let unstarted := ((below 8).filter (fun k => 1 ≤ (s.slot a k).st && (s.slot a k).st ≤ 3)).length
  let s := s.overrideEnd a s.nextCycle 0x26
  let s := (below 8).foldl (fun s k => let x := s.slot a k
    if x.st = 4 && x.flagOnly then s.endFlagOnly a k s.nextCycle 0x26 else s) s
  let s := (s.freeUnstarted a 0x26).bumpN rSCHED_CNT_C 15 0 unstarted
  let s := s.cutWatch a
  if s.cls a = 4 && (s.act a).bound then
    (s.setAct a { s.act a with hold := some (s.rb (rACT_SAFE a) 24 != s.idleGate a) }).gates a s.nextCycle
  else s

/-- Entry to SAFE (R464): a run-state sequence in progress is abandoned (R34, R467). -/
def State.enterSafe (s : State) : State :=
  if s.inSafe then { s with safePend := false }
  else
    let s := { s with run := 2, watch := false, pwr := { s.pwr with req := 0 }, devLog := { s.devLog with safes := s.devLog.safes + 1 } }
    let s := (below 96).foldl (fun s a => s.safeAct a) s
    let s := (below 8).foldl (fun s r => s.railOff r) s
    let s := ((below 16).foldl (fun s p => s.pzStop p) s).pinsSafe
    let s := ((s.setRb rSAFE_STAT 29 true).setRb rSAFE_STAT 30 false).setRb rSAFE_STAT 25 false
    { s.bump rSAFE_CNT 15 0 with safePend := false }

/-- A SAFE cause that has been seen acts: at once, in the first core cycle after READY, or from DOZE at a frame start,
after the trays have restarted (R464, R465, R467). -/
def State.settle (s : State) : State :=
  if s.safePend && s.live && !s.inDoze then s.enterSafe else s

/-- A command of the running main domain: nothing happens while it is held in reset, starting up or in WATCH
(log entry 2); an entry to SAFE it causes acts with it. -/
def execute (f : State → State) (s : State) : Host.Outcome State Fault Refusal :=
  .next (if s.live then (f s).settle else s)

/-- A command that acts during start-up too; nothing happens in WATCH or while reset is held (log entry 2). -/
def anytime (f : State → State) (s : State) : Host.Outcome State Fault Refusal :=
  .next (if s.watch || s.held then s else (f s).settle)

/-- A command that acts whatever state the device is in: a reset, a supply event, a wake event (log entry 2). -/
def always (f : State → State) (s : State) : Host.Outcome State Fault Refusal := .next (f s).settle

end Sys2Proof.Machine
end

