-- ==== Sys2Proof/Machine/Wheel.lean ====
section
/-! DEFINITION. Wheel inputs (chapter 2, R36 to R49): the filter, the VR arming, the hold-off, the direction decoder
and the delivery of qualified edges to the angle domains. -/

namespace Sys2Proof.Machine

/-! ### Settings -/

abbrev State.whlEn (s : State) (n : Nat) : Bool := s.rb (rWHL_CFG n) 31
abbrev State.whlDom (s : State) (n : Nat) : Nat := s.rf (rWHL_CFG n) 26 25
/-- The role, with 5 to 7 acting as 0 (R45). -/
def State.whlRole (s : State) (n : Nat) : Nat := let r := s.rf (rWHL_CFG n) 24 22; if r ≤ 4 then r else 0
abbrev State.whlHall (s : State) (n : Nat) : Bool := s.rb (rWHL_CFG n) 21
abbrev State.whlPol (s : State) (n : Nat) : Bool := s.rb (rWHL_CFG n) 20
abbrev State.whlDirdec (s : State) (n : Nat) : Bool := s.rb (rWHL_CFG n) 19

/-- The filter time of a FILT code, ns (Table 2.2). -/
def filtTime (f : Nat) : Nat := if f = 0 then 0 else 2 ^ (min f 12 + 3)

/-- The filter time in force for a transition that begins now (R39). -/
def State.whlFilt (s : State) (n : Nat) : Nat := filtTime (s.rf (rWHL_FILT n) 3 0)

/-- A lower-numbered enabled input holds the same role in the same domain (R46). -/
def State.whlConflict (s : State) (n : Nat) : Bool :=
  s.whlEn n && s.whlRole n != 0 &&
    (below n).any (fun m => s.whlEn m && s.whlRole m == s.whlRole n && s.whlDom m == s.whlDom n)

/-- WHL_STAT.ACTIVE (R46). -/
def State.whlActive (s : State) (n : Nat) : Bool := s.whlEn n && s.whlRole n != 0 && !s.whlConflict n

/-- A domain takes wheel edges: it is enabled and fed by its wheels (R24, R31). -/
def State.domWheels (s : State) (d : Nat) : Bool := s.rb (rADOM_CFG d) 31 && !s.rb (rADOM_CFG d) 29

/-! ### The chain -/

/-- An active edge leaves the chain (R24, R42, R49): it is counted, stamped, and presented to its domain. -/
def State.whlDeliver (s : State) (n ts q dir : Nat) : State :=
  let s := s.setWheel n { s.wheel n with lastTs := ts, lastOut := some q }
  let s := s.setReg (rWHL_CNT_EDGE n) (s.reg (rWHL_CNT_EDGE n) + 1)
  let d := s.whlDom n
  if s.whlActive n && s.domWheels d then
    s.setDom d { s.dom d with
      inbox := (s.dom d).inbox ++ [{ inp := n, role := s.whlRole n, ts := ts, pres := ceilTo 4 q, dir := dir }] }
  else s

/-- The timestamp of a transition (R40): its TIME less TS_COMP. -/
def State.whlStamp (s : State) (n t : Nat) : Nat := (t + 2 ^ 64 - s.rf (rWHL_FILT n) 13 4) % 2 ^ 64

/-- Qualification is too close to that of the edge before (R41). -/
def closeQual (w : Wheel) (q : Nat) : Bool := match w.lastOut with | some p => decide (q < p + 16) | none => false

/-- The timestamp falls inside the hold-off (R41). -/
def State.inBlank (s : State) (n ts : Nat) : Bool :=
  match (s.wheel n).blankRef with
  | some p => decide (ts < p + s.rf (rWHL_FILT n) 31 16 * 16)
  | none => false

/-- An edge is discarded by the hold-off or by the one-edge-per-tick limit (R41). -/
def State.holdoffDiscard (s : State) (n : Nat) : State := s.bump (rWHL_CNT_REJ n) 15 8

/-- A decoded edge leaves the direction decoder (R41, R43). DIR_LAST takes its direction even where the 16 ns condition then
discards it, because the decoder has classified it (log entry 14). -/
def State.dirDeliver (s : State) (n ts q dir : Nat) : State :=
  let s := s.setWheel n { s.wheel n with dirLast := dir }
  if closeQual (s.wheel n) q then s.holdoffDiscard n else s.whlDeliver n ts q dir

/-- Arming and PEAK after a qualified edge of a VR input (R37). The interval between qualified edges, and with it the decay time,
runs between the moments of qualification (log entry 14). -/
def vrQualified (w : Wheel) (q : Nat) : Wheel :=
  { w with
    armed := false
    peak := if 1 ≤ w.quals then min w.exc 2550 else 0
    exc := 0, halvings := 0
    quals := min (w.quals + 1) 2
    interval := match w.lastQual with | some p => q - p | none => 0
    lastQual := some q }

/-- An active transition leaves the filter (R39 to R43). -/
def State.whlQualify (s : State) (n t f : Nat) : State :=
  let q := t + f
  let w := { s.wheel n with hold := none, act := true }
  let w := if s.whlHall n then w else vrQualified w q
  let s := s.setWheel n w
  let ts := s.whlStamp n t
  if s.whlDirdec n then
    if s.inBlank n ts then s.holdoffDiscard n
    else s.setWheel n { s.wheel n with blankRef := some ts, pulse := some (t, f) }
  else if s.inBlank n ts || closeQual w q then s.holdoffDiscard n
  else (s.setWheel n { s.wheel n with blankRef := some ts }).whlDeliver n ts q 0

/-- The direction of a pulse width in ns (Table 2.3): 1 forward, 2 reverse, 3 invalid; 0 for a pulse too short. -/
def State.pulseDir (s : State) (n w : Nat) : Nat :=
  let d := rWHL_DIR n
  if w < s.rf d 29 20 * 256 then 0
  else if w < s.rf d 19 10 * 256 then (if s.rb d 31 then 2 else 1)
  else if w ≤ s.rf d 9 0 * 256 then (if s.rb d 31 then 1 else 2)
  else 3

/-- A return to the inactive level leaves the filter: it ends the pulse being measured (R43). -/
def State.whlReturned (s : State) (n t f : Nat) : State :=
  let w := s.wheel n
  let s := s.setWheel n { w with trail := none, act := false, pulse := none }
  match w.pulse with
  | none => s
  | some (t0, f0) =>
    let dir := s.pulseDir n (t + f - (t0 + f0))
    if dir = 0 then s.bump (rWHL_CNT_REJ n) 31 24
    else
      let s := if dir = 3 then s.bump (rWHL_CNT_REJ n) 31 24 else s
      s.dirDeliver n (s.whlStamp n t0) (t + f) dir

/-! ### The commands -/

/-- The Hall thresholds of a THR code, rising and falling, mV (Table 2.1; 0b11 acts as 0b00). -/
def hallThr (thr : Nat) : Int × Int :=
  match thr with
  | 1 => (3200, 2400)
  | 2 => (1400, 900)
  | _ => (2000, 1200)

/-- The zero-crossing hysteresis of a ZC_HYST code, mV (Table 2.6). -/
def zcHyst (c : Nat) : Int :=
  match c with
  | 0 => 0
  | 1 => 10
  | 2 => 20
  | _ => 40

/-- At a differential voltage of `mv` the comparator stands at its active level: past the Hall threshold in the direction of POL
(R38), or past zero in that direction by more than the hysteresis (R37). -/
def State.mvActive (s : State) (n : Nat) (mv : Int) : Bool :=
  if s.whlHall n then
    let h := hallThr (s.rf (rWHL_HALL n) 1 0)
    if s.whlPol n then decide (h.1 ≤ mv) else decide (mv ≤ h.2)
  else
    let h := zcHyst (s.rf (rWHL_VR n) 11 10)
    if s.whlPol n then decide (h < mv) else decide (mv < -h)

/-- At `mv` the comparator leaves its active level: past the other Hall threshold (R38), or back at zero, for R37 gives the
hysteresis to the active crossing alone (log entry 14). -/
def State.mvInactive (s : State) (n : Nat) (mv : Int) : Bool :=
  if s.whlHall n then
    let h := hallThr (s.rf (rWHL_HALL n) 1 0)
    if s.whlPol n then decide (mv ≤ h.2) else decide (h.1 ≤ mv)
  else if s.whlPol n then decide (mv ≤ 0) else decide (0 ≤ mv)

/-- COMPARATOR_TRANSITION: the input reaches `mv` at `t`, and where that is the active level the comparator switches (R37 to R39).
A return still in its filter is dropped. A VR crossing while disarmed is ignored, and WHL_STAT.LEVEL does not follow it (log
entry 14). -/
def State.whlActivate (s : State) (n t : Nat) (mv : Int) : State :=
  let w := s.wheel n
  if !s.whlEn n || w.raw || !s.mvActive n mv then s
  else if !s.whlHall n && !w.armed then s.setWheel n { w with raw := true }
  else
    match w.trail with
    | some (t0, f0) =>
      if t < t0 + f0 then (s.setWheel n { w with raw := true, trail := none }).bump (rWHL_CNT_REJ n) 7 0
      else let s := s.whlReturned n t0 f0
           s.setWheel n { s.wheel n with raw := true, hold := some (t, s.whlFilt n) }
    | none => s.setWheel n { w with raw := true, hold := some (t, s.whlFilt n) }

def execComparatorTransition (n : Fin 16) (x : Crossing) (s : State) : Host.Outcome State Fault Refusal :=
  execute (fun s => s.whlActivate n (s.time + x.ofs) x.mv.toInt) s

/-- COMPARATOR_RETURN: the input reaches `mv` at `t`, and where that is past the active level's end the comparator leaves it;
a hold it interrupts is dropped and counted (R39). -/
def State.whlReturn (s : State) (n t : Nat) (mv : Int) : State :=
  let w := s.wheel n
  if !s.whlEn n || !w.raw || !s.mvInactive n mv then s
  else
    match w.hold with
    | some (t0, f0) =>
      if t < t0 + f0 then (s.setWheel n { w with raw := false, hold := none }).bump (rWHL_CNT_REJ n) 7 0
      else let s := s.whlQualify n t0 f0
           s.setWheel n { s.wheel n with raw := false, trail := some (t, s.whlFilt n) }
    | none => s.setWheel n { w with raw := false, trail := if w.act then some (t, s.whlFilt n) else w.trail }

def execComparatorReturn (n : Fin 16) (x : Crossing) (s : State) : Host.Outcome State Fault Refusal :=
  execute (fun s => s.whlReturn n (s.time + x.ofs) x.mv.toInt) s

/-- EDGE_QUALIFIED: a filter hold of the input expires in this core cycle (R39). -/
def State.edgeQualified (s : State) (n : Nat) : State :=
  if !s.whlEn n then s
  else
    match (s.wheel n).hold, (s.wheel n).trail with
    | some (t, f), _ => if t + f < s.time + 4 then s.whlQualify n t f else s
    | none, some (t, f) => if t + f < s.time + 4 then s.whlReturned n t f else s
    | none, none => s

def execEdgeQualified (n : Fin 16) (s : State) : Host.Outcome State Fault Refusal := execute (fun s => s.edgeQualified n) s

/-- VR_ARM: the arming-polarity excursion, in mV, passes the larger of ARM_FLOOR and its fraction of PEAK (R37). -/
def State.vrArm (s : State) (n mv : Nat) : State :=
  let w := s.wheel n
  if !s.whlEn n || s.whlHall n then s
  else if w.armed then s.setWheel n { w with exc := max w.exc mv }
  else if s.rf (rWHL_VR n) 9 3 * 10 < mv ∧ (s.rf (rWHL_VR n) 2 0 + 1) * w.peak < 16 * mv * 2 ^ w.halvings then
    s.setWheel n { w with armed := true, exc := mv }
  else s

def execVrArm (n : Fin 16) (mv : Fin 4096) (s : State) : Host.Outcome State Fault Refusal := execute (fun s => s.vrArm n mv) s

/-- The decay time of a VR input (R37). -/
def decayTime (w : Wheel) : Nat := min (2 * w.interval) 1000000000

/-- PEAK_DECAY: a decay time has passed without arming (R37). -/
def State.peakDecay (s : State) (n : Nat) : State :=
  let w := s.wheel n
  match w.lastQual with
  | some q =>
    if s.whlEn n && !s.whlHall n && !w.armed && decide (w.quals = 2) && decide (0 < decayTime w)
        && decide (q + (w.halvings + 1) * decayTime w < s.time + 4) then
      s.setWheel n { w with halvings := w.halvings + 1 }
    else s
  | none => s

def execPeakDecay (n : Fin 16) (s : State) : Host.Outcome State Fault Refusal := execute (fun s => s.peakDecay n) s

/-- DIR_MAX_EXCEEDED: the pulse being measured passes DIR_MAX, so an invalid edge is qualified (R43). -/
def State.dirMax (s : State) (n : Nat) : State :=
  let w := s.wheel n
  match w.pulse with
  | some (t, f) =>
    let q := t + f + s.rf (rWHL_DIR n) 9 0 * 256
    let ended := match w.trail with | some (t2, f2) => decide (t2 + f2 ≤ q) | none => false
    if s.whlEn n && !ended && decide (q < s.time + 4) then
      ((s.setWheel n { w with pulse := none }).bump (rWHL_CNT_REJ n) 31 24).dirDeliver n (s.whlStamp n t) q 3
    else s
  | none => s

def execDirMaxExceeded (n : Fin 16) (s : State) : Host.Outcome State Fault Refusal := execute (fun s => s.dirMax n) s

/-- Direction decoding needs Hall mode and DIR_MIN < DIR_THR ≤ DIR_MAX (R43, R47). -/
def State.dirOk (s : State) (n : Nat) (v : Word) : Bool :=
  !bit v 19 || (bit v 21 && decide (s.rf (rWHL_DIR n) 29 20 < s.rf (rWHL_DIR n) 19 10)
    && decide (s.rf (rWHL_DIR n) 19 10 ≤ s.rf (rWHL_DIR n) 9 0))

/-- The fields of WHL_CFG other than EN. -/
def whlFields : Word := 0x07F80000

/-- A write of WHL_CFG (R47, R49). At EN 0 to 1 the comparator and the filtered level are taken to stand at the inactive level,
and edges already presented to the domain stay in its inbox after EN is cleared (log entry 14). -/
def State.whlCfgWrite (s : State) (n : Nat) (v : Word) : State :=
  let old := s.reg (rWHL_CFG n)
  let w := s.wheel n
  let off : Wheel := { lastTs := w.lastTs, tsShadow := w.tsShadow, dirLast := w.dirLast }
  if s.whlEn n then
    let s := if (v &&& whlFields) = (old &&& whlFields) then s else s.setRb (rWHL_STAT n) 25 true
    if bit v 31 then s else (s.setRb (rWHL_CFG n) 31 false).setWheel n off
  else if bit v 31 && !s.dirOk n v then s.setRb (rWHL_STAT n) 25 true
  else
    let s := s.setReg (rWHL_CFG n) (v &&& 0x87F80000)
    if bit v 31 then ((s.setReg (rWHL_CNT_REJ n) 0).setReg (rWHL_CNT_EDGE n) 0).setWheel n off else s

def execWhlCfgWrite (n : Fin 16) (v : Word) (s : State) : Host.Outcome State Fault Refusal := execute (fun s => s.whlCfgWrite n v) s

/-- A write of WHL_VR, WHL_HALL or WHL_DIR, refused while EN reads 1 (R47). -/
def State.whlSetWrite (s : State) (n a : Nat) (v : Word) : State :=
  if s.whlEn n then s.setRb (rWHL_STAT n) 25 true
  else match rowOf a with
    | some r => s.setReg a (rowWrite r (s.reg a) v)
    | none => s

/-- WHL_LAST_TS_LO_READ: the read copies the upper half into the shadow (R42). -/
def State.lastTsRead (s : State) (n : Nat) : State :=
  s.setWheel n { s.wheel n with tsShadow := (s.wheel n).lastTs / 2 ^ 32 }

def execWhlLastTsLoRead (n : Fin 16) (s : State) : Host.Outcome State Fault Refusal := execute (fun s => s.lastTsRead n) s

/-- The computed fields of WHL_STAT (Table 2.11): their mask and value. -/
def State.whlStat (s : State) (n : Nat) : Word × Word :=
  let w := s.wheel n
  let act := match w.trail with | some (t, f) => w.act && decide (s.time < t + f) | none => w.act
  (0xFC0000FF, word [(31, 31, (s.whlEn n && (act == s.whlPol n)).toNat), (30, 30, w.armed.toNat), (29, 28, w.dirLast),
    (27, 27, (s.whlActive n).toNat), (26, 26, (s.whlConflict n).toNat), (7, 0, w.peak / 2 ^ w.halvings / 10)])

end Sys2Proof.Machine
end

