-- ==== Sys2Proof/Machine/Angle.lean ====
section
/-! DEFINITION. Angle domains (chapter 3, R60 to R93): tooth tables, seeking the gap, cam phase, prediction, missed
teeth, stall, reverse, learning, the tooth-period log and snapshots. Angles are in 1/16 au. -/

namespace Sys2Proof.Machine

/-! ### Settings and tables -/

/-- The cycle length in 1/16 au (R61). -/
def cycLen (c360 : Bool) : Nat := if c360 then 5898240 else 11796480
/-- Half a 720 °CA cycle, 368,640 au, in 1/16 au. -/
def halfCyc : Nat := 5898240

/-- ADOM_CFG.EN and SRC (R60). -/
def State.domEn (s : State) (d : Nat) : Bool := s.rb (rADOM_CFG d) 31
def State.domRing (s : State) (d : Nat) : Bool := s.rb (rADOM_CFG d) 29

/-- Tooth-table entry `i` of the domain (Table 2.13). -/
def State.tooth (s : State) (d i : Nat) : MemWord := tabGet 0 s.teeth (1024 * d + i)
def teAngle (w : MemWord) : Nat := fld w 19 0
def teGap (w : MemWord) : Nat := fld w 21 20
def teSync (w : MemWord) : Bool := bit w 22
def teCam (w : MemWord) (c : Nat) : Bool := bit w (23 + c)
def tePcls (w : MemWord) : Nat := fld w 27 26
def teInsOk (w : MemWord) : Bool := bit w 28

/-- The learned correction of an entry, 1/16 au (R84). -/
def State.corr (s : State) (d i : Nat) : Int := sgn 16 (fld (tabGet 0 s.corrs (1024 * d + i)) 15 0)

/-- The entry after and before an entry. -/
def State.nextE (s : State) (d i : Nat) : Nat := if (s.dom d).tableLen ≤ i + 1 then 0 else i + 1
def State.prevE (s : State) (d i : Nat) : Nat := if i = 0 then (s.dom d).tableLen - 1 else i - 1

/-- The corrected domain angle of an entry (R51, R84). -/
def State.toothAngle (s : State) (d i : Nat) : Nat :=
  (((16 * teAngle (s.tooth d i) : Nat) + s.corr d i - (16 * (s.dom d).zeroOfs : Nat)) % (cycLen (s.dom d).cyc360 : Nat)).toNat

/-- The corrected span from the entry before to an entry. -/
def State.spanTo (s : State) (d i : Nat) : Nat :=
  let c := cycLen (s.dom d).cyc360
  (s.toothAngle d i + c - s.toothAngle d (s.prevE d i)) % c

/-- The nominal table angle from entry `j` forward to entry `i`. -/
def State.nomSpan (s : State) (d j i : Nat) : Nat :=
  let c := cycLen (s.dom d).cyc360
  (16 * teAngle (s.tooth d i) + c - 16 * teAngle (s.tooth d j) % c) % c

/-- The entry half a cycle from an entry, if there is one (R69). -/
def State.partner (s : State) (d i : Nat) : Option Nat :=
  (below (s.dom d).tableLen).find? (fun j => teAngle (s.tooth d j) == (teAngle (s.tooth d i) + 368640) % 737280)

/-- The active crank input of the domain (R46). -/
def State.crankInput (s : State) (d : Nat) : Option Nat :=
  (below 16).find? (fun n => s.whlActive n && s.whlDom n == d && s.whlRole n == 1)
/-- Its filter time (R76, R80). -/
def State.crankFilt (s : State) (d : Nat) : Nat := match s.crankInput d with | some n => s.whlFilt n | none => 0
/-- It decodes direction (R80, R82). -/
def State.crankDir (s : State) (d : Nat) : Bool := match s.crankInput d with | some n => s.whlDirdec n | none => false
/-- The active cam inputs of the domain. -/
def State.camInputs (s : State) (d : Nat) : List Nat :=
  (below 16).filter (fun n => s.whlActive n && s.whlDom n == d && decide (2 ≤ s.whlRole n))
/-- The largest filter delay among them (R71). -/
def State.camDelay (s : State) (d : Nat) : Nat :=
  (s.camInputs d).foldl (fun m n => max m (s.whlFilt n + if s.whlDirdec n then s.rf (rWHL_DIR n) 9 0 * 256 else 0)) 0

/-! ### The published state -/

/-- The angle travelled from the last tooth by `t`: the trajectory under its limits (R74), whole sixteenths. -/
def Pub.travel (p : Pub) (t : Nat) : Nat := min p.fence (travelFloor p.om p.a (t - p.tk))

/-- The cycle counter and the angle (whole sixteenths) at `t` (R3, R74). -/
def Pub.at (p : Pub) (t : Nat) : Nat × Nat :=
  let c := cycLen p.cyc360
  let x := p.theta + (if p.st = 4 then 0 else p.travel t)
  ((p.cyc + x / c) % 65536, x % c)

/-- The angle state of a domain in force at `t` (R25). -/
def Domain.vis (x : Domain) (t : Nat) : Pub := if x.validAt ≤ t then x.cur else x.old

/-- A new angle state, valid one tick after the slot at `t` (R25). -/
def State.publish (s : State) (d t : Nat) (p : Pub) : State :=
  let x := s.dom d
  s.setDom d { x with old := if x.validAt = t + 16 then x.old else x.cur, cur := p, validAt := t + 16, txDue := true }

/-- An event source of Table 3.17 (R92, log entry 22). -/
def State.domEvent (s : State) (d k : Nat) : State := s.setDom d { s.dom d with evt := setBit (s.dom d).evt k true }

/-! ### Sync loss in the scheduler (R66, R118) -/

/-- The actuator is marked crank-only allowed (R132). -/
def State.coOk (s : State) (a : Nat) : Bool := s.rb (rACT_CFG a) 27

/-- What a sync loss does to one actuator of the domain (R118). -/
def State.lossAct (s : State) (d a : Nat) : State :=
  let flush := s.rb rSCHED_CFG d
  let running := match (s.act a).shot with | some h => decide (h.st = 0) && !h.forced | none => false
  let s := if running then (s.overrideEnd a s.nextCycle 0x20).bump rSCHED_CNT_C 31 16 else s
  (below 8).foldl (fun s k =>
    let x := s.slot a k
    if x.st = 4 && x.flagOnly then (s.endFlagOnly a k s.nextCycle 0x20).bump rSCHED_CNT_C 31 16
    else if (x.st = 1 || x.st = 2 || x.st = 3) && flush then (s.freeSlot a k 0x20).bump rSCHED_CNT_C 15 0
    else if x.st = 1 || x.st = 3 then s.setSlot a k { x with st := 2, locked := none, fire := none, inForce := false, bankWait := false }
    else s) s

/-- A sync loss reaches the scheduler: every actuator bound to the domain, or those not crank-only allowed (R66). -/
def State.syncLoss (s : State) (d : Nat) (nonCo : Bool) : State :=
  ((below 96).filter (fun a => s.domOf a == some d && !(nonCo && s.coOk a))).foldl (fun s a => s.lossAct d a) s

/-- The counters, the event, the scheduler's part and the domain fault of a sync loss (R66, R92). -/
def State.domLoss (s : State) (d new : Nat) (nonCo : Bool) : State :=
  let s := (s.bump (rADOM_CNT_SYNC d) 31 24).domEvent d 1
  (s.syncLoss d nonCo).report { code := 0x0B, object := d, v1 := (s.dom d).lastCause, v2 := new }

/-! ### The tooth-period log (R87, R88) -/

/-- Periods of a tooth-period record: its fields that are in use (Table 3.7). -/
def recPeriods (pay : Nat) : Nat := ((below 4).filter (fun i => pay / 2 ^ (32 * i) % 2 ^ 32 != 0)).length

/-- Periods of the domain the on-chip log holds: those of the records that wait, and those of the open one. -/
def State.logFill (s : State) (d : Nat) : Nat :=
  (s.hands.filter (fun h => h.prod = 0)).foldl (fun n h =>
      h.entries.foldl (fun n e => if e.2.2.2.1 / 16384 = d then n + recPeriods e.2.2.2.2.2 else n) n) 0
    + (match (s.dom d).logOpen with | some r => r.periods.length | none => 0)

/-- The open record closes. -/
def State.logClose (s : State) (d : Nat) : State :=
  match (s.dom d).logOpen with
  | none => s
  | some r =>
    let w := r.periods
    let pay := pack [(31, 0, w.getD 0 0), (63, 32, w.getD 1 0), (95, 64, w.getD 2 0), (127, 96, w.getD 3 0)]
    (s.setDom d { s.dom d with logOpen := none }).hand
      { rs := s.rf (rADOM_LOG d) 26 24, prod := 0, at_ := s.time
        entries := [(0x10, r.flags, s.devAddr, d * 16384 + r.entry, r.time, pay)] }

/-- One period enters the log. -/
def State.logAdd (s : State) (d entry ts word : Nat) : State :=
  if 512 ≤ s.logFill d then
    let s := (s.bump (rADOM_CNT_TOOTH d) 7 0).domEvent d 7
    s.setDom d { s.dom d with logLost := true }
  else
    let x := s.dom d
    let r := x.logOpen.getD { flags := x.logLost.toNat + (if x.cur.st = 2 then 2 else 0), entry := entry }
    let r := { r with time := ts, periods := r.periods ++ [word] }
    let s := s.setDom d { x with logOpen := some r, logLost := x.logLost && x.logOpen.isSome }
    if r.periods.length = 4 then s.logClose d else s

/-- The entry lies in the window FIRST to LAST, wrapping past the table end. -/
def inWindow (first last e : Nat) : Bool :=
  if first ≤ last then decide (first ≤ e) && decide (e ≤ last) else decide (first ≤ e) || decide (e ≤ last)

/-- The period that ends at `entry` and `ts` is logged as ADOM_LOG asks (R87); `ins`: the tooth that ends it is inserted. A period
begins at the tooth before, in mode 2 at the SYNC entry before, and INS says whether either end is inserted (R88). -/
def State.logPeriod (s : State) (d entry ts period : Nat) (ins : Bool) : State :=
  let g := rADOM_LOG d
  let w := s.tooth d entry
  let sync := teSync w
  let last := (s.dom d).logSync
  let begun := (s.dom d).lastIns
  let s := if sync then s.setDom d { s.dom d with logSync := some (ts, ins) } else s
  let word (b : Bool) (p : Nat) : Nat := pack [(31, 31, (b || ins).toNat), (30, 30, if teGap w = 0 then 0 else 1), (29, 0, min p 0x3FFFFFFF)]
  if !s.rb g 31 then s
  else
    match s.rf g 30 29 with
    | 1 =>
      if inWindow (s.rf g 19 10) (s.rf g 9 0) entry then
        let s := s.logAdd d entry ts (word begun period)
        if entry = s.rf g 9 0 then s.logClose d else s
      else s
    | 2 => match sync, last with
      | true, some (t0, b) => s.logAdd d entry ts (word b (ts - t0))
      | _, _ => s
    | _ => s.logAdd d entry ts (word begun period)

/-! ### State changes (Table 3.2) -/

/-- What a domain forgets when it leaves the states with a moving angle or starts seeking afresh. -/
def Domain.forget (x : Domain) : Domain :=
  { x with seek := [], seekCount := 0, cand := none, cands := [], gapAt := 0, gaps := 0, ambig := false, fit := [],
           fitAcc := 0, teeth := [], lastAcc := none, sinceIns := none, lastIns := false, suspect := false, fwdCnt := 0,
           held := none, restart := [], camEdges := [], spans := [], hyp0 := true, hyp1 := true, camFail := false,
           camRun := 0, lrnCur := none, lrnPrev := none, logSync := none }

/-- The domain goes to a state without a moving angle, at the slot `t` (R62 to R67, R83): `loss` marks a sync loss,
`rev` a reverse indication, `cause` the new LAST_CAUSE. The timestamp of the last accepted tooth stays in the state (R62). -/
def State.domTo (s : State) (d t new : Nat) (cause : Option Nat) (loss rev : Bool) : State :=
  let x := s.dom d
  let cyc := if x.cur.st = 2 || x.cur.st = 3 then (x.cur.at t).1 else x.cur.cyc
  let changed := x.cur.st != new
  let s := if changed then (s.logClose d).domEvent d 0 else s
  let x := (s.dom d).forget
  let x := match cause with | some c => { x with lastCause := c } | none => x
  let s := (s.setDom d x).publish d t { st := new, entry := x.cur.entry, tk := x.cur.tk, cyc := cyc, cyc360 := x.cyc360 }
  if loss then s.domLoss d new false
  else if rev then s.report { code := 0x0B, object := d, v1 := (s.dom d).lastCause, v2 := new }
  else s

/-- Row 7: from CRANK_SYNC or FULL_SYNC to SEEK, a sync loss. The stall timeout of SEEK counts on from the last accepted edge, `ts`
(R80). -/
def State.domDrop (s : State) (d t cause ts : Nat) : State :=
  let s := s.domTo d t 1 (some cause) true false
  s.setDom d { s.dom d with lastAcc := some ts }

/-- A_W. -/
def State.aW (s : State) (d : Nat) : Nat := s.rf (rADOM_CFG d) 25 21

/-- Tooth positions of one cycle: TABLE_LEN plus every GAP (R62). -/
def State.positions (s : State) (d : Nat) : Nat :=
  (below (s.dom d).tableLen).foldl (fun n i => n + 1 + teGap (s.tooth d i)) 0

/-- Speed and acceleration in SEEK: R73 with every span the nominal pitch (R62), once four edges are kept. -/
def State.seekFit (s : State) (d : Nat) (edges : List Nat) : Fit :=
  let c := cycLen (s.dom d).cyc360
  match edges with
  | t3 :: t2 :: t1 :: t0 :: _ => fit3 (s.aW d) (s.positions d) (t1 - t0) (t2 - t1) (t3 - t2) c c c
  | _ => {}

/-- The domain begins to seek with edges already counted, newest first (rows 5, 14, 15). The newest, which caused the move, counts
towards SEEK_MIN and is not itself tried as a gap end (log entry 15). -/
def State.domSeek (s : State) (d t : Nat) (cause : Option Nat) (edges : List Nat) : State :=
  let s := s.domTo d t 1 cause false false
  let f := s.seekFit d edges
  let s := s.setDom d { s.dom d with seek := edges.take 5, seekCount := edges.length, lastAcc := edges.head? }
  s.publish d t { (s.dom d).cur with om := f.om, al := f.al, a := f.a, tk := edges.headD 0 }

/-- A reverse indication (R81, rows 2 to 4): in UNSYNC without a valid table it is counted and reported only (R53). -/
def State.domReverse (s : State) (d t : Nat) : State :=
  let s := (s.bump (rADOM_CNT_SYNC d) 7 0).domEvent d 6
  let x := s.dom d
  let s := s.setDom d { x with txRev := true }
  if x.cur.st = 0 && !x.tableValid && !s.domRing d then
    s.report { code := 0x0B, object := d, v1 := x.lastCause, v2 := 0 }
  else s.domTo d t 5 (some 0xA) (x.cur.st != 0 && x.cur.st != 5) true

/-! ### Prediction (R73, R75) -/

/-- The predicted period from the present tooth to the expected one (R75). -/
def State.period (s : State) (d : Nat) : Period :=
  let p := (s.dom d).cur
  periodTo p.om p.a (s.spanTo d (s.nextE d p.entry))

/-- The fit of R73 over four fit points, newest first. -/
def State.refit (s : State) (d : Nat) (pts : List (Nat × Nat)) (old : Fit) : Fit :=
  match pts with
  | [(t3, d3), (t2, d2), (t1, d1), (t0, _)] => fit3 (s.aW d) 1 (t1 - t0) (t2 - t1) (t3 - t2) d1 d2 d3
  | _ => old

/-- The tooth `n` at `ts` becomes the current one, with speed and acceleration `f` (R62, R74). -/
def State.advance (s : State) (d t n ts : Nat) (f : Fit) : State :=
  let p := (s.dom d).cur
  let th := s.toothAngle d n
  s.publish d t { p with
    entry := n, theta := th, hasAngle := true, tk := ts, om := f.om, a := f.a, al := f.al
    fence := s.spanTo d (s.nextE d n) - 16
    cyc := if th < p.theta then (p.cyc + 1) % 65536 else p.cyc, cyc360 := (s.dom d).cyc360 }

/-- The span from the tooth before to the tooth at `ts` waits for its cam decision (R71). -/
def State.addSpan (s : State) (d n start ts : Nat) : State :=
  let x := s.dom d
  if x.cyc360 then s
  else s.setDom d { x with spans := x.spans ++
    [{ entry := n, start := start, fin := ts, due := ts + s.camDelay d
       wraps := decide (s.toothAngle d n < s.toothAngle d (s.prevE d n)) }] }

/-! ### Learning (R86) -/

/-- |α| and ω stay within the learning limits. -/
def State.lrnOk (s : State) (d : Nat) : Bool :=
  let p := (s.dom d).cur
  decide (p.al.natAbs * 10000000 ≤ s.rf (rADOM_LEARN d) 31 24 * 6144 * 1048576)
    && decide (s.rf (rADOM_LEARN d) 23 16 * 12288 * 1048576 ≤ p.om * 100000)

/-- 16·B_i, the bound of a correction in 1/16 au (R85). -/
def State.corrBound (s : State) (d i : Nat) : Nat :=
  let n := s.nextE d i
  let p (j : Nat) : Nat := 4 * s.nomSpan d (s.prevE d j) j / (teGap (s.tooth d j) + 1) / 16
  if (s.dom d).tableLen ≤ i then 0 else min (64 * s.rf (rADOM_LEARN d) 7 0) (min (p i) (p n))

/-- The nominal span between two references; a whole cycle from a reference to itself. -/
def State.refSpan (s : State) (d j i : Nat) : Nat := if i = j then cycLen (s.dom d).cyc360 else s.nomSpan d j i

/-- The corrections of one pass, from the references at `t0`, `t1`, `t2` and the edges between the first two. -/
def State.lrnPass (s : State) (d s0 s1 s2 t0 t1 t2 : Nat) (edges : List (Nat × Nat)) : List (Nat × Int × Nat) :=
  let D1 : Int := (s.refSpan d s0 s1 : Nat)
  let D2 : Int := (s.refSpan d s1 s2 : Nat)
  let A : Int := (t1 - t0 : Nat)
  let B : Int := (t2 - t1 : Nat)
  let den : Int := A * B * (A + B)
  let k : Nat := 2 ^ s.rf (rADOM_LEARN d) 15 12
  edges.map (fun (i, t) =>
    let x : Int := (t - t0 : Nat)
    let num := x * D1 * B * (A + B) + x * (x - A) * (D2 * A - D1 * B)
    let old := s.corr d i
    let v : Int := roundDivI (old * ((k : Int) - 1) * den + (num - (s.nomSpan d s0 i : Nat) * den)) (k * den.toNat : Nat)
    let b : Int := (s.corrBound d i : Nat)
    let conf := fld (tabGet 0 s.corrs (1024 * d + i)) 39 32
    (i, if teSync (s.tooth d i) then 0 else clampI (-b) b v, min (conf + 1) 255))

/-- An accepted edge at `n` is noted for learning; at a SYNC entry a pass is made (R86). -/
def State.lrnNote (s : State) (d n ts : Nat) (clean : Bool) : State :=
  let x := s.dom d
  if !(s.rb (rADOM_CFG d) 26 && decide (x.cur.st = 3) && clean && s.lrnOk d) then
    s.setDom d { x with lrnCur := none, lrnPrev := none }
  else if teSync (s.tooth d n) then
    let pend := match x.lrnPrev.map List.reverse, x.lrnCur.map List.reverse with
      | some ((s0, t0) :: l0), some ((s1, t1) :: _) => s.lrnPass d s0 s1 n t0 t1 ts l0
      | _, _ => []
    s.setDom d { x with lrnPrev := x.lrnCur, lrnCur := some [(n, ts)], lrnPend := pend }
  else s.setDom d { x with lrnCur := x.lrnCur.map (fun l => (n, ts) :: l) }

/-- A correction word (Table 3.6). -/
def corrWord (c : Int) (conf : Nat) : MemWord := BitVec.ofNat 40 (pack [(15, 0, unsgn 16 c), (39, 32, conf)])

/-- The pass of the slot before is taken into use (R86). -/
def State.lrnApply (s : State) (d : Nat) : State :=
  let l := (s.dom d).lrnPend
  if l.isEmpty then s
  else
    let s := { s with corrs := l.foldl (fun (t : Tab MemWord) (e : Nat × Int × Nat) => tabSet 0 t (1024 * d + e.1) (corrWord e.2.1 e.2.2)) s.corrs }
    let s := l.foldl (fun (s : State) e => s.rewrote 2 (1024 * d + e.1) 1) s
    s.setDom d { s.dom d with lrnPend := [] }

/-! ### Edges in sync (R48, R68, R77, R78) -/

/-- The gap check at entry `n`, whose period is `T` (R68). -/
def State.gapOk (s : State) (d n T : Nat) : Bool :=
  match (s.dom d).teeth with
  | (t0, sp0) :: (t1, _) :: _ =>
    let Tp := t0 - t1
    let sp := s.spanTo d n
    decide (s.rf (rADOM_GAP d) 7 0 * Tp * sp ≤ 16 * T * sp0) && decide (16 * T * sp0 ≤ s.rf (rADOM_GAP d) 15 8 * Tp * sp)
  | _ => true

/-- A gap check fails at an edge: the domain goes to SEEK (row 7). -/
def State.gapFail (s : State) (d t ts : Nat) : State :=
  ((s.bump (rADOM_CNT_SYNC d) 23 16).domEvent d 4).domDrop d t 4 ts

/-- A crank edge in CRANK_SYNC or FULL_SYNC, presented by input `inp` (R48, R68, R73, R78). An edge that fails the gap check or is
suspect for the second time has been accepted, so its period is logged before the domain goes to SEEK (R87). -/
def State.syncEdge (s : State) (d t inp ts : Nat) : State :=
  let x := s.dom d
  let p := x.cur
  let n := s.nextE d p.entry
  let w := s.tooth d n
  let dt := ts - p.tk
  let P := s.period d
  let ratio := s.rf (rWHL_PLAUS inp) (8 * tePcls w + 5) (8 * tePcls w)
  let susp := s.rf (rADOM_GAP d) 23 18
  if ratio ≠ 0 ∧ P ≠ .unbounded ∧ P.le (64 * dt) ratio = false then s.bump (rWHL_CNT_REJ inp) 23 16
  else
    let sus := susp ≠ 0 ∧ P ≠ .unbounded ∧ P.le (64 * dt) susp = false
    let s := if sus then s.bump (rADOM_CNT_TOOTH d) 15 8 else s
    if sus ∧ x.suspect then (s.logPeriod d n ts dt false).domDrop d t 7 ts
    else
      let gap := decide (teGap w ≠ 0)
      if gap && !s.gapOk d n dt then (s.logPeriod d n ts dt false).gapFail d t ts
      else
        let sp := s.spanTo d n
        let f0 : Fit := { om := p.om, a := p.a, al := p.al }
        let pts := if sus then x.fit else ((ts, x.fitAcc + sp) :: x.fit).take 4
        let f := if sus then f0 else s.refit d pts f0
        let s := s.logPeriod d n ts dt false
        let s := s.setDom d { s.dom d with
          fit := pts, fitAcc := if sus then x.fitAcc + sp else 0
          teeth := ((ts, sp) :: x.teeth).take 4, lastAcc := some ts
          sinceIns := match x.sinceIns with | some y => if y + sp < halfCyc then some (y + sp) else none | none => none
          lastIns := false, suspect := (x.suspect || decide sus) && !gap }
        ((s.advance d t n ts f).addSpan d n p.tk ts).lrnNote d n ts (!decide sus)

/-- A missed tooth is inserted at its predicted timestamp (R77). -/
def State.insertTooth (s : State) (d t : Nat) : State :=
  let x := s.dom d
  let p := x.cur
  let n := s.nextE d p.entry
  let ts := p.tk + ((s.period d).near 1 1).getD 0
  let sp := s.spanTo d n
  let s := ((s.bump (rADOM_CNT_TOOTH d) 23 16).domEvent d 3).logPeriod d n ts (ts - p.tk) true
  let x := s.dom d
  let s := s.setDom d { x with fitAcc := x.fitAcc + sp, teeth := ((ts, sp) :: x.teeth).take 4, sinceIns := some 0, lastIns := true }
  ((s.advance d t n ts { om := p.om, a := p.a, al := p.al }).addSpan d n p.tk ts).lrnNote d n ts false

/-! ### Seeking (R69, R70) -/

/-- The entries with SYNC = 1 and a given GAP. -/
def State.syncEntries (s : State) (d g : Nat) : List Nat :=
  (below (s.dom d).tableLen).filter (fun i => teSync (s.tooth d i) && teGap (s.tooth d i) == g)

/-- The domain enters CRANK_SYNC or FULL_SYNC at the confirming edge, one entry after the gap entry `c` (R70, rows 11, 12). -/
def State.enterSync (s : State) (d t st c : Nat) (edges : List Nat) : State :=
  match edges with
  | t3 :: t2 :: t1 :: t0 :: _ =>
    let e3 := s.nextE d c
    let e1 := s.prevE d c
    let pts := [(t3, s.spanTo d e3), (t2, s.spanTo d c), (t1, s.spanTo d e1), (t0, 0)]
    let f := s.refit d pts {}
    let s := s.domEvent d 0
    let cams := (s.dom d).camEdges.filter (fun e => t3 < e.1)
    let x := (s.dom d).forget
    let s := s.setDom d { x with fit := pts, teeth := pts, lastAcc := some t3, obsFrom := t3, camEdges := cams }
    let p := x.cur
    s.publish d t { st := st, entry := e3, theta := s.toothAngle d e3, hasAngle := true, tk := t3, om := f.om, al := f.al,
                    a := f.a, fence := s.spanTo d (s.nextE d e3) - 16, cyc := (p.cyc + 1) % 65536, cyc360 := x.cyc360 }
  | _ => s

/-- Step 3 of R69 on the candidates `cs`. -/
def State.resolve (s : State) (d t : Nat) (cs edges : List Nat) : Option State :=
  match cs with
  | [c] => some (s.enterSync d t 3 c edges)
  | [c0, c1] =>
    if !(s.dom d).cyc360 && s.partner d c0 == some c1 && (below (s.dom d).tableLen).all (fun i => (s.partner d i).isSome) then
      some (s.enterSync d t 2 c0 edges)
    else none
  | _ => none

/-- A gap of `g` teeth is confirmed at the newest of `edges` (R69 steps 3 and 4). -/
def State.gapConfirmed (s : State) (d t g : Nat) (edges : List Nat) : State :=
  let x := s.dom d
  let at_ := x.seekCount - 1
  let fresh := s.syncEntries d g
  let moved := ((x.cands.map (fun c => (c + (at_ - x.gapAt)) % x.tableLen)).filter (fun c => fresh.contains c))
  let cs := if moved.isEmpty then fresh else sortBy (fun c => c) moved
  let gaps := x.gaps + 1
  match s.resolve d t cs edges with
  | some s' => s'
  | none =>
    let total := ((below x.tableLen).filter (fun i => teSync (s.tooth d i))).length
    s.setDom d { x with cands := cs, gapAt := at_, gaps := gaps, ambig := x.ambig || decide (total ≤ gaps), cand := none }

/-- Step 1 of R69: the smallest GAP whose window holds the ratio T/Tp. -/
def State.candidate (s : State) (d T Tp : Nat) : Option Nat :=
  ([1, 2, 3].filter (fun g => !(s.syncEntries d g).isEmpty)).find? (fun g =>
    decide ((g + 1) * s.rf (rADOM_GAP d) 7 0 * Tp ≤ 16 * T) && decide (16 * T ≤ (g + 1) * s.rf (rADOM_GAP d) 15 8 * Tp))

/-- Step 2 of R69: the confirming ratio. -/
def State.confirms (s : State) (d g T Tp : Nat) : Bool :=
  decide (16 * Tp ≤ T * ((g + 1) * s.rf (rADOM_GAP d) 15 8)) && decide (T * ((g + 1) * s.rf (rADOM_GAP d) 7 0) ≤ 16 * Tp)

/-- An accepted crank edge in SEEK (R62, R69). -/
def State.seekEdge (s : State) (d t ts : Nat) : State :=
  let x := s.dom d
  let edges := (ts :: x.seek).take 5
  let s := s.setDom d { x with seek := edges, seekCount := x.seekCount + 1, lastAcc := some ts, camEdges := x.camEdges.filter (fun e => ts < e.1) }
  let f := s.seekFit d edges
  let s := s.publish d t { x.cur with om := f.om, al := f.al, a := f.a, tk := ts }
  match edges with
  | t2 :: t1 :: t0 :: _ =>
    let T := t2 - t1
    let Tp := t1 - t0
    let next := if max (s.rf (rADOM_CFG d) 7 0) 3 ≤ x.seekCount + 1 then s.candidate d T Tp else none
    match x.cand with
    | some g =>
      if s.confirms d g T Tp then (s.setDom d { s.dom d with cand := none }).gapConfirmed d t g edges
      else s.setDom d { s.dom d with cand := next }
    | none => s.setDom d { s.dom d with cand := next }
  | _ => s

/-! ### Stall and restart (R80) -/

/-- The stall deadline from the last tooth t_k, in SEEK from the last accepted edge, before the filter time (R80). -/
def State.stallAt (s : State) (d : Nat) : Option Nat :=
  let x := s.dom d
  if 1 ≤ x.cur.st ∧ x.cur.st ≤ 3 then (if x.cur.st = 1 then x.lastAcc else some x.cur.tk).map (fun t => t + max (s.rf (rADOM_TMO d) 31 16) 1 * 100000) else none

/-- MT_RATIO, clamped. -/
def State.mtRatio (s : State) (d : Nat) : Nat := min (max (s.rf (rADOM_TMO d) 5 0) 20) 40

/-- The missed-tooth deadline t_MT (R76), during a restart from its second edge on (R80). -/
def State.missAt (s : State) (d : Nat) : Option Nat :=
  let x := s.dom d
  let p := x.cur
  if p.st = 2 ∨ p.st = 3 then ((s.period d).near (s.mtRatio d) 16).map (fun n => p.tk + n)
  else if p.st = 4 then
    match x.held, x.restart with
    | some (_, e, _, _), t1 :: t0 :: _ =>
      let e2 := s.nextE d (s.nextE d e)
      some (t1 + roundDiv (s.mtRatio d * (t1 - t0) * s.spanTo d (s.nextE d e2)) (16 * s.spanTo d e2))
    | _, _ => none
  else none

/-- The stall timeout: HALTED, holding the angle reached at the deadline `dl` (R80, row 6), brought down to a whole 1/16 au (log
entry 15). -/
def State.domStall (s : State) (d t dl : Nat) : State :=
  let p := (s.dom d).cur
  let at_ := p.at dl
  let s := s.domTo d t 4 (some 9) true false
  if p.st = 2 ∨ p.st = 3 then
    let s := s.setDom d { s.dom d with held := some (p.st, p.entry, p.theta, p.cyc) }
    s.publish d t { (s.dom d).cur with theta := at_.2, hasAngle := true, cyc := at_.1 }
  else s

/-- The expected tooth is missed (R77, R80). -/
def State.domMissed (s : State) (d t : Nat) : State :=
  let s := (s.bump (rADOM_CNT_TOOTH d) 31 24).domEvent d 2
  let x := s.dom d
  let act := s.rb (rADOM_CFG d) 28
  let cause := if act then 6 else 5
  if x.cur.st = 4 then s.domSeek d t (some cause) x.restart
  else
    let n := s.nextE d x.cur.entry
    let far := match x.sinceIns with | some y => decide (halfCyc ≤ y + s.spanTo d n) | none => true
    if act && teInsOk (s.tooth d n) && far then s.insertTooth d t else s.domDrop d t cause x.cur.tk

/-- The earlier of the two deadlines is declared if it is at or before `lim`; a tie is a stall (R80). -/
def State.declare (s : State) (d t lim : Nat) : State :=
  match s.stallAt d, s.missAt d with
  | some a, some b => if b < a then (if b ≤ lim then s.domMissed d t else s) else if a ≤ lim then s.domStall d t a else s
  | some a, none => if a ≤ lim then s.domStall d t a else s
  | none, some b => if b ≤ lim then s.domMissed d t else s
  | none, none => s

/-- KEEP_POS is in force (R80). -/
def State.keepPos (s : State) (d : Nat) : Bool := s.rb (rADOM_CFG d) 27 && s.crankDir d && (s.dom d).held.isSome

/-- A forward crank edge of a KEEP_POS restart (R80, row 13). -/
def State.restartEdge (s : State) (d t ts : Nat) : State :=
  let x := s.dom d
  match x.held, x.restart with
  | some (st, e, _, _), [t1, t0] =>
    let e1 := s.nextE d e
    let e2 := s.nextE d e1
    let e3 := s.nextE d e2
    let T1 := t1 - t0
    let T2 := ts - t1
    let lo := s.rf (rADOM_GAP d) 7 0
    let hi := s.rf (rADOM_GAP d) 15 8
    let ok := teGap (s.tooth d e3) = 0 ∨ (lo * T1 * s.spanTo d e3 ≤ 16 * T2 * s.spanTo d e2 ∧ 16 * T2 * s.spanTo d e2 ≤ hi * T1 * s.spanTo d e3)
    if ok then
      let pts := [(ts, s.spanTo d e3), (t1, s.spanTo d e2), (t0, 0)]
      let p := x.cur
      let th := s.toothAngle d e3
      let s := s.domEvent d 0
      let s := s.setDom d { (s.dom d).forget with fit := pts, teeth := pts, lastAcc := some ts, obsFrom := ts, camEdges := x.camEdges.filter (fun e => ts < e.1) }
      s.publish d t { st := st, entry := e3, theta := th, hasAngle := true, tk := ts
                      om := fitRestart T1 T2 (s.spanTo d e2) (s.spanTo d e3), fence := s.spanTo d (s.nextE d e3) - 16
                      cyc := (p.cyc + 1 + if th < p.theta then 1 else 0) % 65536, cyc360 := x.cyc360 }
    else ((s.bump (rADOM_CNT_SYNC d) 23 16).domEvent d 4).domSeek d t (some 4) (ts :: x.restart)
  | _, _ => s.setDom d { x with restart := ts :: x.restart, camEdges := x.camEdges.filter (fun e => ts < e.1) }

/-! ### Edges -/

/-- A crank edge presented to the domain, taken in the state it finds (R64, R80, R82). -/
def State.crankEdge (s : State) (d t : Nat) (e : WEdge) : State :=
  let s := if (s.dom d).cur.st = 0 ∨ (s.dom d).cur.st = 5 then s else (s.declare d t e.ts).declare d t e.ts
  let x := s.dom d
  match x.cur.st with
  | 0 => if x.tableValid then s.domSeek d t none [e.ts] else s
  | 1 => s.seekEdge d t e.ts
  | 2 | 3 => s.syncEdge d t e.inp e.ts
  | 4 => if s.keepPos d then (if e.dir = 1 then s.restartEdge d t e.ts else s) else s.domSeek d t none (e.ts :: x.restart)
  | 5 =>
    if s.crankDir d && e.dir != 1 then s
    else
      let seek := e.ts :: x.seek
      let n := x.fwdCnt + 1
      if max (s.rf (rADOM_CFG d) 15 8) 1 ≤ n then s.domSeek d t none seek
      else s.setDom d { x with seek := seek, fwdCnt := n }
  | _ => s

/-- A cam edge is kept for the span it belongs to, whatever slot takes it; before sync for the first span to come (R71). -/
def State.camEdge (s : State) (d : Nat) (e : WEdge) : State :=
  let x := s.dom d
  if 1 ≤ x.cur.st ∧ x.cur.st ≤ 4 ∧ x.cyc360 = false then s.setDom d { x with camEdges := x.camEdges ++ [(e.ts, e.role - 2)] } else s

/-! ### Cam phase (R71, R72) -/

/-- A span passes the two tests of R71 when its entry is `i`. -/
def State.camOk (s : State) (d i : Nat) (cams : List Nat) (whole : Bool) : Bool :=
  [0, 1, 2].all (fun c => let win := teCam (s.tooth d i) c
    if cams.contains c then win else !(win && whole))

/-- The targets of the domain's slots move forward by 368,640 au with its angle, when the state published at `t` comes into force (R98). -/
def State.moveTargets (s : State) (d t : Nat) : State := s.setDom d { s.dom d with mv := (s.dom d).mv + 1, mvAt := t + 16 }

/-- Every angle of the domain moves forward by 368,640 au, and with it the targets of its slots (R71, R98). -/
def State.moveHalf (s : State) (d t : Nat) : State :=
  let x := s.dom d
  let p := x.cur
  let c := cycLen p.cyc360
  let part (i : Nat) : Nat := (s.partner d i).getD i
  let s := s.setDom d { x with spans := x.spans.map (fun y => { y with entry := part y.entry, wraps := decide (s.toothAngle d (part y.entry) < s.toothAngle d (s.prevE d (part y.entry))) }) }
  (s.publish d t { p with
    entry := part p.entry, theta := (p.theta + halfCyc) % c, cyc := (p.cyc + (p.theta + halfCyc) / c) % 65536 }).moveTargets d t

/-- The domain's state changes between CRANK_SYNC and FULL_SYNC with its angle kept (rows 8, 9). -/
def State.setSync (s : State) (d t st : Nat) : State :=
  let s := (s.logClose d).domEvent d 0
  let s := s.setDom d { s.dom d with camFail := false, camRun := 0, hyp0 := true, hyp1 := true, lrnCur := none, lrnPrev := none }
  s.publish d t { (s.dom d).cur with st := st }

/-- A cam error is counted (R71, R72). -/
def State.camError (s : State) (d : Nat) : State := (s.bump (rADOM_CNT_SYNC d) 15 8).domEvent d 5

/-- The oldest waiting span is judged (R71 in CRANK_SYNC, R72 in FULL_SYNC). A span whose entry has no partner half a cycle away has
no entry under H1, and rejects it (log entry 15). -/
def State.camSpan (s : State) (d t : Nat) (y : Span) : State :=
  let x := s.dom d
  let cams := (x.camEdges.filter (fun e => y.start < e.1 && e.1 ≤ y.fin)).map (fun e => e.2)
  let s := s.setDom d { x with camEdges := x.camEdges.filter (fun e => y.fin < e.1), spans := x.spans.drop 1 }
  let x := s.dom d
  let whole := decide (x.obsFrom ≤ y.start)
  if x.cur.st = 2 then
    if (s.camInputs d).isEmpty then s
    else
      let h0 := x.hyp0 && s.camOk d y.entry cams whole
      let h1 := x.hyp1 && (match s.partner d y.entry with | some i => s.camOk d i cams whole | none => false)
      if h0 && h1 then s
      else if h0 then s.setSync d t 3
      else if h1 then (s.setSync d t 3).moveHalf d t
      else (s.setDom d { x with hyp0 := true, hyp1 := true, obsFrom := y.fin }).camError d
  else if x.cur.st = 3 then
    let fail := !s.camOk d y.entry cams whole
    let s := if fail && !x.camFail then (s.setDom d { x with camFail := true, camRun := x.camRun + 1 }).camError d else s
    if fail && !x.camFail && decide (1 ≤ x.camRun) then
      let s := s.setDom d { s.dom d with lastCause := 8, obsFrom := y.fin }
      (s.setSync d t 2).domLoss d 2 true
    else if y.wraps then
      s.setDom d { s.dom d with camFail := false, camRun := if (s.dom d).camFail then (s.dom d).camRun else 0 }
    else s
  else s

/-- Every span whose decision is due is judged, oldest first. -/
def State.camSpans (s : State) (d t : Nat) : Nat → State
  | 0 => s
  | n + 1 =>
    match (s.dom d).spans with
    | y :: _ => if y.due ≤ t then (s.camSpan d t y).camSpans d t n else s
    | [] => s

/-! ### The slot (R24, R64, R65) -/

/-- The core cycle at `t` is the domain's slot (Table 1.2). -/
def domSlotAt (d t : Nat) : Bool := t % 16 == 4 * d

/-- The snapshot of the state in force at `t` (R91): the angle to a whole au, its inexact case open (log entry 21). -/
def State.snapAt (s : State) (d t : Nat) : Snap × State :=
  let p := (s.dom d).vis t
  let c := cycLen p.cyc360
  let base := if p.st = 4 then 0 else t - p.tk
  let raw := if p.st = 4 then (p.theta / 16, decide (p.theta % 16 = 0))
    else if p.fence ≤ travelFloor p.om p.a base then ((p.theta + p.fence) / 16, decide ((p.theta + p.fence) % 16 = 0))
    else travelAu p.om p.a p.theta base
  let up := if raw.2 then 0 else (Config.angleUp s.free).toNat
  let cyc := if p.st = 2 ∨ p.st = 3 then (p.at t).1 else p.cyc
  ({ st := p.st, angle := if p.hasAngle then (raw.1 + up) % (c / 16) else 0, om := p.om, al := p.al, time := t, cyc := cyc,
     entry := p.entry, tk := p.tk },
   if raw.2 then s else { s with free := s.free + 1 })

/-- A pending TAKE captures the state in force at the start of the slot (R91). -/
def State.takeSnap (s : State) (d : Nat) : State :=
  if (s.dom d).take then
    let r := s.snapAt d s.time
    r.2.setDom d { r.2.dom d with snap := r.1, take := false }
  else s

/-- Row 1 of Table 3.2, asked for before this slot (R64, R93). -/
def State.row1 (s : State) (d : Nat) : State :=
  match (s.dom d).row1 with
  | some c =>
    let st := (s.dom d).cur.st
    let s := s.domTo d s.time 0 (some c) (st = 2 || st = 3) false
    s.setDom d { s.dom d with row1 := none }
  | none => s

/-- The edges presented since the slot before are taken: a reverse indication alone, else all by their timestamps (R65, R81). -/
def State.takeEdges (s : State) (d : Nat) : State :=
  let t := s.time
  let x := s.dom d
  let now := x.inbox.filter (fun e => e.pres ≤ t)
  let s := s.setDom d { x with inbox := x.inbox.filter (fun e => t < e.pres) }
  if now.any (fun e => 2 ≤ e.dir) then s.domReverse d t
  else (sortBy (fun e => 2 * e.ts + (if e.role = 1 then 1 else 0)) now).foldl
    (fun s e => if e.role = 1 then s.crankEdge d t e else s.camEdge d e) s

/-- The slot of a domain fed by its wheel inputs. An edge of the slot in which SYNC_RESET or another trigger of row 1 acts is taken after
it, as R93 says of a crank edge, a reverse one too (log entry 15). -/
def State.wheelSlot (s : State) (d : Nat) : State :=
  let s := ((s.takeSnap d).lrnApply d).row1 d
  if s.domEn d then s.takeEdges d else s

/-! ### The deadline commands -/

/-- An edge the next slot would take comes before a deadline. -/
def State.edgeBefore (s : State) (d dl : Nat) : Bool :=
  (s.dom d).inbox.any (fun e => e.role == 1 && decide (e.pres ≤ s.time) && decide (e.ts < dl))

/-- MISSED_TOOTH: the first slot at or after t_MT plus the crank filter time (R76). -/
def State.missedTooth (s : State) (d : Nat) : State :=
  match s.missAt d with
  | some m =>
    let stall := match s.stallAt d with | some a => decide (a ≤ m) | none => false
    if domSlotAt d s.time && s.domEn d && !s.domRing d && decide (m + s.crankFilt d ≤ s.time) && !stall && !s.edgeBefore d m then
      s.domMissed d s.time
    else s
  | none => s

/-- STALL: the first slot at or after the stall deadline plus the crank filter time (R80). -/
def State.stallCmd (s : State) (d : Nat) : State :=
  match s.stallAt d with
  | some a =>
    let miss := match s.missAt d with | some m => decide (m < a) | none => false
    if domSlotAt d s.time && s.domEn d && !s.domRing d && decide (a + s.crankFilt d ≤ s.time) && !miss && !s.edgeBefore d a then
      s.domStall d s.time a
    else s
  | none => s

/-- CAM_SPAN_DECISION: the spans due in this slot are judged (R71, R72). -/
def State.camDecide (s : State) (d : Nat) : State :=
  if domSlotAt d s.time && s.domEn d && !s.domRing d then s.camSpans d s.time (s.dom d).spans.length else s

/-! ### Registers -/

/-- A write of ADOM_CFG (R90): SRC stays while EN reads 1; clearing EN asks for row 1; setting it clears the counters. -/
def State.adomCfgWrite (s : State) (d : Nat) (v : Word) : State :=
  let a := rADOM_CFG d
  let old := s.reg a
  let en := bit old 31
  let keep := en && (bit v 29 != bit old 29)
  let s := if keep then s.setRb (rADOM_STAT d) 25 true else s
  let nv := setBit (v &&& 0xBFE0FFFF) 30 (bit old 30)
  let s := s.setReg a (if keep then setBit nv 29 (bit old 29) else nv)
  if en && !bit v 31 then s.setDom d { s.dom d with row1 := some 1, inbox := [] }
  else if !en && bit v 31 then
    ((s.setReg (rADOM_CNT_SYNC d) 0).setReg (rADOM_CNT_TOOTH d) 0).setDom d
      { s.dom d with rxQ := [], rxLost := none, rxSeq := none, rxTime := s.time }
  else s

/-- TAKE: a write of 1 to ADOM_SNAP.TAKE (R91). -/
def State.takeCmd (s : State) (d : Nat) : State := s.setDom d { s.dom d with take := true }

/-- A write of ADOM_LOG closes the open record when it clears EN (R87). -/
def State.adomLogWrite (s : State) (d : Nat) (v : Word) : State :=
  let s := if s.rb (rADOM_LOG d) 31 && !bit v 31 then s.logClose d else s
  s.setReg (rADOM_LOG d) (v &&& 0xE70FFFFF)

/-- The computed fields of ADOM_STAT (Table 3.15) at the present TIME. -/
def State.adomStat (s : State) (d : Nat) : Word × Word :=
  let x := s.dom d
  let p := x.vis s.time
  (0xFDFFFFFF, word [(31, 29, p.st), (28, 28, x.tableValid.toNat), (26, 26, x.suspect.toNat), (24, 24, x.sinceIns.isSome.toNat),
    (23, 16, min x.fwdCnt 255), (15, 15, x.ambig.toNat), (14, 11, x.lastCause), (9, 0, p.entry)])

/-- The snapshot registers (Table 3.16), by offset from ADOM_SNAP. -/
def Snap.word (x : Snap) (k : Nat) : Word :=
  match k with
  | 1 => Sys2Proof.Machine.word [(31, 29, x.st), (19, 0, x.angle)]
  | 2 => BitVec.ofNat 32 x.om
  | 3 => BitVec.ofNat 32 (unsgn 32 x.al)
  | 4 => BitVec.ofNat 32 x.time
  | 5 => BitVec.ofNat 32 (x.time / 2 ^ 32)
  | 6 => BitVec.ofNat 32 x.cyc
  | _ => 0

def execAdomCfgWrite (d : Fin 4) (v : Word) (s : State) : Host.Outcome State Fault Refusal := execute (fun s => s.adomCfgWrite d v) s
def execTake (d : Fin 4) (s : State) : Host.Outcome State Fault Refusal := execute (fun s => s.takeCmd d) s

end Sys2Proof.Machine
end

