-- ==== Sys2Proof/Machine/Feedback.lean ====
section
/-! DEFINITION. The feedback tables (R187 to R190): the segment of a duration, its reference hydraulic duration and its
correction, and the corrected duration. -/

namespace Sys2Proof.Machine

/-- A word of an actuator's feedback table (Table 6.5). One table per actuator is held: it follows an actuator that is bound anew on
another tray, where the spec says nothing of such a table (DESIGN CHOICE, log entry 53). -/
def State.fbWord (s : State) (a w : Nat) : MemWord := tabGet 0 s.fbs (16 * a + w)
/-- DUR_j and H_j in ns, c_j in 4 ns units, CONF. -/
def State.fbDur (s : State) (a j : Nat) : Nat := 8 * fld (s.fbWord a j) 39 20
def State.fbRef (s : State) (a j : Nat) : Nat := 8 * fld (s.fbWord a j) 19 0
def State.fbCorr (s : State) (a j : Nat) : Int := sgn 16 (fld (s.fbWord a (8 + j)) 15 0)
def State.fbConf (s : State) (a j : Nat) : Nat := fld (s.fbWord a (8 + j)) 39 32

/-- How many breakpoints are in use: a DUR of 0 ends the list (R187). -/
def State.fbLen (s : State) (a : Nat) : Nat := ((below 8).takeWhile (fun j => s.fbDur a j != 0)).length

/-- The segment of a duration and its weight as a fraction (R189). -/
def State.fbSeg (s : State) (a dur : Nat) : Nat × Nat × Nat :=
  let n := s.fbLen a
  if dur ≤ s.fbDur a 0 then (0, 0, 1)
  else if s.fbDur a (n - 1) ≤ dur then (n - 2, 1, 1)
  else
    let j := ((below (n - 1)).filter (fun j => s.fbDur a j ≤ dur)).length - 1
    (j, dur - s.fbDur a j, s.fbDur a (j + 1) - s.fbDur a j)

/-- c(DUR) in 4 ns units (R189); 0 while the table has fewer than two breakpoints. -/
def State.fbCorrAt (s : State) (a dur : Nat) : Int :=
  if s.fbLen a < 2 then 0
  else
    let g := s.fbSeg a dur
    roundDivI (((g.2.2 - g.2.1 : Nat) : Int) * s.fbCorr a g.1 + (g.2.1 : Int) * s.fbCorr a (g.1 + 1)) g.2.2

/-- H_ref(DUR) as a fraction of ns (R189): the line through the segment's breakpoints, extrapolated beyond the list. -/
def State.fbRefAt (s : State) (a dur : Nat) : Int × Nat :=
  let j := (s.fbSeg a dur).1
  let den := s.fbDur a (j + 1) - s.fbDur a j
  ((s.fbRef a j : Int) * den + ((s.fbRef a (j + 1) : Int) - s.fbRef a j) * ((dur : Int) - s.fbDur a j), den)

/-- The duration an event runs with, its correction, and how R190's bounds met it. -/
def State.durEff (s : State) (a : Nat) (x : Slot) : Nat × Int × DurFit :=
  if x.flagOnly || !s.rb (rSFB_ACT a) 31 then (x.dur, 0, {})
  else
    let c := s.fbCorrAt a x.dur
    let e : Int := (x.dur : Int) + 4 * c
    let d := if e < x.dmin then x.dmin else if (x.dmax : Int) < e then x.dmax else e.toNat
    (d, c, { atMin := decide (d = x.dmin), atMax := decide (d = x.dmax), clamped := decide ((d : Int) ≠ e) })

/-- The words learned in the frame before come into force (R190). -/
def State.fbTick (s : State) : State :=
  if s.fbPend.isEmpty then s
  else
    let s := s.fbPend.foldl (fun (s : State) e => s.rewrote 12 (1536 * s.trayOf (e.1 / 16) + e.1) 1) s
    { s with fbs := s.fbPend.foldl (fun (t : Tab MemWord) (e : Nat × MemWord) => tabSet 0 t e.1 e.2) s.fbs, fbPend := [] }

end Sys2Proof.Machine
end

