-- ==== Sys2Proof/Machine/Sched.lean ====
section
/-! DEFINITION. The event scheduler (chapter 4, R101 to R124): start times from the predicted trajectory, the checks on a
due start, locks, firing, merging and ends. -/

namespace Sys2Proof.Machine

/-! ### Times (R101, R102) -/

/-- The distance to a slot's target in 1/16 au: D of R101 step 1. -/
def Slot.target (x : Slot) (p : Pub) : Int :=
  sgn 16 (x.cyc + 65536 - p.cyc) * (cycLen p.cyc360 : Nat) + (16 * x.endAngle : Nat) - (p.theta : Nat)

/-- When the unfenced trajectory reaches a distance, nearest ns (R101 step 2); none where it stops short. -/
def Pub.reach (p : Pub) (D : Int) : Option Nat :=
  if D ≤ 0 ∨ (p.a < 0 ∧ vertexReaches p.om p.a D.toNat = false) ∨ (p.a = 0 ∧ p.om = 0) then none
  else ((Period.root p.om p.a D.toNat).near 1 1).map (fun n => p.tk + n)

/-- A time lies later than t_F, when the unfenced trajectory reaches the fence (R102). -/
def Pub.beyondFence (p : Pub) (t : Int) : Bool := decide ((p.tk : Int) < t) && reachedBefore p.om p.a p.fence (t.toNat - p.tk) 1

/-- A domain's state permits starts for an actuator (Table 3.1). -/
def permits (st : Nat) (co : Bool) : Bool := st == 3 || (st == 2 && co)

/-- The state in force of a slot's domain. -/
def State.pubOf (s : State) (x : Slot) : Pub := (s.dom x.dom).vis s.time

/-- A slot's start (and, in END_ANGLE mode, end) times from the state in force (R101, R102). -/
def State.compute (s : State) (a : Nat) (x : Slot) : Slot :=
  let x := s.moved x
  let p := s.pubOf x
  let D := x.target p
  let e := s.durEff a x
  let x := { x with durEff := e.1, corr := e.2.1, durClamp := e.2.2 }
  if D ≤ 0 then { x with passed := true, inForce := false }
  else match p.reach D with
    | none => { x with passed := false, inForce := false }
    | some tE =>
      let tS : Int := (tE : Int) - x.durEff
      { x with passed := false, tE := tE, tS := tS, inForce := !p.beyondFence tS }

/-- A RUNNING slot's computed end, END_ANGLE mode (R106, R117): held beyond the fence, at once once passed. -/
def State.computeEnd (s : State) (x : Slot) : Slot :=
  if x.duration then x
  else
    let x := s.moved x
    let p := s.pubOf x
    let D := x.target p
    if D ≤ 0 then (if x.inForce && decide (x.tE ≤ s.time) then x else { x with inForce := true, tE := s.time })
    else match p.reach D with
      | some tE => if p.beyondFence tE then { x with inForce := false } else { x with inForce := true, tE := tE }
      | none => { x with inForce := false }

/-! ### Duty (R236 to R238, R240) -/

/-- DUTY_EN, DMODE, STRICT, the last two only under the first. -/
def State.dutyEn (s : State) (a : Nat) : Bool := s.rb (rDIAG_DUTY a) 31
def State.dutyTrunc (s : State) (a : Nat) : Bool := s.dutyEn a && s.rb (rDIAG_DUTY a) 30
def State.dutyStrict (s : State) (a : Nat) : Bool := s.dutyEn a && s.rb (rDIAG_DUTY a) 29
/-- LIM (R236). -/
def State.dutyLim (s : State) (a : Nat) : Nat :=
  if s.dutyEn a then min (s.rf (rDIAG_DUTY a) 9 0) (s.dutyCeil a) else s.dutyCeil a
/-- WIN_MS. -/
def State.winMs (s : State) (a : Nat) : Nat := min (max (s.rf (rDIAG_DUTY a) 23 10) 1) 10000
/-- The budget B, ns. -/
def State.dutyBudget (s : State) (a : Nat) : Nat := s.dutyLim a * s.winMs a * 1000000 / 1024
/-- The duty checks always pass. -/
def State.dutyFree (s : State) (a : Nat) : Bool := decide (s.dutyLim a = 1023) && !s.dutyEn a
/-- The remaining budget R. -/
def State.dutyLeft (s : State) (a t : Nat) : Int := (s.dutyBudget a : Int) - s.dutySum a t

/-- Check 6 of a start that would run for `P` ns from `tf` (R237): none refuses, a cap or none. -/
def State.dutyCheck (s : State) (a tf P dmin : Nat) : Option (Option Nat) :=
  let R := s.dutyLeft a s.time
  if s.dutyFree a || decide ((P : Int) ≤ R) then some none
  else if s.dutyTrunc a && decide ((dmin : Int) ≤ R) then some (some (tf + R.toNat))
  else none

/-- Check 6 of a merge that moves the end from `now` to `to` (R238). -/
def State.dutyMerge (s : State) (a present upTo : Nat) : Option (Option Nat) :=
  if s.dutyFree a || decide (upTo ≤ present) then some none
  else
    let R : Int := s.dutyLeft a s.time - ((present : Int) - s.time)
    if ((upTo - present : Nat) : Int) ≤ R then some none
    else if s.dutyTrunc a then some (some (present + R.toNat))
    else none

/-! ### Banks (R150, R151) -/

/-- Phase 0 of a slot's profile is a PEAK phase. -/
def State.peakStart (s : State) (x : Slot) : Bool := phPeak (s.phaseRec x.prof 0)

/-- A member is in its peak (R150). -/
def State.inPeak (s : State) (m : Nat) : Bool :=
  (match (s.act m).shot with | some h => decide (h.st = 0) && phPeak (s.phaseOf m h) | none => false)
  || ((s.act m).shot.isNone && (below 8).any (fun k => (s.slot m k).fire.isSome && !(s.slot m k).flagOnly && s.peakStart (s.slot m k)))

/-- Another member of the bank is in its peak. -/
def State.peakBusy (s : State) (a : Nat) : Bool :=
  match s.bankOf a with
  | some b => s.rb (rBANK_CFG b) 30 && (s.members b).any (fun m => m != a && s.inPeak m)
  | none => false

/-- Check 9 of Table 4.7 fails for a start of ACT[a] computed at `tS`. -/
def State.bankBusy (s : State) (a : Nat) (tS : Int) : Bool :=
  match s.bankOf a with
  | some b => s.peakBusy a || (s.rb (rBANK_CFG b) 30 && (s.members b).any (fun m => m != a && (below 8).any (fun k =>
      let y := s.slot m k
      y.st == 3 && y.bankWait && (decide (y.tS < tS) || (decide (y.tS = tS) && decide (m < a))))))
  | none => false

/-! ### Ends (R107) -/

/-- The end in force of an actuator's shot locks if it lies before the frame's end: at `arrival` at the earliest. -/
def State.lockEnd (s : State) (a arrival : Nat) : State :=
  match (s.act a).shot, s.shotEnd a with
  | some h, some e =>
    if h.endLock.isNone && decide (e < frameOf s.time + 64) then s.modShot a (fun h => { h with endLock := some (max e arrival) }) else s
  | _, _ => s

/-- The same for a RUNNING FLAG_ONLY event. -/
def State.lockFlagEnd (s : State) (a k arrival : Nat) : State :=
  let x := s.slot a k
  if x.st = 4 && x.flagOnly && x.endLock.isNone && decide (x.ownEnd < frameOf s.time + 64) then
    s.setSlot a k { x with endLock := some (max x.ownEnd arrival) }
  else s

/-- All ends of an actuator that lie before the frame's end lock. -/
def State.lockEnds (s : State) (a arrival : Nat) : State :=
  (below 8).foldl (fun s k => s.lockFlagEnd a k arrival) (s.lockEnd a arrival)

/-! ### The checks on a due start (Table 4.7) -/

/-- A slot goes to BLOCKED (row 2 of Table 4.2). -/
def State.block (s : State) (a k : Nat) : State :=
  s.setSlot a k { s.slot a k with st := 2, locked := none, fire := none, inForce := false, bankWait := false }

/-- A slot goes to WAITING (row 5). -/
def State.wait (s : State) (a k : Nat) (bank : Bool) : State :=
  s.setSlot a k { s.slot a k with st := 3, bankWait := bank, fire := none }

/-- The checks have passed: the start fires at `tf`. -/
def State.pass (s : State) (a k tf : Nat) (late : Bool) (cap : Option Nat) : State :=
  let x := s.slot a k
  s.setSlot a k { x with fire := some tf, late := late, cap := cap, bankWait := false
                         lateness := if late then ((tf : Int) - x.tS).toNat else 0 }

/-- The own end a merging event brings (R114): its t_act is its computed start. -/
def Slot.mergeEnd (x : Slot) : Nat :=
  ({ x with tAct := x.tS.toNat, fixed := if x.duration then some x.durEff else none, cap := none } : Slot).natEnd

/-- Checks 5 to 9, for a start that would fire at `tf`. -/
def State.judgeLane (s : State) (a k tf : Nat) (late lock : Bool) : State :=
  let x := s.slot a k
  match (s.act a).shot with
  | some h =>
    let e := (s.shotEnd a).getD 0
    if h.st != 0 || s.cls a == 3 || h.forced || decide (e ≤ tf) then s.wait a k false
    else
      let x := s.computeEnd x
      match s.dutyMerge a e x.mergeEnd with
      | none => (s.freeSlot a k 0x22).bump rDIAG_GSTAT 15 8
      | some cap => (s.setSlot a k { x with trunc := cap.isSome }).pass a k tf late cap
  | none =>
    let P := if x.duration then min x.durEff (x.tE - tf).toNat
      else (clampI x.dmin x.dmax (x.tE - tf)).toNat
    match s.dutyCheck a tf P x.dmin with
    | none => (s.freeSlot a k 0x22).bump rDIAG_GSTAT 15 8
    | some cap =>
      let out := s.cls a == 4
      if s.dip && !out && phLists (s.phaseRec x.prof 0) 2 then s.wait a k false
      else if !out && s.peakStart x && s.bankBusy a x.tS then
        let md := match s.bankOf a with | some b => s.rf (rBANK_CFG b) 7 0 | none => 0
        if md = 0 ∨ (lock = false ∧ x.tS + (1000 * md : Nat) < s.time) then (s.freeSlot a k 0x23).bump rACT_GSTAT 23 12
        else s.wait a k true
      else s.pass a k tf late cap

/-- The checks of Table 4.7 on a due start, at a frame-start lock or in a solver slot. -/
def State.judge (s : State) (a k : Nat) (lock : Bool) : State :=
  let x := s.slot a k
  if !permits (s.pubOf x).st (s.coOk a) then s.block a k
  else if !s.inRun then (if s.inSafe then s.freeSlot a k 0x26 else s.block a k)
  else if s.disabled a then s.freeSlot a k 0x30
  else
    let least := s.time + (if lock then 0 else 4)
    let onTime := match x.locked with | some t => decide (least ≤ t) | none => false
    let tf : Nat := if onTime then x.locked.getD 0 else s.time + 4
    let late := !onTime && decide (x.tS < tf)
    if !onTime && (x.passed || !x.inForce) then s.freeSlot a k 0x21
    else if late && decide (x.tE - tf < x.dmin) then s.freeSlot a k 0x21
    else if x.flagOnly then s.pass a k tf late none
    else s.judgeLane a k tf late lock

/-! ### Firing (R104, R105, R109, R114) -/

/-- A new lane shot of a slot, or a forced one, begins at `t` with the LS current at code `i` (R137, R211). -/
def State.beginShot (s : State) (a t i : Nat) (h : Shot) : State :=
  let s := s.cutWatch a
  let l := s.railOf a
  let h := { h with
    tAct := t, iNow := (s.act a).iLast, railReg := decide ((s.rail l).st = 2), vsupOk := !s.dip, sfb := s.reg (rSFB_ACT a)
    ttp := s.reg (rDIAG_TTP a), lim := s.reg (rDIAG_LIM a), react := s.reg (rDIAG_REACT a) }
  let s := s.setAct a { s.act a with shot := some h, hold := none, dutyAt := t }
  let s := s.mark a t true
  if s.cls a = 4 then s.gates a t else s.enterPhase a 0 t i

/-- An event starts its own shot at `t` (row 6). -/
def State.fireShot (s : State) (a k t i : Nat) : State :=
  let x := s.slot a k
  let x := { x with st := 4, tAct := t, tShow := t, locked := none, fire := none
                    fixed := if x.duration then some (min x.durEff (x.tE - t).toNat) else none }
  let s := (s.setSlot a k x).flagAction a true t x.flagS
  let s := if x.cap.isSome then s.bump rDIAG_GSTAT 7 0 else s
  s.beginShot a t i { prof := x.prof, slots := setBit 0 k true, dur := x.dur, corr := x.corr, durClamp := x.durClamp }

/-- An event merges into the running shot at `t` (row 7, R107, R114). -/
def State.fireMerge (s : State) (a k t : Nat) : State :=
  let x := s.slot a k
  let x := { x with st := 4, tAct := x.tS.toNat, tShow := t, locked := none, fire := none, merged := true
                    lateness := ((t : Int) - x.tS).toNat
                    fixed := if x.duration then some x.durEff else none }
  let s := (s.setSlot a k x).flagAction a true t x.flagS
  let s := if x.cap.isSome then s.bump rDIAG_GSTAT 7 0 else s
  let s := s.modShot a (fun h => { h with slots := setBit h.slots k true, sflags := setBit h.sflags 11 true, endLock := none })
  s.bump rSCHED_CNT_B 31 16

/-- A FLAG_ONLY event starts at `t` (R110). -/
def State.fireFlag (s : State) (a k t : Nat) : State :=
  let x := s.slot a k
  let x := { x with st := 4, tAct := t, tShow := t, locked := none, fire := none
                    fixed := if x.duration then some (min x.dur (x.tE - t).toNat) else none }
  ((s.setSlot a k x).flagAction a true t x.flagS).mark a t true

/-- START_FIRE: a start whose checks have passed fires, or merges where the extension passes check 6 (R114); one whose shot can take no
merge waits. -/
def State.startFire (s : State) (a k i : Nat) : State :=
  let x := s.slot a k
  match x.fire with
  | some t =>
    if s.time + 4 ≤ t then s
    else
      let u := if x.late then s.bump rSCHED_CNT_A 15 0 else s
      if x.flagOnly then (u.fireFlag a k t).lockEnds a (s.time + 4)
      else match (s.act a).shot with
        | none => (u.fireShot a k t i).lockEnds a (s.time + 4)
        | some h =>
          let e := (s.shotEnd a).getD 0
          if h.st = 0 && !h.forced && s.cls a != 3 && decide (t < e) then
            let y := s.computeEnd x
            match s.dutyMerge a e y.mergeEnd with
            | none => (s.freeSlot a k 0x22).bump rDIAG_GSTAT 15 8
            | some cap => ((s.setSlot a k { y with trunc := cap.isSome, cap := cap }).fireMerge a k t).lockEnds a (s.time + 4)
          else s.wait a k false
  | none => s

def execStartFire (a : Fin 96) (k : Fin 8) (i : Fin 1024) (s : State) : Host.Outcome State Fault Refusal :=
  execute (fun s => s.startFire a k i) s

/-! ### The solver slot (R22, R101, R104, R106) -/

/-- The core cycle at `t` is the solver slot of ACT[a] (Table 1.2). -/
def solverSlotAt (a t : Nat) : Bool := t % 64 == 4 * (a % 16)

/-- Rows 2 and 4 of Table 4.2 at the start of the slot: permission stands only while the domain has not lost it since (R66, R118). -/
def State.permit (s : State) (a k : Nat) : State :=
  let x := s.slot a k
  let ok := permits (s.pubOf x).st (s.coOk a) && s.inRun
  if x.st = 2 ∧ ok = true ∧ permits (s.dom x.dom).cur.st (s.coOk a) = true then s.setSlot a k { x with st := 1 }
  else if (x.st = 1 ∨ x.st = 3) ∧ ok = false then s.block a k
  else s

/-- The end a RUNNING slot bears on is locked: a result for it is not applied (R29, R107). -/
def State.endLocked (s : State) (a : Nat) (x : Slot) : Bool :=
  if x.flagOnly then x.endLock.isSome else (match (s.act a).shot with | some h => h.endLock.isSome | none => false)

/-- The times of an ARMED or WAITING slot; a WAITING start no longer due returns to ARMED (row 11); a start inside the
current frame locks on arrival (R29). A WAITING start that is locked keeps its start time and the duration it was locked with, and
the end its late-start test needs follows the trajectory (R104, R111). -/
def State.solve (s : State) (a k : Nat) : State :=
  let x := s.slot a k
  if (x.st = 1 ∨ x.st = 3) ∧ x.locked = none ∧ x.fire = none then
    let y := s.compute a x
    let due := y.passed || (y.inForce && decide (y.tS < s.time + 4))
    let lock := y.inForce && !due && decide (y.tS < (frameOf s.time + 64 : Nat))
    s.setSlot a k { y with st := if x.st = 3 && !due then 1 else x.st, bankWait := x.bankWait && due
                           locked := if lock then some y.tS.toNat else none }
  else if x.st = 3 ∧ x.fire = none then
    let y := s.compute a x
    s.setSlot a k { s.moved x with passed := y.passed, tE := y.tE }
  else if x.st = 4 && !s.endLocked a x then s.setSlot a k (s.computeEnd x)
  else s

/-- A slot is due in this solver slot. -/
def State.isDue (s : State) (a k : Nat) : Bool :=
  let x := s.slot a k
  (x.st == 1 || x.st == 3) && x.fire.isNone && (x.passed || x.locked.isSome || (x.inForce && decide (x.tS < s.time + 4)))

/-- The order in which starts of one actuator are judged (R113): by start time, then by slot. -/
def State.dueOrder (s : State) (a : Nat) : List Nat :=
  sortBy (fun k => (s.slot a k).tS.toNat) ((below 8).filter (fun k => s.isDue a k))

/-- The PEEK registers take the named slot (R124). -/
def State.fillPeek (s : State) (a k : Nat) : State :=
  let x := s.moved (s.slot a k)
  let shown := x.st = 1 && x.inForce
  let s := s.setReg rSCHED_PEEK_STAT (if x.st = 0 then 0 else
    word [(31, 29, x.st), (28, 28, x.duration.toNat), (27, 27, x.flagOnly.toNat), (26, 26, (x.late && decide (4 ≤ x.st)).toNat), (25, 24, x.dom),
      (21, 16, x.prof), (15, 0, x.cyc)])
  let s := s.setReg rSCHED_PEEK_END (if x.st = 0 then 0 else BitVec.ofNat 32 x.endAngle)
  s.setReg rSCHED_PEEK_START (if shown then BitVec.ofInt 32 x.tS else 0)

/-- SOLVER_SLOT. -/
def State.solverSlot (s : State) (a : Nat) : State :=
  if !solverSlotAt a s.time then s
  else
    let s := (below 8).foldl (fun s k => (s.permit a k).solve a k) s
    let s := s.lockEnds a (s.time + 4)
    let s := (s.dueOrder a).foldl (fun s k => s.judge a k false) s
    if (s.act a).peek && decide (s.rf rSCHED_PEEK 14 8 = a) then (s.setAct a { s.act a with peek := false }).fillPeek a (s.rf rSCHED_PEEK 2 0) else s

def execSolverSlot (a : Fin 96) (s : State) : Host.Outcome State Fault Refusal := execute (fun s => s.solverSlot a) s

/-- A write of SCHED_PEEK; the last write names what is filled (R124). -/
def State.peekWrite (s : State) (v : Word) : State :=
  let s := s.setReg rSCHED_PEEK (v &&& 0x00007F07)
  let a := fld v 14 8
  if 95 < a then { s with peekZero := true } else { s.setAct a { s.act a with peek := true } with peekZero := false }

def execSchedPeekWrite (v : Word) (s : State) : Host.Outcome State Fault Refusal := execute (fun s => s.peekWrite v) s

/-! ### Locks at the frame start (R29, R107, R151) -/

/-- The starts in force that lie in the frame, earliest first, equal times by actuator and slot. -/
def State.startsInFrame (s : State) : List (Nat × Nat) :=
  let all := (below 768).filter (fun j => let x := s.slot (j / 8) (j % 8)
    x.st == 1 && x.inForce && x.locked.isNone && x.fire.isNone && decide ((s.time : Int) ≤ x.tS) && decide (x.tS < (s.time + 64 : Nat)))
  (sortBy (fun j => (s.slot (j / 8) (j % 8)).tS.toNat) all).map (fun j => (j / 8, j % 8))

/-- The lane engines lock the starts and the ends of the frame that begins now. -/
def State.lockFrame (s : State) : State :=
  let s := (below 96).foldl (fun s a => s.lockEnds a s.time) s
  s.startsInFrame.foldl (fun s q =>
    let x := s.slot q.1 q.2
    (s.setSlot q.1 q.2 { x with locked := some x.tS.toNat }).judge q.1 q.2 true) s

/-! ### End edges (R107, R110, R155, R157) -/

/-- The end edge of the actuator's lane shot, whose end is locked (R153 to R160). -/
def State.endLane (s : State) (a i : Nat) : State :=
  match (s.act a).shot with
  | some h =>
    match h.endLock with
    | some e =>
      if h.st = 0 && decide (e < s.time + 4) then s.normalEnd a e i h
      else s
    | none => s
  | none => s

/-- END_EDGE: the locked end of a FLAG_ONLY event (k below 8) or of the lane shot. -/
def State.endEdge (s : State) (a k i : Nat) : State :=
  if k = 8 then s.endLane a i
  else
    let x := s.slot a k
    match x.endLock with
    | some e =>
      if x.st = 4 && x.flagOnly && decide (e < s.time + 4) then s.endFlagOnly a k e (if x.cancelEnd.isSome then 2 else 0) else s
    | none => s

def execEndEdge (a : Fin 96) (k : Fin 9) (i : Fin 1024) (s : State) : Host.Outcome State Fault Refusal :=
  execute (fun s => s.endEdge a k i) s

/-- The computed word of SCHED_STAT (Table 4.14). -/
def State.schedStat (s : State) : Word :=
  word [(25, 16, ((below 768).filter (fun j => (s.slot (j / 8) (j % 8)).st != 0)).length),
    (6, 0, ((below 96).filter (fun a => (s.act a).shot.isSome)).length)]

end Sys2Proof.Machine
end

