-- ==== Sys2Proof/Machine/Lane.lean ====
section
/-! DEFINITION. The lane engines' work in a lane's slot (chapter 6, with R137 to R144, R153 to R160): samples, phase changes,
turn-offs, the opening and closing watches (R182, R183), shot records (R186), the feedback update (R191), the strict duty
limit (R239), and the reactions to faults of a shot (R222 to R233). -/

namespace Sys2Proof.Machine

/-- The core cycle at `t` is the slot of LANE[n] (Table 1.2). -/
def laneSlotAt (n t : Nat) : Bool := t % 64 == 4 * (n % 16)

/-- The present core cycle is the slot of the actuator's LS lane, and the lane engines run. -/
def State.lsSlot (s : State) (a : Nat) : Bool := decide (s.lsLane a < 192) && laneSlotAt (s.lsLane a) s.time && !s.inDoze

/-- Divert applies to a rail (R207). -/
def State.railDivert (s : State) (r : Nat) : Bool := (s.rail r).ov || s.rb (rBST_STAT r) 23 || decide ((s.rail r).st = 5)

/-! ### Faults of a shot (R231 to R233) -/

/-- Run `k` of ACT[a]: 0 OC, 1 switch fault, 2 open, 3 TTP. -/
def State.run_ (s : State) (a k : Nat) : Nat := s.rf (rDIAG_AST a) (15 - 4 * k) (12 - 4 * k)
/-- The state with run `k` set. -/
def State.setRun (s : State) (a k v : Nat) : State := s.setRf (rDIAG_AST a) (15 - 4 * k) (12 - 4 * k) v

/-- A run lengthens; whether it has reached its threshold in the word `react`. -/
def State.lengthen (s : State) (a k : Nat) (react : Word) : State × Bool :=
  let n := min (s.run_ a k + 1) 15
  let thr := fld react (31 - 4 * k) (28 - 4 * k)
  (s.setRun a k n, decide (thr ≠ 0) && decide (thr ≤ n))

/-- The place of a fault code in the order of R232: OC, BOOT_UV, DESAT, PEAK_TMO, OPEN; a window failure stands last, at 5. -/
def faultRank (code : Nat) : Nat := match code with | 0 => 0 | 6 => 1 | 1 => 2 | 7 => 3 | 2 => 4 | _ => 9

/-- The shot is RUNNING, or an override of this very slot has ended it (R232). -/
def State.judged (s : State) (h : Shot) : Bool := h.st == 0 || (h.st == 1 && h.safe && h.tEnd == s.time + 4)

/-- A fault of a shot (Table 8.2): `k` the run of its kind and `adds` whether it adds to it, `ends` whether it ends the shot, `at_`
when the shot ends; `did` that it has ended the shot already. The first fault in R232's order that ends the shot shows so. -/
def State.shotFault (s : State) (a code : Nat) (k : Option Nat) (ends : Bool) (at_ lane v1 v2 : Nat) (sh : Shot) (did : Bool := false)
    (adds : Bool := true) : State :=
  let s := s.setRb (rDIAG_AST a) (16 + code) true
  let q := match k with | some k => if adds then s.lengthen a k sh.react else (s, false) | none => (s, false)
  let run := match k with | some k => q.1.run_ a k | none => 0
  let ended := match (s.act a).shot with | some h => ends && s.judged h && !h.faultEnd | none => false
  let s := q.1.report { code := code, object := a, lane := lane, v1 := v1, v2 := v2, tShot := sh.tAct, run := run
                        slots := sh.slots.toNat, react := (ended || did).toNat + 2 * (q.2 && (!s.disabled a || s.disabledNow a)).toNat }
  let s := if ends || did then s.modShot a (fun h => { h with faultEnd := true }) else s
  let s := if ends then s.overrideEnd a at_ 0x30 else s
  if q.2 then s.disable a code (faultRank code) else s

/-! ### Phase changes (R137, R144, R239) -/

/-- The duty budget of a strict actuator is spent (R239). -/
def State.spent (s : State) (a : Nat) : Bool := s.dutyStrict a && decide (s.dutyBudget a ≤ s.dutySum a s.time)

/-- The shot ends at `t` because the budget is spent (R239). -/
def State.strictEnd (s : State) (a t i : Nat) : State :=
  let s := (s.runningSlots a).foldl (fun s k => s.setSlot a k { s.slot a k with trunc := true }) s
  let s := s.modShot a (fun h => { h with truncated := true })
  match (s.act a).shot with
  | some h => s.placeEnd a t (s.safeMode a h.tripped) true none i
  | none => s

/-- The profile moves to its next phase, in force 4 ns after the start of the slot; an end at or before that comes first (R144). -/
def State.nextPhase (s : State) (a i : Nat) : State :=
  match (s.act a).shot with
  | some h =>
    let t := s.time + 4
    if h.st ≠ 0 then s
    else if (match h.endLock with | some e => decide (e ≤ t) | none => false) then s
    else if phLast (s.phaseRec h.prof (h.phase + 1)) && s.spent a then s.strictEnd a t i
    else s.enterPhase a (h.phase + 1) t i
  | none => s

/-- The shot is RUNNING in a phase before its hold phase, in force in this slot. -/
def State.walking (s : State) (a : Nat) : Bool :=
  match (s.act a).shot with
  | some h => decide (h.st = 0) && decide (s.cls a ≠ 4) && !phLast (s.phaseOf a h) && decide (h.entry ≤ s.time)
  | none => false

/-- A slot after T_MIN of the phase (R142). -/
def pastTmin (x : BitVec 128) (entry t : Nat) : Bool := decide (entry + 64 * phTmin x ≤ t)
/-- A slot after T_MAX of the phase (R141, R143). -/
def pastTmax (x : BitVec 128) (entry t : Nat) : Bool := decide (entry + 64 * phTmax x ≤ t)

/-- CURRENT and FLAG exits in the LS slot (R141, R142): a met exit ends the phase once T_MIN has passed; one met before
that waits for it. -/
def State.exitSlot (s : State) (a i : Nat) : State :=
  match (s.act a).shot with
  | some h =>
    let x := s.phaseOf a h
    if s.walking a && !h.early then
      let met := h.met || (phExit x = 2 && s.flag (phFlag x) == phFlagPol x)
      let ok := pastTmin x h.entry s.time
      let s := s.modShot a (fun h => { h with met := met, early := met && !ok })
      if met && ok && phExit x != 1 then s.nextPhase a i else s
    else s
  | none => s

/-- PHASE_TIME_EXIT (R141). -/
def execPhaseTimeExit (a : Fin 96) (i : Fin 1024) (s : State) : Host.Outcome State Fault Refusal :=
  execute (fun s => match (s.act a).shot with
    | some h =>
      let x := s.phaseOf a h
      if s.lsSlot a && s.walking a && phExit x == 1 && pastTmax x h.entry s.time then s.nextPhase a i else s
    | none => s) s

/-- PHASE_TMIN_END (R142). -/
def execPhaseTminEnd (a : Fin 96) (i : Fin 1024) (s : State) : Host.Outcome State Fault Refusal :=
  execute (fun s => match (s.act a).shot with
    | some h =>
      let x := s.phaseOf a h
      if s.lsSlot a && s.walking a && h.early && pastTmin x h.entry s.time then s.nextPhase a i else s
    | none => s) s

/-- A peak timeout (R225, R210): fault 0x07, the TTP run, and the rail's setpoint to its ceiling. -/
def State.peakTimeout (s : State) (a : Nat) (h : Shot) : State :=
  let x := s.phaseOf a h
  let s := s.modShot a (fun h => { h with sflags := setBit h.sflags 13 true })
  let judged := bit h.ttp 31 && h.vsupOk && !(phLists x 2 && !h.railReg)
  let s := s.shotFault a 7 (some 3) false 0 (s.lsLane a) h.iMax h.phase h (adds := judged)
  let p0 := s.phaseRec h.prof 0
  if phPeak p0 && phLists p0 2 && h.railReg && h.tPeak.isNone then
    s.setRail (s.railOf a) { s.rail (s.railOf a) with tmoPend := true }
  else s

/-- PHASE_TMAX_TIMEOUT (R143); of a shot that another fault has ended in this slot the timeout is still reported (R232). -/
def execPhaseTmaxTimeout (a : Fin 96) (i : Fin 1024) (s : State) : Host.Outcome State Fault Refusal :=
  execute (fun s => match (s.act a).shot with
    | some h =>
      let x := s.phaseOf a h
      if s.lsSlot a && s.judged h && decide (s.cls a ≠ 4) && !phLast x && decide (h.entry ≤ s.time) && (phExit x == 0 || phExit x == 2) && !h.met && pastTmax x h.entry s.time
          && !(match h.endLock with | some e => decide (e ≤ s.time + 4) | none => false) then
        let s := if phPeak x then s.peakTimeout a h else s.modShot a (fun h => { h with sflags := setBit h.sflags 1 true })
        s.nextPhase a i
      else s
    | none => s) s

/-! ### Crossings (R139, R141, R153, R174) -/

/-- The regulated lane is switched, or will be once CHOP_TMIN has passed (R139). -/
def State.chop (s : State) (a : Nat) (on : Bool) (t : Nat) : State :=
  match (s.act a).shot with
  | some h =>
    if h.regOn = on then s.modShot a (fun h => { h with regWant := none })
    else if h.regAt + 500 * s.rf (rACT_CFG a) 18 16 ≤ t then
      (s.modShot a (fun h => { h with regOn := on, regAt := t, regWant := none })).gates a t
    else s.modShot a (fun h => { h with regWant := some on })
  | none => s

/-- REGULATION_CROSSING: the current rises through CMP_HI or falls through CMP_LO at `t`. -/
def State.regCross (s : State) (a : Nat) (rise : Bool) (t : Nat) : State :=
  match (s.act a).shot with
  | some h =>
    let x := s.phaseOf a h
    if h.st = 0 ∧ s.cls a ≠ 4 ∧ h.entry ≤ t then
      let falls := phExit x == 0 && phDir x && !phLast x
      if phReg x ≠ 0 then (if rise && falls then s else s.chop a (!rise) t)
      else if rise && (phLast x || phExit x != 0) then s.modShot a (fun h => { h with sflags := setBit h.sflags 0 true })
      else s
    else if h.st = 1 ∧ rise = false ∧ h.off ≤ 2 ∧ h.zeroAt = none ∧ s.cls a ≤ 2 then
      (s.modShot a (fun h => { h with zeroAt := some t })).gates a t
    else s
  | none => s

def execRegulationCrossing (a : Fin 96) (rise : Bool) (ofs : Fin 4) (s : State) : Host.Outcome State Fault Refusal :=
  execute (fun s => s.regCross a rise (s.time + ofs)) s

/-- EXIT_CROSSING (R141): a CURRENT exit is captured. -/
def execExitCrossing (a : Fin 96) (ofs : Fin 4) (s : State) : Host.Outcome State Fault Refusal :=
  execute (fun s => match (s.act a).shot with
    | some h =>
      if s.walking a && phExit (s.phaseOf a h) == 0 then s.exitCross a (s.time + ofs) else s
    | none => s) s

/-- CHOP_TMIN_EXPIRY (R139): a switching asked for during the minimum time takes effect. -/
def execChopTminExpiry (a : Fin 96) (s : State) : Host.Outcome State Fault Refusal :=
  execute (fun s => match (s.act a).shot with
    | some h =>
      match h.regWant with
      | some w =>
        let t := h.regAt + 500 * s.rf (rACT_CFG a) 18 16
        if h.st = 0 && decide (t < s.time + 4) then
          (s.modShot a (fun h => { h with regOn := w, regAt := t, regWant := none })).gates a t
        else s
      | none => s
    | none => s) s

/-! ### Feedback (R191 to R193) -/

/-- One correction step: the word with the step applied, whether it was, and whether a bound acted. -/
def fbStep (w : MemWord) (step : Int) (lim clim : Nat) (atMin atMax : Bool) : MemWord × Bool × Bool :=
  let d := clampI (-(lim : Int)) lim step
  let clamped := decide (d ≠ step)
  if (atMin && decide (d < 0)) || (atMax && decide (0 < d)) then (w, false, true)
  else if d = 0 then (w, false, clamped)
  else
    let c := sgn 16 (fld w 15 0) + d
    let e := clampI (-(clim : Int)) clim c
    (setFld (setFld w 15 0 (unsgn 16 e)) 39 32 (min (fld w 39 32 + 1) 255), true, clamped || decide (e ≠ c))

/-- A shot whose two signatures were found updates its actuator's table, or counts as an outlier; its SFLAGS. -/
def State.fbUpdate (s : State) (a : Nat) (sh : Shot) (tOpen tClose : Nat) : State × BitVec 16 :=
  if !bit sh.sfb 31 || sh.safe || sh.forced || bit sh.sflags 11 || bit sh.sflags 4 || bit sh.sflags 2 || sh.truncated
      || decide (s.fbLen a < 2) then (s, sh.sflags)
  else
    let g := s.fbSeg a sh.dur
    let ref := s.fbRefAt a sh.dur
    let H : Int := (sh.onTime : Int) + tClose - tOpen
    let num : Int := ref.1 - H * ref.2
    if ((256 * fld sh.sfb 7 0 * ref.2 : Nat) : Int) < num.natAbs then
      let n := (s.act a).outRun + 1
      let s := (s.bump rSFB_CNT_A 15 0).setAct a { s.act a with outRun := n }
      let s := if max 1 (fld (s.sigA a sh) 9 6) ≤ n && !s.rb (rSFB_FROZEN (a / 32)) (a % 32) then
          (s.setRb (rSFB_FROZEN (a / 32)) (a % 32) true).report
            { code := 10, object := a, lane := s.lsLane a, tShot := sh.tAct, slots := sh.slots.toNat }
        else s
      (s, setBit sh.sflags 8 true)
    else
      let s := s.setAct a { s.act a with outRun := 0 }
      if s.rb (rSFB_FROZEN (a / 32)) (a % 32) then (s, sh.sflags)
      else
        let den := g.2.2 * ref.2 * 2 ^ max 1 (fld sh.sfb 24 22) * 4
        let step (w : Nat) : Int := roundDivI (num * w) den
        let one (j w : Nat) := fbStep (s.fbWord a (8 + j)) (step w) (16 * fld sh.sfb 13 8) (128 * fld sh.sfb 21 14)
          sh.durClamp.atMin sh.durClamp.atMax
        let u := one g.1 (g.2.2 - g.2.1)
        let v := one (g.1 + 1) g.2.1
        let upd := u.2.1 || v.2.1
        let s := { s with fbPend := s.fbPend ++ (if u.2.1 then [(16 * a + 8 + g.1, u.1)] else [])
                                     ++ (if v.2.1 then [(16 * a + 9 + g.1, v.1)] else []) }
        let s := if upd then s.bump rSFB_CNT_A 31 16 else s
        (s, setBit (setBit sh.sflags 7 upd) 9 (bit sh.sflags 9 || u.2.2 || v.2.2))

/-! ### Signatures (R182, R183) -/

/-- K frames in ns. -/
def State.slopeNs (s : State) (a : Nat) (sh : Shot) : Nat := 64 * (4 * 2 ^ fld (s.sigA a sh) 11 10)

/-- The opening watch takes a sample. -/
def State.openSample (s : State) (a : Nat) (sh : Shot) (x : Held) : Shot :=
  let k := s.slopeNs a sh
  let part := match x.ph with
    | some p =>
      let r := s.phaseRec sh.prof p
      phReg r = 0 && (phLists r 1 || phLists r 2)
    | none => false
  if !s.opens a sh || sh.tOpen.isSome || sh.openDone || x.drain || x.uns || !part
      || decide (x.t < sh.tAct + 1000 * fld (s.sigA a sh) 31 24) || decide (sh.tAct + 4000 * fld (s.sigA a sh) 23 16 < x.t) then sh
  else
    let prev := sh.openHist.find? (fun y => y.t + k = x.t)
    let hist := sh.openHist.filter (fun y => x.t < y.t + k) ++ [{ t := x.t, i := x.code, ok := true }]
    match prev with
    | none => { sh with openHist := hist }
    | some y =>
      let d : Int := (x.code : Int) - y.i
      let m := max sh.sMax d.toNat
      let found := decide (8 ≤ m) && decide (16 * d ≤ ((fld (s.sigA a sh) 15 12 * m : Nat) : Int))
      { sh with openHist := hist, sMax := m, tOpen := if found then some (x.t - sh.tAct) else none }

/-- The closing watch takes a drain sample; at a detection the watch ends and the record closes. -/
def State.closeSample (s : State) (a : Nat) (x : Held) : State :=
  match (s.act a).watch with
  | some sh =>
    let k := s.slopeNs a sh
    let b := s.sigB a sh
    if !x.drain || x.uns || decide (x.t < sh.tOff) || decide (sh.tOff + 1000 * fld b 23 14 < x.t) then s
    else
      let prev := sh.closeHist.find? (fun y => y.1 + k = x.t)
      let hist := sh.closeHist.filter (fun y => x.t < y.1 + k) ++ [(x.t, x.code)]
      let hit := match prev with
        | some y => decide (sh.tOff + 1000 * fld b 31 24 ≤ x.t) && decide (fld b 13 8 ≤ ((x.code : Int) - y.2).natAbs)
        | none => false
      if hit then
        let tc := x.t - sh.tEnd
        let s := s.setLane (s.lsLane a) { s.lane (s.lsLane a) with mux := false }
        let s := s.setAct a { s.act a with watch := none }
        let q := match sh.tOpen with
          | some tOp => s.fbUpdate a sh tOp tc
          | none => (s, sh.sflags)
        q.1.closeShot a { sh with tClose := some tc, sflags := q.2 }
      else s.setAct a { s.act a with watch := some { sh with closeHist := hist } }
  | none => s

/-! ### Records (Tables 6.2 and 6.3) -/

/-- The two entries of a closed shot's record. R29 says that the record carries the lateness of a late start; Tables 6.2 and 6.3 give
it no such field, and t_act and the event completion (Table 4.6) carry it (DEDUCED, log entry 53). -/
def State.shotEntries (s : State) (a : Nat) (sh : Shot) : List (Nat × Nat × Nat × Nat × Nat × Nat) :=
  let none32 := 0xFFFFFFFF
  let low := ((below 8).find? (fun k => bit sh.slots k)).getD 0
  let obj := 128 * low + a
  [(0x20, 0, s.devAddr, obj, sh.tAct,
     pack [(31, 0, sh.onTime), (63, 32, sh.tPeak.getD none32), (95, 64, sh.tOpen.getD none32), (127, 96, sh.tClose.getD none32)]),
   (0x21, 0, s.devAddr, obj, sh.tEnd,
     pack [(31, 0, sh.eDrv), (63, 32, sh.eRcv), (73, 64, sh.iPeak), (95, 80, unsgn 16 sh.corr), (103, 96, sh.slots.toNat),
       (106, 104, sh.phase), (127, 112, sh.sflags.toNat)])]

/-- A shot record joins the hand-overs, before the records of its stream that closed after it (R186). -/
def State.handShot (s : State) (h : Hand) : State :=
  let later (x : Hand) : Bool := x.prod == 1 && x.rs == h.rs && decide (h.closed < x.closed)
  if s.hands.any later then { s with hands := s.hands.takeWhile (fun x => !later x) ++ h :: s.hands.dropWhile (fun x => !later x) }
  else s.hand h

/-- The closed records of an actuator go to the record streamer (R186). -/
def State.handRecords (s : State) (a : Nat) : State :=
  let l := (s.act a).toClose
  let s := if l.isEmpty then s else s.setAct a { s.act a with toClose := [] }
  l.foldl (fun s sh => if bit sh.sfb 30 then
    s.handShot { rs := fld sh.sfb 29 27, prod := 1, at_ := s.time, closed := sh.closedAt, entries := s.shotEntries a sh } else s) s

/-! ### The slot's work for the actuator whose LS lane it is -/

/-- The energy of a frame of an INJECTOR's or a VALVE's shot (R211), and whether the frame was diverted, of any class (R207). -/
def State.energySample (s : State) (a : Nat) (sh : Shot) (x : Held) : Nat × Nat × Bool :=
  let r := s.rail (s.railOf a)
  let div := (s.lane (s.lsLane a)).divert
  let counts := decide (1 ≤ s.cls a) && decide (s.cls a ≤ 2)
  if x.t ≤ sh.tAct ∨ x.drain = true then (0, 0, false)
  else
    ((if counts && x.hs then (if x.hsv then r.vb else s.vsup) * x.code else 0),
     (if counts && !x.ls && s.rcvFit a && !div then r.vr * x.code else 0),
     !x.ls && s.rcvFit a && div && decide (0 < x.code))

/-- The window check of a time-to-peak (R224), and its part in the adaptive window (R208). -/
def State.judgePeak (s : State) (a : Nat) : State :=
  match (s.act a).shot with
  | some h =>
    match h.tPeak with
    | some tp =>
      if h.ttpJudged then s
      else
        let s := s.modShot a (fun h => { h with ttpJudged := true })
        let p0 := s.phaseRec h.prof 0
        let r := s.railOf a
        let s := if phPeak p0 && phLists p0 2 && h.railReg then
            s.setRail r { s.rail r with tWin := max (s.rail r).tWin (min (roundDiv tp 1000) 1023), counted := (s.rail r).counted + 1 }
          else s
        let x := s.phaseOf a h
        if !bit h.ttp 31 || !h.vsupOk || (phLists x 2 && !h.railReg) then s
        else if tp < 500 * fld h.ttp 11 0 ∨ 500 * fld h.ttp 23 12 < tp then
          let s := (s.modShot a (fun h => { h with sflags := setBit h.sflags 12 true })).setRb (rDIAG_AST a) 25 true
          let q := s.lengthen a 3 h.react
          if q.2 then q.1.disable a 7 5 else q.1
        else s.setRun a 3 0
    | none => s
  | none => s

/-- A sample is taken into the shot RUNNING or ENDING. -/
def State.shotSample (s : State) (a : Nat) (x : Held) : State :=
  match (s.act a).shot with
  | some h =>
    let e := s.energySample a h x
    let h' := s.openSample a h x
    let s := if e.2.2 && !h.diverted then s.bump (rBST_CNT (s.railOf a)) 7 0 else s
    let run := if h.st ≤ 1 then
        (if s.gmode (s.lsLane a) = 1 && (s.lane (s.lsLane a)).gate && (s.lane (s.lsLane a)).above
            && (match (s.lane (s.lsLane a)).lastOn with | some t => decide (t + 1000 ≤ s.time) | none => false) then h.desatRun + 1 else 0)
      else h.desatRun
    s.modShot a (fun _ => { h' with
      eDrv := h.eDrv + e.1, eRcv := h.eRcv + e.2.1, diverted := h.diverted || e.2.2, desatRun := run
      iNow := x.code, iPeak := if h.tAct ≤ x.t ∧ x.uns = false then max h.iPeak x.code else h.iPeak
      iMax := if h.tAct ≤ x.t then max h.iMax x.code else h.iMax })
  | none => s

/-- Turn-off in the slot (R154, R158 to R160): it finishes once the current has fallen through I_ZERO, or an output's end
has passed; a soft shutdown steps its target. -/
def State.endingSlot (s : State) (a : Nat) : State :=
  match (s.act a).shot with
  | some h =>
    if h.st ≠ 1 then s
    else if s.cls a = 4 then (if h.tEnd < s.time then (s.finishOff a s.time).handRecords a else s)
    else match h.zeroAt with
      | some z => if z < s.time ∧ (h.off ≤ 2 ∨ h.off = 4) then s.finishOff a s.time else s
      | none =>
        if h.off = 4 then
          let n := 15625 * (s.rf (rACT_SAFE a) 29 27 + 1)
          let k := h.ssdSteps + 1
          let v := roundDiv (h.ssdFrom * (n - k)) n
          let s := s.modShot a (fun h => { h with ssdSteps := k })
          s.setLane (s.lsLane a) { s.lane (s.lsLane a) with linear := some v, cmpHi := v }
        else s
  | none => s

/-- The strict duty limit in a hold phase (R239). -/
def State.strictSlot (s : State) (a i : Nat) : State :=
  match (s.act a).shot with
  | some h =>
    if h.st = 0 && decide (h.entry ≤ s.time) && (phLast (s.phaseOf a h)) && s.spent a then s.strictEnd a (s.time + 4) i else s
  | none => s

/-- The actuator is idle for the checks of R228. -/
def State.idle (s : State) (a : Nat) : Bool :=
  let hs := match s.bankOf a with | some b => [s.bankLane b 1, s.bankLane b 2] | none => []
  (s.act a).bound && s.inRun && (s.act a).shot.isNone && (s.act a).watch.isNone
    && (below 8).all (fun k => (s.slot a k).st != 4 && (s.slot a k).st != 5)
    && decide ((s.act a).idleFrom + 1000000 ≤ s.time)
    && hs.all (fun n => decide (192 ≤ n) || (!(s.lane n).gate &&
        (match (s.lane n).lastEdge with | some t => decide (t + 1000000 ≤ s.time) | none => true)))
    && decide (s.gmode (s.lsLane a) = 1)

/-- The condition of idle check `j` in this slot (Table 8.1), with the sample `i` in use. -/
def State.idleCond (s : State) (a j i : Nat) : Bool :=
  let l := s.lane (s.lsLane a)
  let chk := s.rf (rDIAG_LIM a) 31 30
  match j with
  | 0 => decide (chk = 1) && l.below_
  | 1 => decide (chk = 2) && l.above
  | _ => s.rb (rDIAG_LIM a) 3 && decide (s.iZero a < i)

/-- The idle checks follow their conditions (R228). -/
def State.idleSlot (s : State) (a i : Nat) : State :=
  let x := s.act a
  if !s.idle a then (if x.idleOn = [none, none, none] then s else s.setAct a { x with idleOn := [none, none, none] })
  else
    let frames := 15625 * (s.rf (rDIAG_LIM a) 27 24 + 1)
    let conds := (below 3).map (fun j => s.idleCond a j i)
    let on := (below 3).map (fun j => if conds.getD j false then some ((x.idleOn.getD j none).getD s.time) else none)
    let off := (below 3).map (fun j => if conds.getD j false then 0 else min (x.idleOff.getD j 0 + 1) frames)
    let rep := (below 3).foldl (fun (r : BitVec 3) j => if frames ≤ off.getD j 0 then setBit r j false else r) x.idleRep
    s.setAct a { x with idleOn := on, idleOff := off, idleRep := rep }

/-- The faults a trip or an under-voltage left for this slot, over-current first (R222, R229, R230, R232). A bootstrap fault ends
the shot here; a trip has ended it already; a trip between shots has none. -/
def State.pendSlot (s : State) (a : Nat) : State :=
  let l := (s.act a).pend
  if l.isEmpty then s
  else
    let s := s.setAct a { s.act a with pend := [] }
    (l.filter (fun p => p.code = 0) ++ l.filter (fun p => p.code ≠ 0)).foldl (fun s p =>
      let sh := match p.shot, (s.act a).shot with
        | true, some h => h
        | _, _ => { react := s.reg (rDIAG_REACT a) }
      s.shotFault a p.code (some (if p.code = 0 then 0 else 1)) (p.shot && p.code != 0) (s.time + 4) p.lane p.cur p.phase sh p.ended) s

/-- All a lane's slot does for the actuator whose LS lane it is, with the sample `x` in use and the code `i` held now. -/
def State.lsWork (s : State) (a i : Nat) (x : Held) : State :=
  let s := s.handRecords a
  let s := s.setAct a { s.act a with iLast := if x.drain then 0 else x.code }
  let s := s.setLane (s.lsLane a) { s.lane (s.lsLane a) with divert := s.railDivert (s.railOf a) }
  let s := (s.pendSlot a).shotSample a x
  let s := (s.judgePeak a).closeSample a x
  let s := (s.endingSlot a).strictSlot a i
  let s := (s.exitSlot a i).idleSlot a (s.act a).iLast
  s.clampNow a i

/-- A gate edge of any lane of the actuator within the last 200 ns (R171). -/
def State.unsettled (s : State) (a : Nat) : Bool :=
  (below 3).any (fun r => match (s.lane (s.roleLane a r)).lastEdge with
    | some e => decide (s.roleLane a r < 192) && decide (e ≤ s.time) && decide (s.time ≤ e + 200)
    | none => false)

/-- An ADC code under a gain in signed 1/4,096 and an offset in signed eighths of an LSB (R177, Table 6.11): to the nearest code,
within the converter's range (DEDUCED, log entry 19). -/
def trimCode (raw gain ofs : Nat) : Nat :=
  (clampI 0 1023 (roundDivI ((raw : Int) * (4096 + sgn 8 gain) + 512 * sgn 8 ofs) 4096)).toNat

/-- What LANE[n]'s ADC code stands for under LANE_TRIM: the drain trims while it converts the drain. -/
def State.trimmed (s : State) (n raw : Nat) : Nat :=
  let w := s.reg (rLANE_TRIM n)
  if (s.lane n).mux then trimCode raw (fld w 15 8) (fld w 7 0) else trimCode raw (fld w 31 24) (fld w 23 16)

/-- The sample held at the start of a lane's slot for the actuator whose LS lane it is. -/
def State.holdNow (s : State) (n a code : Nat) : Held :=
  let on (r : Nat) : Bool := decide (s.roleLane a r < 192) && (s.lane (s.roleLane a r)).gate
  { t := s.time, code := code, drain := (s.lane n).mux, uns := s.unsettled a, hs := on 1 || on 2, hsv := on 2, ls := on 0
    ph := match (s.act a).shot with | some h => if h.st = 0 then some h.phase else none | none => none }

/-- The word of TRAY_PEEK_DATA for a lane (Table 6.12). -/
def Lane.peekWord (l : Lane) : Word :=
  word [(31, 22, if l.mux then 0 else l.i), (21, 12, l.vd), (11, 11, l.mux.toNat), (10, 10, l.above.toNat), (9, 9, l.below_.toNat),
    (8, 8, l.gate.toNat)]

/-- LANE_SLOT: LANE[n]'s ADC holds `code`, before its trims; the drain comparators stand `above` VD_HI and `bel` VD_LO. On a high-side lane `above`
says that the bootstrap voltage stands above 8.5 V (R165). Of the actuators that name the lane as LS the bound one is served; one
unbound since its last shot still hands over its records. -/
def State.laneSlot (s : State) (n code : Nat) (above bel : Bool) : State :=
  if !laneSlotAt n s.time || s.inDoze then s
  else
    let l := s.lane n
    let low := s.gmode n == 1 && l.rdy
    let code := if l.rdy then s.trimmed n code else 0
    let naming := (below 96).filter (fun a => s.lsLane a = n)
    let owner := (naming.find? (fun a => (s.act a).bound)).or naming.head?
    let prev := l.held
    let nowHeld := match owner with
      | some a => s.holdNow n a code
      | none => { t := s.time, code := code, drain := l.mux, uns := false, ph := none, hs := false, hsv := false, ls := false }
    let l := { l with above := low && above, below_ := low && bel, bootUv := l.bootUv && !above, held := some nowHeld }
    let l := match prev with
      | some x => if x.drain then { l with vd := x.code, i := 0 } else { l with i := x.code }
      | none => l
    let s := s.setLane n l
    let s := (naming.filter (fun a => !(s.act a).bound)).foldl (fun s a => s.handRecords a) s
    let s := match owner, prev with
      | some a, some x => s.lsWork a code x
      | _, _ => s
    if s.rf (rTRAY_PEEK (n / 48)) 5 0 = n % 48 then s.setReg (rTRAY_PEEK_DATA (n / 48)) (s.lane n).peekWord else s

def execLaneSlot (n : Fin 192) (code : Fin 1024) (above bel : Bool) (s : State) : Host.Outcome State Fault Refusal :=
  execute (fun s => s.laneSlot n code above bel) s

/-! ### The other commands of a slot -/

/-- TURN_OFF_TIMEOUT (R154, R230). -/
def execTurnOffTimeout (a : Fin 96) (s : State) : Host.Outcome State Fault Refusal :=
  execute (fun s => match (s.act a).shot with
    | some h =>
      if s.lsSlot a && h.st == 1 && decide (h.off ≤ 2) && h.zeroAt.isNone
          && decide (h.tEnd + 32000 * max 1 (s.rf (rACT_CFG a) 7 0) ≤ s.time) then
        let s := s.modShot a (fun h => { h with sflags := setBit h.sflags 2 true })
        let s := s.shotFault a 8 none false 0 (s.lsLane a) h.iNow h.phase h
        s.finishOff a s.time
      else s
    | none => s) s

/-- SOFT_SHUTDOWN_END (R158): the target reaches zero and the gate turns off; the slot goes FREE in the next LS slot. -/
def execSoftShutdownEnd (a : Fin 96) (s : State) : Host.Outcome State Fault Refusal :=
  execute (fun s => match (s.act a).shot with
    | some h =>
      let t := h.tEnd + 1000000 * (s.rf (rACT_SAFE a) 29 27 + 1)
      if h.st == 1 && h.off == 4 && h.zeroAt.isNone && decide (t < s.time + 4) then
        let s := (s.modShot a (fun h => { h with zeroAt := some t })).setLane (s.lsLane a) { s.lane (s.lsLane a) with linear := none }
        s.gates a t
      else s
    | none => s) s

/-- COIL_TAIL_END (R159). -/
def execCoilTailEnd (a : Fin 96) (s : State) : Host.Outcome State Fault Refusal :=
  execute (fun s => match (s.act a).shot with
    | some h =>
      if s.lsSlot a && h.st == 1 && h.off == 3 && decide (h.tailFrom + 4000 * s.rf (rACT_SAFE a) 9 0 ≤ s.time) then s.finishOff a s.time else s
    | none => s) s

/-- OPEN_WATCH_END (R182). -/
def execOpenWatchEnd (a : Fin 96) (s : State) : Host.Outcome State Fault Refusal :=
  execute (fun s => match (s.act a).shot with
    | some h =>
      if s.lsSlot a && s.opens a h && h.tOpen.isNone && !h.openDone && decide (h.tAct + 4000 * fld (s.sigA a h) 23 16 ≤ s.time) then
        (s.modShot a (fun h => { h with openDone := true, sflags := setBit h.sflags 5 true })).bump rSFB_CNT_B 31 16
      else s
    | none => s) s

/-- CLOSE_WATCH_TIMEOUT (R183). -/
def execCloseWatchTimeout (a : Fin 96) (s : State) : Host.Outcome State Fault Refusal :=
  execute (fun s => match (s.act a).watch with
    | some h => if s.lsSlot a && decide (h.tOff + 1000 * fld (s.sigB a h) 23 14 ≤ s.time) then s.cutWatch a else s
    | none => s) s

/-- OPEN_LOAD_CHECK (R227). -/
def execOpenLoadCheck (a : Fin 96) (s : State) : Host.Outcome State Fault Refusal :=
  execute (fun s => match (s.act a).shot with
    | some h =>
      if s.lsSlot a && s.judged h && !h.olDone && decide (fld h.lim 23 14 ≠ 0) && decide (h.tAct + 8000 * fld h.lim 13 8 ≤ s.time) then
        let s := s.modShot a (fun h => { h with olDone := true })
        if h.iMax < fld h.lim 23 14 then s.shotFault a 2 (some 2) false 0 (s.lsLane a) h.iMax h.phase h else s.setRun a 2 0
      else s
    | none => s) s

/-- DESAT_FAULT (R226): of a shot RUNNING, or turning off with its gate on. -/
def execDesatFault (a : Fin 96) (s : State) : Host.Outcome State Fault Refusal :=
  execute (fun s => match (s.act a).shot with
    | some h =>
      let f := fld h.lim 7 4
      if s.lsSlot a && decide (h.st ≤ 1) && decide (f ≠ 0) && decide (f ≤ h.desatRun) then
        let s := s.modShot a (fun h => { h with desatRun := 0, swFault := true })
        s.shotFault a 1 (some 1) true (s.time + 4) (s.lsLane a) h.iNow h.phase h
      else s
    | none => s) s

/-- The idle faults due (R228): each is reported once at its onset. -/
def State.idleFaults (s : State) (a : Nat) : State :=
  (below 3).foldl (fun s j =>
    let x := s.act a
    match x.idleOn.getD j none with
    | some t0 =>
      if !bit x.idleRep j && decide (t0 + 1000000 * (s.rf (rDIAG_LIM a) 27 24 + 1) ≤ s.time) then
        let s := (s.setAct a { x with idleRep := setBit x.idleRep j true }).setRb (rDIAG_AST a) (19 + j) true
        let dis := s.rb (rDIAG_REACT a) 15
        let s := s.report { code := 3 + j, object := a, lane := s.lsLane a, v1 := if j = 2 then x.iLast else 0
                            react := 2 * (dis && !s.disabled a).toNat }
        if dis then s.disable a (3 + j) else s
      else s
    | none => s) s

def execIdleFault (a : Fin 96) (s : State) : Host.Outcome State Fault Refusal :=
  execute (fun s => if s.lsSlot a then s.idleFaults a else s) s

/-! ### Trips and under-voltage (R156, R165, R175, R229, R230) -/

/-- OC_BLANK in ns. -/
def State.ocBlank (s : State) (n : Nat) : Nat :=
  match s.rf (rLANE_CFG n) 23 22 with | 0 => 0 | 1 => 250 | 2 => 500 | _ => 1000

/-- The trip of a shot's lane `n` with the current at code `i` (R156): a RUNNING shot ends with a safe end at the next core-cycle
boundary, or at its locked end before it; a turn-off that has begun goes on as the safe turn-off, a coil's with its gate off hard, its
tail from there (R159). The fault is reported in the next LS slot. -/
def State.tripShot (s : State) (a n i : Nat) (h : Shot) : State :=
  let s := s.modShot a (fun h => { h with tripped := true, sflags := setBit h.sflags 4 true })
  let at_ := s.nextCycle
  let s := s.setAct a { s.act a with pend := (s.act a).pend ++ [{ code := 0, lane := n, cur := i, phase := h.phase, shot := true, ended := decide (h.st = 0) }] }
  let s := s.overrideEnd a at_ 0x30
  match (s.act a).shot with
  | some h =>
    if h.st = 1 ∧ s.cls a ≠ 4 then
      let s := s.modShot a (fun h => { h with off := s.safeMode a true, tailFrom := if h.off = 4 then at_ else h.tailFrom })
      let s := if s.cls a = 3 then s.setLane n { s.lane n with linear := none } else s
      (s.gates a at_).clampNow a i
    else s
  | none => s

/-- The over-current comparator of LANE[n] trips (R175). -/
def State.trip (s : State) (n i : Nat) : State :=
  let l := s.lane n
  if !l.gate || l.oc then s
  else
    let s := (s.setLane n { l with oc := true, gate := false, lastEdge := some s.nextCycle }).emit (.gate n false s.nextCycle)
    let t := n / 48
    let k := n % 48
    let s := s.setRb (if k < 32 then rTRAY_OC_LO t else rTRAY_OC_HI t) (k % 32) true
    let s := s.bump (rTRAY_CNT t) 31 16
    (s.namers n).foldl (fun s a =>
      match (s.act a).shot with
      | some h =>
        let x := s.phaseOf a h
        let hs := h.st == 0 && ((s.roleLane a 1 == n && phLists x 1) || (s.roleLane a 2 == n && phLists x 2))
        if (s.lsLane a == n && decide (h.st ≤ 1)) || hs then s.tripShot a n i h else s
      | none => if s.lsLane a = n then s.setAct a { s.act a with pend := (s.act a).pend ++ [{ code := 0, lane := n, cur := i }] } else s) s

/-- The lane's over-current blanking has run out at the end of this core cycle. -/
def State.blankOver (s : State) (n : Nat) : Bool :=
  match (s.lane n).lastOn with | some t => decide (t + s.ocBlank n < s.time + 4) | none => true

/-- OVER_CURRENT_TRIP: outside blanking the current rises through the threshold. -/
def execOverCurrentTrip (n : Fin 192) (i : Fin 1024) (s : State) : Host.Outcome State Fault Refusal :=
  execute (fun s => if s.blankOver n then s.trip n i else s) s

/-- OC_BLANK_END: the current is still above the threshold when blanking ends. -/
def execOcBlankEnd (n : Fin 192) (i : Fin 1024) (s : State) : Host.Outcome State Fault Refusal :=
  execute (fun s => if s.blankOver n then s.trip n i else s) s

/-- BOOTSTRAP_UNDERVOLTAGE (R165, R230). -/
def State.bootUv (s : State) (n : Nat) : State :=
  let l := s.lane n
  if s.gmode n ≠ 2 ∨ l.rdy = false ∨ l.bootUv = true then s
  else
    let s' := s.setLane n { l with bootUv := true, bootHold := l.gate, gate := false, lastEdge := if l.gate then some s.nextCycle else l.lastEdge }
    let s := if l.gate then s'.emit (.gate n false s.nextCycle) else s'
    let s := s.bump (rTRAY_CNT (n / 48)) 15 0
    (s.namers n).foldl (fun s a =>
      match (s.act a).shot with
      | some h => if s.judged h then
          let s := s.modShot a (fun h => { h with swFault := true })
          s.setAct a { s.act a with pend := (s.act a).pend ++ [{ code := 6, lane := n, cur := 0, phase := h.phase, shot := true }] }
        else s
      | none => s) s

def execBootstrapUndervoltage (n : Fin 192) (s : State) : Host.Outcome State Fault Refusal := execute (fun s => s.bootUv n) s

/-- LANE_SETTLED (R163): settling ends; a lane that idles on returns to its level. -/
def execLaneSettled (n : Fin 192) (s : State) : Host.Outcome State Fault Refusal :=
  execute (fun s => match (s.lane n).settle with
    | some t =>
      if t < s.time + 4 then
        let s := s.setLane n { s.lane n with settle := none, rdy := true }
        (s.lsActs n).foldl (fun s a => s.gates a t) s
      else s
    | none => s) s

/-! ### Duty sub-windows (R235) and the tray's temperature (R241 to R243) -/

/-- The sub-window of ACT[a] changes at a frame start at or after a multiple of S. -/
def State.subwindow (s : State) (a : Nat) : State :=
  let w := s.time / s.subLen a
  if s.time % 64 = 0 ∧ (s.act a).bound = true ∧ w ≠ (s.act a).subWin then
    let s := s.dutyAdd a s.time
    { s.setAct a { s.act a with subWin := w } with duty := tabSet 0 s.duty (16 * a + w % 16) 0 }.rewrote 7 (16 * a + w % 16) 1
  else s

def execSubwindowChange (a : Fin 96) (s : State) : Host.Outcome State Fault Refusal := execute (fun s => s.subwindow a) s

/-- TRAY_TEMP_SAMPLE. -/
def State.trayTemp (s : State) (t code : Nat) : State :=
  if !(s.inRun || s.inSafe) then s
  else
    let s := s.setRf (rTRAY_TEMP t) 9 0 code
    let s := { s with devLog := { s.devLog with temps := s.devLog.temps.set t (max code (s.devLog.temps.getD t 0)) } }
    let tw := s.rf (rTRAY_TEMP t) 31 22
    let warn := s.rb (rTRAY_TEMP t) 20
    let tsd := s.rb (rTRAY_TEMP t) 21
    let s := if !warn && decide (tw ≤ code) then
        (s.setRb (rTRAY_TEMP t) 20 true).report { code := 13, object := t, v1 := code, v2 := 1 }
      else if warn && decide (code + 20 < tw) then s.setRb (rTRAY_TEMP t) 20 false
      else s
    if !tsd && decide (0x1C0 ≤ code) then
      let s := s.setRb (rTRAY_TEMP t) 21 true
      let l := (below 96).filter (fun a => (s.act a).bound && s.trayOf a == t)
      let dis := l.any (fun a => !s.disabled a)
      let s := l.foldl (fun (s : State) a => s.disable a 13) s
      let s := [2 * t, 2 * t + 1].foldl (fun (s : State) r =>
        if s.rf rBST_HOLD 30 28 = r ∧ s.rf rBST_HOLD 27 20 ≠ 0xFF then s else s.setRb (rBST_CFG r) 31 false) s
      s.report { code := 13, object := t, v1 := code, v2 := 2, react := 2 * dis.toNat }
    else if tsd && decide (code < 0x1AC) then s.setRb (rTRAY_TEMP t) 21 false
    else s

def execTrayTempSample (t : Fin 4) (code : Fin 1024) (s : State) : Host.Outcome State Fault Refusal :=
  execute (fun s => s.trayTemp t code) s

end Sys2Proof.Machine
end

