-- ==== Sys2Proof/Machine/ActRegs.lean ====
section
/-! DEFINITION. The registers of actuators, banks, lanes, feedback and diagnostics that do more than hold their bits
(R129 to R131, R161, R163, R179, R193, R196, R234, R240): binding, refused writes, and the words reads compute. -/

namespace Sys2Proof.Machine

/-! ### Binding (R129, R147, Table 5.2) -/

/-- The lanes an actuator names, with their roles. -/
def State.namedLanes (s : State) (a : Nat) : List (Nat × Nat) :=
  ((below 3).map (fun r => (r, s.roleLane a r))).filter (fun p => p.2 != 0xFF)

/-- A lane is the named hold switch (R215). -/
def State.isHoldLane (s : State) (n : Nat) : Bool := s.rf rBST_HOLD 27 20 == n && n != 0xFF

/-- Check 4 for a lane in a role: it is bound to no other actuator, except as the lane of the actuator's own bank. -/
def State.laneFree (s : State) (a r n : Nat) : Bool :=
  !s.isHoldLane n && (s.namers n).all (fun m => m == a ||
    (match s.bankOf a with
     | some b => s.bankOf m == some b && r != 0 && s.bankLane b r == n && s.lsLane m != n
     | none => false))

/-- Check 7: R147. -/
def State.bankFits (s : State) (a : Nat) : Bool :=
  match s.bankOf a with
  | none => true
  | some b =>
    let ms := s.members b
    s.rb (rBANK_CFG b) 31 && (s.cls a == 1 || s.cls a == 2)
      && s.roleLane a 1 == s.rf (rBANK_CFG b) 15 8 && s.roleLane a 2 == s.rf (rBANK_CFG b) 23 16
      && ([1, 2].all (fun r => s.roleLane a r == 0xFF || s.roleLane a r / 48 == s.trayOf a))
      && ms.all (fun m => s.rb (rACT_CFG m) 26 == s.rb (rACT_CFG a) 26) && decide (ms.length < 8)

/-- The first failing check of Table 5.2, 0 if all pass. -/
def State.bindErr (s : State) (a : Nat) : Nat :=
  let c := s.cls a
  let named := s.namedLanes a
  let ls := s.lsLane a
  let hs := s.roleLane a 1 != 0xFF || s.roleLane a 2 != 0xFF
  let settledIn (n : Nat) (g : List Nat) : Bool := g.contains (s.gmode n) && (s.lane n).rdy
  if c = 0 then 1
  else if !named.all (fun p => decide (p.2 < 192) && s.laneEn p.2) then 2
  else if !named.all (fun p => named.all (fun q => p.2 / 48 == q.2 / 48)) then 3
  else if !named.all (fun p => s.laneFree a p.1 p.2) then 4
  else if ls == 0xFF || (c == 1 && !hs) || (decide (3 ≤ c) && hs) then 5
  else if !named.all (fun p => settledIn p.2 (if p.1 = 0 then (if c = 4 then [1, 2] else [1]) else [2])) then 6
  else if s.rb (rACT_CFG a) 24 && !s.bankFits a then 7
  else if (c == 1 || (c == 2 && s.rf (rACT_SAFE a) 31 30 == 0)) && !s.rcvFit a then 8
  else 0

/-- A bind that passes every check (R129): all 16 duty words clear (R235). -/
def State.bind (s : State) (a : Nat) : State :=
  let s := s.setAct a { s.act a with
    bound := true, bindErr := 0, idleFrom := s.time, idleOn := [none, none, none], idleOff := [0, 0, 0], idleRep := 0
    subWin := s.time / s.subLen a, hold := none }
  let s := ({ s with duty := tabClear (16 * a) (16 * a + 16) s.duty }.rewrote 7 (16 * a) 16).rewrote 5 (4 * a) 4
  s.gates a s.time

/-- The actuator is unbound (R130, R131): its lanes go off and their latches clear (R175). -/
def State.unbind (s : State) (a : Nat) : State :=
  let s := s.cutWatch a
  let s := s.setAct a { s.act a with bound := false, hold := none }
  let lanes := if (s.bankOf a).isSome then [s.lsLane a] else [s.lsLane a, s.roleLane a 1, s.roleLane a 2]
  lanes.foldl (fun (s : State) n => if n < 192 then
      let s := s.drive n false s.time
      s.setLane n { s.lane n with oc := false, clamp := false, linear := none } else s) s

/-- A write of ACT_CFG (R129, R130). -/
def State.actCfgWrite (s : State) (a : Nat) (v : Word) : State :=
  let rw : Word := 0x8FFFFFFF
  let old := s.reg (rACT_CFG a)
  if bit old 31 then
    let busy := (below 8).any (fun k => (s.slot a k).st != 0) || (match (s.act a).shot with | some h => h.forced | none => false)
    if (v &&& rw &&& 0x7FFFFFFF) ≠ (old &&& rw &&& 0x7FFFFFFF) then s.setRb (rACT_STAT a) 29 true
    else if bit v 31 then s
    else if busy then s.setRb (rACT_STAT a) 29 true
    else (s.unbind a).setRb (rACT_CFG a) 31 false
  else
    let s := s.setReg (rACT_CFG a) (v &&& rw)
    if bit v 31 then
      let e := s.bindErr a
      if e = 0 then s.bind a
      else (s.setRb (rACT_CFG a) 31 false).setAct a { s.act a with bindErr := e }
    else s

def execActCfgWrite (a : Fin 96) (v : Word) (s : State) : Host.Outcome State Fault Refusal := execute (fun s => s.actCfgWrite a v) s

/-- A write of ACT_LANES or ACT_SAFE (R130). -/
def State.actFixedWrite (s : State) (a addr : Nat) (rw v : Word) : State :=
  if s.rb (rACT_CFG a) 31 then s.setRb (rACT_STAT a) 29 true else s.setReg addr (v &&& rw)

/-- A bank has a bound member (BANK_INUSE). -/
def State.bankInUse (s : State) (b : Nat) : Bool := !(s.members b).isEmpty

/-- A write of BANK_CFG (R161). -/
def State.bankCfgWrite (s : State) (b : Nat) (v : Word) : State :=
  if s.bankInUse b then s.setRb rACT_GSTAT 31 true else s.setReg (rBANK_CFG b) (v &&& 0xC0FFFFFF)

def execBankCfgWrite (b : Fin 32) (v : Word) (s : State) : Host.Outcome State Fault Refusal := execute (fun s => s.bankCfgWrite b v) s

/-! ### Lanes (R163, R178, R179, R215) -/

/-- A lane whose configuration is fixed: named by a bound actuator, by a bank in use, or as the hold switch. -/
def State.laneFixed (s : State) (n : Nat) : Bool :=
  !(s.namers n).isEmpty || s.isHoldLane n
    || (below 32).any (fun b => s.bankInUse b && (s.bankLane b 1 == n || s.bankLane b 2 == n))

/-- A write of LANE_CFG. -/
def State.laneCfgWrite (s : State) (n : Nat) (v : Word) : State :=
  if s.laneFixed n then s.setRb (rLANE_CFG n) 13 true
  else
    let old := s.gmode n
    let rej := s.rb (rLANE_CFG n) 13 && !bit v 13
    let w := setBit (v &&& 0xFFFE0000) 13 rej
    let s := s.setReg (rLANE_CFG n) (if s.laneOn n then w else setFld w 31 30 0)
    let g := s.gmode n
    if g = 0 then (s.drive n false s.time).setLane n { (s.drive n false s.time).lane n with rdy := false, settle := none, bootUv := false, bootHold := false }
    else if g = old then s
    else
      let clocked := s.run != 1 && s.rf rCLK_STAT 25 22 != 0
      let fifos := if s.run ≠ 0 ∧ s.pwr.seqAt ≠ 0 then s.pwr.seqAt + 22000 else 0
      let s := s.drive n false s.time
      s.setLane n { s.lane n with rdy := false, settle := if clocked then some (max (s.time + 20000) fifos) else none
                                  bootUv := false, bootHold := false }

def execLaneCfgWrite (n : Fin 192) (v : Word) (s : State) : Host.Outcome State Fault Refusal := execute (fun s => s.trayWrite (rLANE_CFG n) v (fun s => s.laneCfgWrite n v)) s

/-- Every lane powers down on entry to DOZE (R178). -/
def State.lanesDown (s : State) : State :=
  (below 192).foldl (fun s n => if s.lane n = {} then s else
    let s := s.drive n false s.time
    s.setLane n { s.lane n with rdy := false, settle := none, held := none }) s

/-- Every lane in a gate mode settles again on the way back from DOZE, until `t` (R178, R445). -/
def State.lanesUp (s : State) (t : Nat) : State :=
  (below 192).foldl (fun s n => if s.gmode n = 0 then s else s.setLane n { s.lane n with rdy := false, settle := some t }) s

/-- A write of TRAY_PEEK: a lane above 47 is ignored (R196). -/
def State.trayPeekWrite (s : State) (t : Nat) (v : Word) : State :=
  if fld v 5 0 ≤ 47 then s.setReg (rTRAY_PEEK t) (v &&& 0x3F) else s

/-! ### Feedback and diagnostics -/

/-- ACT[a]'s feedback is unfrozen (R193). -/
def State.unfreeze (s : State) (a : Nat) : State :=
  (s.setRb (rSFB_FROZEN (a / 32)) (a % 32) false).setAct a { s.act a with outRun := 0 }

/-- A write of SFB_FROZENm. -/
def State.unfreezeWord (s : State) (m : Nat) (v : Word) : State :=
  (below 32).foldl (fun s i => if bit v i then s.unfreeze (32 * m + i) else s) s

def execFeedbackUnfreeze (m : Fin 3) (v : Word) (s : State) : Host.Outcome State Fault Refusal := execute (fun s => s.trayWrite (rSFB_FROZEN m) v (fun s => s.unfreezeWord m v)) s

/-- A re-enable of ACT[a] is refused (R234). -/
def State.reenRefused (s : State) (a : Nat) : Bool :=
  (decide (s.lsLane a < 192) && s.rb (rTRAY_TEMP (s.trayOf a)) 21)
    || (decide (s.roleLane a 2 < 192) && decide ((s.rail (s.railOf a)).st = 5))

/-- ACT[a] is re-enabled, or the request is refused, whether it was disabled or not (R234); an actuator that was not disabled keeps
its runs (DEDUCED, log entry 53). -/
def State.reenable (s : State) (a : Nat) : State :=
  if s.reenRefused a then s.setRb rDIAG_GSTAT 30 true
  else if !s.disabled a then s
  else ((s.setRb (rDIAG_DIS (a / 32)) (a % 32) false).setRf (rDIAG_AST a) 31 28 0xF).setRf (rDIAG_AST a) 15 0 0

/-- A write of DIAG_DISm. -/
def State.reenableWord (s : State) (m : Nat) (v : Word) : State :=
  (below 32).foldl (fun s i => if bit v i then s.reenable (32 * m + i) else s) s

def execActuatorReenable (m : Fin 3) (v : Word) (s : State) : Host.Outcome State Fault Refusal := execute (fun s => s.reenableWord m v) s

/-- A write of DIAG_DUTY (R240). -/
def State.dutyWrite (s : State) (a : Nat) (v : Word) : State :=
  let v := v &&& 0xE0FFFFFF
  if s.rb (rACT_CFG a) 31 && fld v 23 10 != s.rf (rDIAG_DUTY a) 23 10 then
    (s.setReg (rDIAG_DUTY a) (setFld v 23 10 (s.rf (rDIAG_DUTY a) 23 10))).setRb rDIAG_GSTAT 31 true
  else s.setReg (rDIAG_DUTY a) v

/-! ### Words that reads compute -/

/-- ACT_STAT (Table 5.15). -/
def State.actStat (s : State) (a : Nat) : Word :=
  let x := s.act a
  let run := match x.shot with | some h => decide (h.st = 0) | none => false
  let slots := (below 8).foldl (fun n k => if (s.slot a k).st = 0 then n else n + 2 ^ k) 0
  word [(31, 31, x.bound.toNat), (30, 30, (s.disabled a).toNat), (29, 29, (s.rb (rACT_STAT a) 29).toNat), (28, 25, x.bindErr),
    (24, 22, match x.shot with | some h => if h.st = 0 then h.phase else 0 | none => 0), (21, 21, run.toNat),
    (20, 20, (x.shot.isSome && !run).toNat),
    (19, 19, (match x.shot with | some h => decide (h.st = 1) && decide (h.off = 4) && h.zeroAt.isNone | none => false).toNat),
    (18, 18, (run && s.lsFallback a).toNat), (17, 8, if x.watch.isSome then 0 else x.iLast), (7, 0, slots)]

/-- The phases of a profile in use: up to the lowest phase with LAST (R133). -/
def phasesUsed (get : Nat → BitVec 128) : List Nat :=
  match (below 8).find? (fun p => phLast (get p)) with
  | some n => below (n + 1)
  | none => below 8

/-- The first fault of a profile image (R134, R136): the phase and the reason of Table 5.4; none if valid or empty. -/
def profFault (get : Nat → BitVec 128) : Option (Nat × Nat) :=
  if (below 8).all (fun p => get p = 0) then none
  else
    let hold := (below 8).find? (fun p => phLast (get p))
    let peaks := (below 8).filter (fun p => phPeak (get p))
    let fault (p : Nat) : Option Nat :=
      let x := get p
      let isHold := hold == some p
      let before := (below p).all (fun q => phPeak (get q))
      if (isHold && (phExit x != 3 || phTmin x != 0 || phTmax x != 0 || phPeak x)) || (hold.isNone && p == 7) then some 0x0B
      else if !isHold && (phExit x == 3 || phTmax x == 0 || decide (phTmax x < phTmin x)) then some 0x0C
      else if phPeak x && !before && peaks.find? (fun q => !(below q).all (fun r => phPeak (get r))) == some p then some 0x0D
      else if phReg x != 0 && (!phLists x (phReg x - 1) || !phLists x 0 || decide (phTgt x < phHyst x) || (phExit x == 0 && phDir x)) then some 0x0E
      else if phOff x == 3 || fld x 127 74 != 0 then some 0x0F
      else none
    ((phasesUsed get).filterMap (fun p => (fault p).map (fun r => (p, r)))).head?

/-- PROF[p] holds a valid programme (R134): not empty and without a fault. -/
def State.profValid (s : State) (p : Nat) : Bool :=
  let get := s.phaseRec p
  !(below 8).all (fun i => get i = 0) && (profFault get).isNone

/-- PROF_VALID_LO (`0`) and PROF_VALID_HI (`1`). -/
def State.profValidWord (s : State) (h : Nat) : Word :=
  BitVec.ofNat 32 ((below 32).foldl (fun n i => if s.profValid (32 * h + i) then n + 2 ^ i else n) 0)

/-- A profile is valid for an actuator (R135). -/
def State.profFits (s : State) (a p : Nat) : Bool :=
  let c := s.cls a
  let get := s.phaseRec p
  c == 4 || (s.profValid p && (phasesUsed get).all (fun i =>
    let x := get i
    (below 3).all (fun r => !phLists x r || s.roleLane a r != 0xFF)
      && (c != 1 || phOff x == 0) && (c != 2 || s.rcvFit a || phOff x != 0)
      && (c != 3 || (i == 0 && phLast x && phLanes x == 1 && phReg x == 0))))

/-- BANK_INUSE. -/
def State.bankInUseWord (s : State) : Word :=
  BitVec.ofNat 32 ((below 32).foldl (fun n b => if s.bankInUse b then n + 2 ^ b else n) 0)

/-- LANE_CFG: stored fields with RDY, BOOT_UV and OC. -/
def State.laneCfgRead (s : State) (n : Nat) : Word :=
  let l := s.lane n
  let w := s.reg (rLANE_CFG n)
  let w := if s.laneOn n then w else setFld w 31 30 0
  setBit (setBit (setBit w 16 l.rdy) 15 l.bootUv) 14 l.oc

end Sys2Proof.Machine
end

