-- ==== Sys2Proof/Machine/Boost.lean ====
section
/-! DEFINITION. The boost rails (chapter 7): setpoint, switching, rail states, recovery-path and overvoltage checks, the
adaptive window and the hold switch. -/

namespace Sys2Proof.Machine

/-- A setpoint code as it acts (R200). -/
def setCode (x : Nat) : Nat := min (max x 200) 900

/-- BST[r] is the hold-up rail (R215). -/
def State.isHoldRail (s : State) (r : Nat) : Bool := s.rf rBST_HOLD 30 28 == r
/-- A hold switch is named. -/
def State.holdNamed (s : State) : Bool := s.rf rBST_HOLD 27 20 != 0xFF

/-- BST_MAX of the map in force; a blank map gives 900 (R429). -/
def State.bstMax (s : State) : Nat := if s.mapBlank then 900 else s.rf rPM_GLOBAL 31 22

/-- The ceiling and the floor of SET_ACT (R201). -/
def State.bstCeil (s : State) (r : Nat) : Nat :=
  let m := min (setCode (s.rf (rBST_SET r) 9 0)) (setCode s.bstMax)
  if s.isHoldRail r && s.holdNamed then min m 580 else m
def State.bstFloor (s : State) (r : Nat) : Nat := min (setCode (s.rf (rBST_ADAPT r) 19 10)) (s.bstCeil r)

/-- HYST, RCV_DV and the period of FSW in ns. -/
def State.bstHyst (s : State) (r : Nat) : Nat := s.rf (rBST_CFG r) 15 8
def State.fswNs (s : State) (r : Nat) : Nat := 8000 / 2 ^ s.rf (rBST_CFG r) 30 29

/-- SET_ACT and the adaptive window in the controller's slot (R201, R209, R210). -/
def State.setpoint (s : State) (r : Nat) : State :=
  let x := s.rail r
  let c := s.bstCeil r
  let f := s.bstFloor r
  let closes := decide (4 * 2 ^ x.win ≤ x.counted)
  let tgt := s.rf (rBST_ADAPT r) 9 0
  let step := max 1 (s.rf (rBST_ADAPT r) 23 20)
  let moved :=
    if x.tmoPend then c
    else if !closes then x.setAct
    else if tgt < x.tWin then x.setAct + step
    else if 16 * x.tWin < (16 - s.rf (rBST_ADAPT r) 27 24) * tgt then x.setAct - step
    else x.setAct
  let v := if s.rb (rBST_ADAPT r) 30 then min (max moved f) c else c
  let x := if x.tmoPend || closes || x.winPend then { x with tWin := 0, counted := 0, tmoPend := false, winPend := false } else x
  s.setRail r { x with setAct := v, atMin := decide (v = f), atMax := decide (v = c), setClamp := decide (c < setCode (s.rf (rBST_SET r) 9 0)) }

/-- The fields of BST_CFG and BST_ADAPT that act between slots, taken in the slot (R219). -/
def State.railTake (s : State) (r : Nat) : State :=
  s.setRail r { s.rail r with
    ipk := max 1 (s.rf (rBST_CFG r) 7 0), ien := s.rf (rBST_CFG r) 27 24, win := s.rf (rBST_ADAPT r) 29 28 }

/-- A boost fault report: `kind` 1 FAULT entry, 2 OV, 3 RCV_OPEN (Table 8.2); `dis` that it disables actuators (R204). -/
def State.boostReport (s : State) (r kind : Nat) (dis : Bool := false) : State :=
  s.report { code := 12, object := r, v1 := (s.rail r).vb, v2 := kind, react := 2 * dis.toNat }

/-- The recovery path (R205), in every slot in which its check holds, and the overvoltage level (R206). -/
def State.railChecks (s : State) (r : Nat) : State :=
  let x := s.rail r
  let lvl := min (x.setAct + s.rf (rBST_LIM r) 7 0) 950
  let open_ := decide (x.vb + s.rf (rBST_LIM r) 15 8 ≤ x.vr)
  let s := s.setRail r { x with rcvHigh := open_ }
  let s := if open_ then
      (((s.setRb (rBST_STAT r) 23 true).setRb (rBST_STAT r) 11 true).bump (rBST_CNT r) 15 8).boostReport r 3
    else s
  if !x.ov && decide (lvl ≤ x.vb) then
    (((s.setRail r { s.rail r with ov := true }).setRb (rBST_STAT r) 9 true).bump (rBST_CNT r) 31 24).boostReport r 2
  else if x.ov && decide (x.vb + 20 < lvl) then s.setRail r { s.rail r with ov := false }
  else s

/-- Entry to FAULT (R204): `cause` 1 FB_LOW, 2 START_TO. -/
def State.railFault (s : State) (r cause : Nat) : State :=
  let s := s.setRail r { s.rail r with st := 5, enable := false, fcause := cause, uv := false }
  let s := (s.setRb (rBST_CFG r) 31 false).setRb (rBST_STAT r) 8 true
  let l := (below 96).filter (fun a => (s.act a).bound && s.railOf a == r && s.roleLane a 2 != 0xFF)
  let dis := l.any (fun a => !s.disabled a)
  (l.foldl (fun (s : State) a => s.disable a 12) s).boostReport r 1 dis

/-- Row 2 of Table 7.2 is due: the first 1 ms of START is over and the rail is low. -/
def State.quietLow (s : State) (r : Nat) : Bool :=
  let x := s.rail r
  decide (x.st = 1) && !x.quietDone && decide (x.startAt + 1000000 ≤ s.time) && decide (x.vb + 50 < s.vsup)
/-- Row 3 is due: START has lasted START_TMO. -/
def State.startLate (s : State) (r : Nat) : Bool :=
  let x := s.rail r
  decide (x.st = 1) && decide (x.startAt + 1000000 * max 1 (s.rf (rBST_CFG r) 23 16) ≤ s.time)

/-- The rail enters START. -/
def State.railStart (s : State) (r : Nat) : State :=
  s.setRail r { s.rail r with st := 1, startAt := s.time, quietDone := false, enable := false, uv := false }

/-- The rail's state after this slot, rows 1 and 4 to 9 of Table 7.2; rows 2 and 3 have commands of their own. -/
def State.railNext (s : State) (r : Nat) : State :=
  let x := s.rail r
  let en := s.rb (rBST_CFG r) 31
  if !s.inRun || (!en && x.st != 5) then (if x.st = 0 then s else s.railOff r)
  else if s.quietLow r || s.startLate r then s
  else if (x.st == 1 || x.st == 2 || x.st == 3) && s.dip && !s.isHoldRail r then s.setRail r { x with st := 4, enable := false, uv := false }
  else if (x.st == 1 || x.st == 2) && decide (x.setAct < s.vsup + 30) then s.setRail r { x with st := 3, enable := false, uv := false }
  else if x.st == 3 && decide (s.vsup + 40 ≤ x.setAct) then s.railStart r
  else if x.st == 1 && decide (x.setAct ≤ x.vb + s.bstHyst r) then s.setRail r { x with st := 2 }
  else if x.st == 4 && !s.dip then s.railStart r
  else if (x.st == 0 || x.st == 5) && en then s.railStart r
  else s

/-- The switching enable (R202, R217) and UV (R220) in the slot. -/
def State.railSwitch (s : State) (r : Nat) : State :=
  let x := s.rail r
  let may := (x.st == 2 || (x.st == 1 && decide (x.startAt + 1000000 ≤ s.time))) && s.holdAt.isNone
  let en := may && (if x.vb + s.bstHyst r < x.setAct then true else if x.setAct ≤ x.vb then false else x.enable)
  let uv := x.st == 2 && decide (x.vb + s.rf (rBST_LIM r) 23 16 < x.setAct)
  let s := if uv && !x.uv then (s.setRb (rBST_STAT r) 10 true).bump (rBST_CNT r) 23 16 else s
  s.setRail r { s.rail r with enable := en, uv := uv }

/-- The hold switch turns off (R217); `short` before the commit finished. -/
def State.holdOff (s : State) (short : Bool) : State :=
  let s := (if s.rf rBST_HOLD 27 20 < 192 then s.drive (s.rf rBST_HOLD 27 20) false s.time else s)
  let s := { s with holdAt := none, holdOffAt := s.time }
  if short then (s.bump rBST_GSTAT 7 0).setRb rJRN_STAT 5 true else s

/-- The hold switch in the hold-up rail's slot. -/
def State.holdSlot (s : State) (r : Nat) : State :=
  if !s.isHoldRail r then s
  else
    let x := s.rail r
    let high := decide (s.rf rBST_HOLD 19 10 ≤ x.vb)
    let busy := s.rb rJRN_STAT 30
    match s.holdAt with
    | some _ => if !busy then s.holdOff false else if !high then s.holdOff true else s
    | none =>
      if s.holdArm then
        let s := { s with holdArm := false }
        if s.holdNamed && high && s.dip && busy then
          let n := s.rf rBST_HOLD 27 20
          let s := { (s.drive n true s.time).bump rBST_GSTAT 15 8 with holdAt := some s.time }
          (below 8).foldl (fun s r => if (s.rail r).enable then s.setRail r { s.rail r with enable := false } else s) s
        else s
      else s

/-- BOOST_SLOT: BST[r] takes V_B, V_R and VSUP. -/
def State.boostSlot (s : State) (r vb vr vs : Nat) : State :=
  if s.time % 64 ≠ 0 ∨ s.inDoze = true then s
  else
    let s := { s.setRail r { s.rail r with vb := vb, vr := vr } with vsup := vs }
    ((((s.setpoint r).railTake r).railChecks r).railNext r |>.holdSlot r).railSwitch r

def execBoostSlot (r : Fin 8) (vb vr vs : Fin 1024) (s : State) : Host.Outcome State Fault Refusal :=
  execute (fun s => s.boostSlot r vb vr vs) s

/-- SWITCHING_PERIOD_START (R202). -/
def execSwitchingPeriodStart (r : Fin 8) (s : State) : Host.Outcome State Fault Refusal :=
  execute (fun s =>
    let x := s.rail r
    let due := match x.period with | some p => decide (p + x.perLen ≤ s.time) | none => true
    if x.enable && due && (x.st == 1 || x.st == 2) && s.holdAt.isNone then s.setRail r { x with gate := true, period := some s.time, perLen := s.fswNs r } else s) s

/-- The switch current, as `mv` at BSTn_CS, has reached the limit: IPK, in START half of it (R202). -/
def Rail.atIpk (x : Rail) (mv : Nat) : Bool := decide (x.ipk ≤ if x.st = 1 then 2 * mv else mv)

/-- IPK_CROSSING (R202): BSTn_CS rises to `mv`; at the limit in force the gate turns off, after the 100 ns blank. -/
def execIpkCrossing (r : Fin 8) (c : Sensed) (s : State) : Host.Outcome State Fault Refusal :=
  execute (fun s =>
    let x := s.rail r
    match x.period with
    | some p => if x.gate && x.atIpk c.mv && decide (p + 100 ≤ s.time + c.ofs) then s.setRail r { x with gate := false } else s
    | none => s) s

/-- SWITCHING_DUTY_LIMIT (R202): 90 % of the period has passed. -/
def execSwitchingDutyLimit (r : Fin 8) (s : State) : Host.Outcome State Fault Refusal :=
  execute (fun s =>
    let x := s.rail r
    match x.period with
    | some p => if x.gate && decide (p + 9 * x.perLen / 10 < s.time + 4) then s.setRail r { x with gate := false } else s
    | none => s) s

/-- START_QUIET_END (R203, row 2): the first 1 ms of START ends. -/
def execStartQuietEnd (r : Fin 8) (s : State) : Host.Outcome State Fault Refusal :=
  execute (fun s =>
    let x := s.rail r
    if s.time % 64 = 0 ∧ s.inRun = true ∧ s.rb (rBST_CFG r) 31 = true ∧ x.st = 1 ∧ x.quietDone = false ∧ x.startAt + 1000000 ≤ s.time then
      (if s.quietLow r then s.railFault r 1 else s.setRail r { x with quietDone := true })
    else s) s

/-- START_TIMEOUT (R203, row 3). -/
def execStartTimeout (r : Fin 8) (s : State) : Host.Outcome State Fault Refusal :=
  execute (fun s =>
    if s.time % 64 = 0 ∧ s.inRun = true ∧ s.rb (rBST_CFG r) 31 = true ∧ s.startLate r = true ∧ s.quietLow r = false then s.railFault r 2 else s) s

/-- HOLD_SWITCH_TIMEOUT (R217). -/
def execHoldSwitchTimeout (s : State) : Host.Outcome State Fault Refusal :=
  execute (fun s => match s.holdAt with
    | some t =>
      if s.time % 64 = 0 ∧ t + 250000 * max 1 (s.rf rBST_HOLD 7 0) ≤ s.time then s.holdOff true else s
    | none => s) s

/-! ### Registers (R210, R215, R219) -/

/-- A write of BST_CFG. -/
def State.bstCfgWrite (s : State) (r : Nat) (v : Word) : State :=
  let old := s.reg (rBST_CFG r)
  let v := v &&& 0xEFFFFFFF
  if bit old 31 && (fld v 30 29 != fld old 30 29 || fld v 23 16 != fld old 23 16) then
    (s.setReg (rBST_CFG r) (setFld (setFld v 30 29 (fld old 30 29)) 23 16 (fld old 23 16))).setRb (rBST_STAT r) 28 true
  else s.setReg (rBST_CFG r) v

/-- A write of BST_SET or, for `adapt`, of BST_ADAPT; it acts in the next slot. -/
def State.bstPointWrite (s : State) (r : Nat) (adapt : Bool) (v : Word) : State :=
  if adapt then (s.setReg (rBST_ADAPT r) (v &&& 0x7FFFFFFF)).setRail r { s.rail r with winPend := true }
  else s.setReg (rBST_SET r) (v &&& 0x3FF)

def execBoostSetpointWrite (r : Fin 8) (adapt : Bool) (v : Word) (s : State) : Host.Outcome State Fault Refusal :=
  execute (fun s => s.trayWrite (if adapt then rBST_ADAPT r else rBST_SET r) v (fun s => s.bstPointWrite r adapt v)) s

/-- A lane may be named as the hold switch of a rail (R215). -/
def State.holdLaneOk (s : State) (rail n : Nat) : Bool :=
  n == 0xFF || (decide (n < 192) && n / 48 == rail / 2 && s.gmode n == 2 && (s.lane n).rdy && (s.namers n).isEmpty
    && !(below 32).any (fun b => s.rb (rBANK_CFG b) 31 && (s.bankLane b 1 == n || s.bankLane b 2 == n)))

/-- A write of BST_HOLD. -/
def State.bstHoldWrite (s : State) (v : Word) : State :=
  if s.holdAt.isSome || !s.holdLaneOk (fld v 30 28) (fld v 27 20) then s.setRb rBST_GSTAT 30 true
  else s.setReg rBST_HOLD (v &&& 0x7FFFFCFF)

def execBstHoldWrite (v : Word) (s : State) : Host.Outcome State Fault Refusal := execute (fun s => s.bstHoldWrite v) s

/-- A write of BST_STAT: RCV_OPEN clears only while its condition did not hold in the last slot (R205). -/
def State.bstStatWrite (s : State) (r : Nat) (v : Word) : State :=
  let v := s.clears (rBST_STAT r) v
  let w := s.reg (rBST_STAT r) &&& ~~~(v &&& 0x10000F00)
  s.setReg (rBST_STAT r) (if bit v 23 && !(s.rail r).rcvHigh then setBit w 23 false else w)

/-- BST_SET, BST_STAT, BST_MEAS and BST_GSTAT as read. -/
def State.bstSetRead (s : State) (r : Nat) : Word := setFld (s.reg (rBST_SET r)) 25 16 (s.rail r).setAct
def State.bstStatRead (s : State) (r : Nat) : Word :=
  let x := s.rail r
  s.reg (rBST_STAT r) ||| word [(31, 29, x.st), (27, 26, x.fcause), (25, 25, x.ov.toNat), (24, 24, x.uv.toNat), (22, 22, (s.railDivert r).toNat),
    (21, 21, x.setClamp.toNat), (20, 20, x.atMin.toNat), (19, 19, x.atMax.toNat)]
def State.bstMeasRead (s : State) (r : Nat) : Word := let x := s.rail r; word [(29, 20, x.vr), (19, 10, x.vb), (9, 0, x.tWin)]
def State.bstGstatRead (s : State) : Word := setBit (s.reg rBST_GSTAT) 31 s.holdAt.isSome

end Sys2Proof.Machine
end

