-- ==== Sys2Proof/Machine/Timer.lean ====
section
/-! DEFINITION. The timer bank (chapter 14): count sources, gates, matches, overflows and their actions, starts, stops and
linked pairs. Within one core cycle the sender issues increments, then triggers, then commands and writes (R385, log entry 10). -/

namespace Sys2Proof.Machine

/-- TMR[t]. -/
def State.tmr (s : State) (t : Nat) : Tmr := tabGet {} s.tmrs t
def State.setTmr (s : State) (t : Nat) (x : Tmr) : State := { s with tmrs := tabSet {} s.tmrs t x }

/-- The even timer of a pair. -/
def evenOf (t : Nat) : Nat := t - t % 2
/-- TMR[t] belongs to a linked pair (R386). -/
def State.linked (s : State) (t : Nat) : Bool := s.rb (rTMR_CFG (evenOf t)) 30
/-- The timer whose settings govern TMR[t]. -/
def State.govern (s : State) (t : Nat) : Nat := if s.linked t then evenOf t else t
/-- The timers a start, stop or re-arm naming TMR[t] acts on. -/
def State.group (s : State) (t : Nat) : List Nat := if s.linked t then [evenOf t, evenOf t + 1] else [t]

/-- TMR[t] is in the privileged set (R388). -/
def State.privileged (s : State) (t : Nat) : Bool :=
  !s.mapBlank && (s.group t).any (fun x => decide (28 ≤ x ∧ x < 32) && s.rb rPM_GLOBAL (18 + (x - 28)))

/-- The count source, Table 14.1; 4 to 7 act as 0. -/
def State.tmrSrc (s : State) (t : Nat) : Nat := let v := s.rf (rTMR_CFG t) 28 26; if 4 ≤ v then 0 else v
/-- PRE. -/
def State.tmrPre (s : State) (t : Nat) : Nat := s.rf (rTMR_AUX t) 31 16

/-- The gate lets counting through in this core cycle (R379). -/
def State.gateOpen (s : State) (t : Nat) (pins : BitVec 32) : Bool :=
  !s.rb (rTMR_CFG t) 23 ||
    (let g := s.rf (rTMR_CFG t) 20 16
     (if s.rb (rTMR_CFG t) 22 then s.flag g else bit pins g) == s.rb (rTMR_CFG t) 21)

/-- An active edge under EDGE: from `was` to `now`. -/
def activeEdge (edge : Nat) (was now : Bool) : Bool :=
  match edge with | 1 => was && !now | 2 => was != now | _ => !was && now

/-- The source of TMR[t] increments it in this core cycle (R378, R379, R389). -/
def State.incDue (s : State) (t : Nat) (pins : BitVec 32) : Bool :=
  let x := s.tmr t
  let c := s.rf (rTMR_CFG t) 15 11
  let e := s.rf (rTMR_CFG t) 25 24
  decide (x.st = 1) && x.startedAt != some s.coreAt && x.incAt != some s.coreAt && s.gateOpen t pins &&
    (match s.tmrSrc t with
     | 0 => decide (s.tmrPre t ≤ x.presc)
     | 1 => decide (s.time % (16 * (s.tmrPre t + 1)) = 0) && (match x.lastB with | some b => decide (b < s.time) | none => true)
     | 2 => activeEdge e (bit s.pinPrev c) (bit pins c)
     | _ => activeEdge e (bit s.flagsPrev c) (s.flag c))

/-- The compare value in force at the start of this core cycle (R383). -/
def State.cmpOf (s : State) (t : Nat) : Nat :=
  match (s.tmr t).cmpWas with
  | some (at_, v) => if at_ = s.coreAt then v else (s.reg (rTMR_CMP t)).toNat
  | none => (s.reg (rTMR_CMP t)).toNat

/-! ### Starts, stops, resets (R380, R384, R388) -/

/-- The timers of a group start if IDLE. -/
def State.startGroup (s : State) (t : Nat) : State :=
  (s.group t).foldl (fun s x => if (s.tmr x).st = 0 then
    s.setTmr x { s.tmr x with st := 1, startedAt := some s.coreAt, presc := 0, lastB := none } else s) s

/-- A start that a privileged timer refuses: by register, trigger or partner. -/
def State.startTmr (s : State) (t : Nat) : State :=
  if s.privileged t then s.bump rTMR_GSTAT 15 8 else s.startGroup t

/-- A stop: RUN to IDLE. -/
def State.stopTmr (s : State) (t : Nat) : State :=
  (s.group t).foldl (fun s x => if (s.tmr x).st = 1 then s.setTmr x { s.tmr x with st := 0 } else s) s

/-- A re-arm: DONE or IDLE to IDLE with a count of 0. -/
def State.armTmr (s : State) (t : Nat) : State :=
  (s.group t).foldl (fun s x => if (s.tmr x).st = 1 then s else s.setTmr x { s.tmr x with st := 0, count := 0 }) s

/-- An action's reset of the count. -/
def State.resetTmr (s : State) (t : Nat) : State :=
  (s.group t).foldl (fun s x => s.setTmr x { s.tmr x with count := 0 }) s

/-- The partner of TMR[t] (R377). -/
def partnerOf (t : Nat) : Nat := if t % 2 = 0 then t + 1 else t - 1

/-- A partner action that would start a privileged timer is ignored whole (R388). -/
def State.partRefused (s : State) (t part : Nat) : Bool := !s.linked t && decide (2 ≤ part) && s.privileged (partnerOf t)

/-- The actions of an event of TMR[t] (Table 14.4): `self` and `part` are the codes; a linked pair has no partner. -/
def State.tmrAct (s : State) (t self part : Nat) : State :=
  let s := if self % 2 = 1 then s.resetTmr t else s
  let s := if 2 ≤ self then s.stopTmr t else s
  if s.linked t || s.partRefused t part then s
  else
    let s := if part % 2 = 1 then s.resetTmr (partnerOf t) else s
    if 2 ≤ part then s.startGroup (partnerOf t) else s

/-- One event of TMR[t], a match or an overflow (`ovf`): its actions, and the end of a one-shot run (R381, R384). -/
def State.tmrEvent (s : State) (ovf : Bool) (t : Nat) : State :=
  let aux := s.reg (rTMR_AUX t)
  let s := if ovf then s.tmrAct t (fld aux 11 10) (fld aux 9 8) else s.tmrAct t (fld aux 15 14) (fld aux 13 12)
  if s.rb (rTMR_CFG t) 31 then (s.group t).foldl (fun s x => s.setTmr x { s.tmr x with st := 2 }) s else s

/-- The pair of TMR[t] as the increments of this core cycle have left it, before any action (R385). -/
def State.tmrBase (s : State) (t : Nat) : State :=
  let x := tabGet {} s.tmrCycs (t / 2)
  if x.at_ = some s.coreAt then (s.setTmr (evenOf t) x.lo).setTmr (evenOf t + 1) x.hi else s

/-- The events of the pair of TMR[t] in this core cycle so far. -/
def State.tmrEvts (s : State) (t : Nat) : List (Nat × Bool × Bool) :=
  let x := tabGet {} s.tmrCycs (t / 2)
  if x.at_ = some s.coreAt then x.evts else []

/-- What an event shows: its status bit, and the start of a privileged partner that is refused (R388, R390). -/
def State.tmrShow (s : State) (ovf : Bool) (t : Nat) : State :=
  let aux := s.reg (rTMR_AUX t)
  let s := s.setRb (if ovf then rTMR_OVF else rTMR_MATCH) t true
  if s.partRefused t (if ovf then fld aux 9 8 else fld aux 13 12) then s.bump rTMR_GSTAT 15 8 else s

/-- A match (`m`) and an overflow (`o`) of the timer or pair governed by `t`, with the pair's other events of this core cycle: match
actions in ascending timer number, then overflow actions (R381, R385). -/
def State.tmrEvents (s : State) (t : Nat) (m o : Bool) : State :=
  let m := m && !(s.rb (rTMR_CFG t) 31 && o)
  let l := sortBy Prod.fst (s.tmrEvts t ++ [(t, m, o)])
  let s := { s with tmrCycs := tabSet {} s.tmrCycs (t / 2) { at_ := some s.coreAt, lo := s.tmr (evenOf t), hi := s.tmr (evenOf t + 1), evts := l } }
  let s := if m then s.tmrShow false t else s
  let s := if o then s.tmrShow true t else s
  let s := (l.filter (fun e => e.2.1)).foldl (fun s e => s.tmrEvent false e.1) s
  (l.filter (fun e => e.2.2)).foldl (fun s e => s.tmrEvent true e.1) s

/-- `n` increments of a counter of `size` states at once (one, but for a TIME step, R389): the count, and whether it met `cmp` and
wrapped. -/
def countOn (size c n cmp : Nat) : Nat × Bool × Bool :=
  ((c + n) % size, decide ((cmp + 2 * size - c - 1) % size < n), decide (size ≤ c + n))

/-- `n` increments of the timer or pair governed by `t` (R378, R382, R386). -/
def State.tmrAdd (s : State) (t n : Nat) : State :=
  let s := s.tmrBase t
  let r := countOn (2 ^ 32) (s.tmr t).count n (s.cmpOf t)
  if s.linked t then
    let w := countOn (2 ^ 64) ((s.tmr t).count + 2 ^ 32 * (s.tmr (t + 1)).count) n (s.cmpOf t + 2 ^ 32 * s.cmpOf (t + 1))
    let s := s.setTmr t { s.tmr t with count := r.1, incAt := some s.coreAt, lastB := some s.time }
    (s.setTmr (t + 1) { s.tmr (t + 1) with count := w.1 / 2 ^ 32 }).tmrEvents t (if s.rb (rTMR_CFG t) 29 then w.2.1 else r.2.1) w.2.2
  else (s.setTmr t { s.tmr t with count := r.1, incAt := some s.coreAt, lastB := some s.time }).tmrEvents t r.2.1 r.2.2

/-- TIMER_INCREMENT. -/
def execTimerIncrement (t : Fin 32) (pins : BitVec 32) (s : State) : Host.Outcome State Fault Refusal :=
  execute (fun s =>
    let s := { s with pinIn := pins }
    if s.govern t = t.val && s.incDue t pins then s.tmrAdd t 1 else s) s

/-- TIMER_TRIGGER (Table 14.2). -/
def State.tmrTrigger (s : State) (t : Nat) : State :=
  let sel := s.rf (rTMR_AUX t) 6 0
  let f := sel % 32
  let was := bit s.flagsPrev f
  let hit := match s.rf (rTMR_CFG t) 10 8 with
    | 1 => !was && s.flag f
    | 2 => was && !s.flag f
    | 3 => decide (sel ≤ 95) && s.actMarks.contains (s.time, sel, true)
    | 4 => decide (sel ≤ 95) && s.actMarks.contains (s.time, sel, false)
    | _ => false
  if s.govern t = t && hit then s.startTmr t else s

def execTimerTrigger (t : Fin 32) (s : State) : Host.Outcome State Fault Refusal := execute (fun s => s.tmrTrigger t) s

/-- The core cycle ends: prescalers advance where the gate lets them (R379), and marks that were seen go. -/
def State.tmrTick (s : State) : State :=
  let s := (s.tmrs.map Prod.fst).foldl (fun s t =>
    let x := s.tmr t
    if x.st = 1 ∧ s.tmrSrc t = 0 ∧ x.startedAt ≠ some s.coreAt then
      if x.incAt = some s.coreAt then s.setTmr t { x with presc := 0 }
      else if s.gateOpen t s.pinIn then s.setTmr t { x with presc := min (x.presc + 1) (s.tmrPre t) } else s
    else s) s
  { s with pinPrev := s.pinIn, actMarks := s.actMarks.filter (fun m => s.time < m.1) }

/-- A TIME step from the present TIME to `upTo` (R389). -/
def State.tmrTimeStep (s : State) (upTo : Nat) : State :=
  (s.tmrs.map Prod.fst).foldl (fun s t =>
    if (s.tmr t).st = 1 ∧ s.govern t = t ∧ s.tmrSrc t = 1 ∧ s.gateOpen t s.pinIn = true then
      let p := 16 * (s.tmrPre t + 1)
      let from_ := max s.time ((s.tmr t).lastB.getD 0)
      let n := upTo / p - from_ / p
      if n = 0 then s.setTmr t { s.tmr t with lastB := some (floorTo p from_) }
      else
        let s := s.tmrAdd t n
        s.setTmr t { s.tmr t with lastB := some (floorTo p upTo) }
    else s) s

/-! ### Registers (R383, R387, R391) -/

def State.eachBit (s : State) (v : Word) (f : State → Nat → State) : State := (below 32).foldl (fun s i => if bit v i then f s i else s) s

def execTmrStart (v : Word) (s : State) : Host.Outcome State Fault Refusal := execute (fun s => s.eachBit v State.startTmr) s
def execTmrStop (v : Word) (s : State) : Host.Outcome State Fault Refusal := execute (fun s => s.eachBit v State.stopTmr) s
def execTmrArm (v : Word) (s : State) : Host.Outcome State Fault Refusal := execute (fun s => s.eachBit v State.armTmr) s

/-- A write of TMR_CMP. -/
def State.tmrCmpWrite (s : State) (t : Nat) (v : Word) : State :=
  let x := s.tmr t
  let was := s.cmpOf t
  (s.setTmr t { x with cmpWas := some (s.coreAt, was) }).setReg (rTMR_CMP t) v

def execTmrCmpWrite (t : Fin 32) (v : Word) (s : State) : Host.Outcome State Fault Refusal := execute (fun s => s.tmrCmpWrite t v) s

/-- A write of TMR_CFG: in RUN only the two interrupt enables are taken. -/
def State.tmrCfgWrite (s : State) (t : Nat) (v : Word) : State :=
  let v := v &&& 0xFFFFFFC0
  let v := if t % 2 = 1 then setBit v 30 false else v
  let old := s.reg (rTMR_CFG t)
  if (s.tmr (s.govern t)).st = 1 then
    let s := s.setReg (rTMR_CFG t) (setFld old 7 6 (fld v 7 6))
    if setFld v 7 6 0 = setFld old 7 6 0 then s else s.setRb rTMR_GSTAT 27 true
  else s.setReg (rTMR_CFG t) v

/-- A write of TMR_AUX. -/
def State.tmrAuxWrite (s : State) (t : Nat) (v : Word) : State :=
  if (s.tmr (s.govern t)).st = 1 then s.setRb rTMR_GSTAT 27 true else s.setReg (rTMR_AUX t) (v &&& 0xFFFFFF7F)

/-- A write of TMR_COUNT. -/
def State.tmrCountWrite (s : State) (t : Nat) (v : Word) : State :=
  if (s.tmr (s.govern t)).st = 1 then s.setRb rTMR_GSTAT 27 true else s.setTmr t { s.tmr t with count := v.toNat }

/-- TMR_CFG, TMR_RUN and TMR_GSTAT as read. -/
def State.tmrCfgRead (s : State) (t : Nat) : Word := setFld (s.reg (rTMR_CFG t)) 5 4 (s.tmr t).st
def State.tmrRunRead (s : State) : Word := BitVec.ofNat 32 ((below 32).foldl (fun n t => if (s.tmr t).st = 1 then n + 2 ^ t else n) 0)
def State.tmrGstatRead (s : State) : Word := setFld (s.reg rTMR_GSTAT) 31 28 (if s.mapBlank then 0 else s.rf rPM_GLOBAL 21 18)

end Sys2Proof.Machine
end

