-- ==== Sys2Proof/Machine/Link.lean ====
section
/-! DEFINITION. What leaves and enters through the host link and the ring: DMA writes and reads (R249 to R256), ring frames
with their CRC (R326), and the little checks the link, the journal and the monitor port use. -/

namespace Sys2Proof.Machine

/-! ### Cyclic redundancy checks (R326, R419, R424, R458) -/

/-- One bit, most significant first, into a CRC of width `w`. -/
def crcBit (w poly crc : Nat) (b : Bool) : Nat :=
  let top := crc / 2 ^ (w - 1) % 2 = 1
  let c := crc * 2 % 2 ^ w
  if top != b then c ^^^ poly else c

/-- The low `n` bits of a value, most significant first, into a CRC. -/
def crcBits (w poly : Nat) : Nat → Nat → Nat → Nat
  | 0, _, crc => crc
  | n + 1, v, crc => crcBits w poly n v (crcBit w poly crc (v / 2 ^ n % 2 = 1))

/-- CRC-16 of bytes in order: polynomial 0x1021, initial value 0xFFFF (R326). -/
def crc16 (l : List Byte) : Nat := l.foldl (fun c b => crcBits 16 0x1021 8 b.toNat c) 0xFFFF

/-- CRC-16 of 40-bit words, from bit 39 down (R419). -/
def crc16Words (l : List MemWord) : Nat := l.foldl (fun c x => crcBits 16 0x1021 40 x.toNat c) 0xFFFF

/-- CRC-8 of some bits, most significant first: polynomial 0x1D, initial value 0xFF (R458). -/
def crc8 (n v : Nat) : Nat := crcBits 8 0x1D n v 0xFF

/-- One bit into the reflected CRC-32 of IEEE 802.3. -/
def crc32Bit (c : Nat) : Nat := if c % 2 = 1 then (c / 2) ^^^ 0xEDB88320 else c / 2

/-- CRC-32 (IEEE 802.3) of bytes in order (R424). -/
def crc32 (l : List Byte) : Nat :=
  (l.foldl (fun c b => (below 8).foldl (fun c _ => crc32Bit c) (c ^^^ b.toNat)) 0xFFFFFFFF) ^^^ 0xFFFFFFFF

/-! ### DMA (R252 to R256) -/

/-- The device may issue requests (R254). -/
def State.dmaOk (s : State) : Bool := s.rb rHL_STAT 26 && !s.rb rHL_STAT 25

/-- What a request of this function carries (R252). -/
def State.req (s : State) : Req := { id := s.link.id }

/-- A DMA write, in requests of at most Max Payload Size (R252); `fuel` bounds their number. -/
def hostChunks (q : Req) (max_ : Nat) : Nat → Nat → Nat → Nat → List Out
  | 0, _, _, _ => []
  | _ + 1, _, 0, _ => []
  | n + 1, a, len, v =>
    let k := min len (max_ - a % max_)
    .hostWrite q a k (v % 256 ^ k) :: hostChunks q max_ n (a + k) (len - k) (v / 256 ^ k)

/-- The device writes `len` bytes to host memory. -/
def State.hostWrite (s : State) (addr len val : Nat) : State :=
  { s with out := (hostChunks s.req (128 * 2 ^ min s.link.mps 1) (len + 1) addr len val).reverse ++ s.out }

/-- How much of a read one request may cover (R252): Max Read Request Size, honoured up to 512 bytes, and no 4 KiB boundary. -/
def State.readLen (s : State) (addr len : Nat) : Nat := min len (min (128 * 2 ^ min s.link.mrrs 2) (4096 - addr % 4096))

/-- The lowest tag no read in flight carries, of 16 (R249). -/
def State.freeTag (s : State) : Option Nat := (below 16).find? (fun t => !s.reads.any (fun r => r.tag == some t))

/-- The first waiting read of the list takes tag `t` for its first `k` bytes; the rest waits behind it, except of a command's
piecewise read, which asks for the rest when this has come. -/
def tagFirst (t k : Nat) : List Rd → List Rd
  | [] => []
  | r :: l =>
    if r.tag.isSome then r :: tagFirst t k l
    else if r.len ≤ k then { r with tag := some t } :: l
    else if r.kind = 2 then { r with tag := some t, len := k } :: l
    else { r with tag := some t, len := k } :: { r with addr := r.addr + k, len := r.len - k, ofs := r.ofs + k } :: l

/-- One waiting read is issued, as far as one request may cover it now (R252), if requests may leave and a tag is free. -/
def State.issueOne (s : State) : State :=
  match s.dmaOk, s.freeTag, s.reads.find? (fun r => r.tag.isNone) with
  | true, some t, some r =>
    let k := s.readLen r.addr r.len
    ({ s with reads := tagFirst t k s.reads }).emit (.hostRead s.req r.addr k t)
  | _, _, _ => s

/-- Every waiting read that may leave is issued, in order. -/
def State.issueReads (s : State) : State := (below 16).foldl (fun s _ => s.issueOne) s

/-- A read joins those to be issued. -/
def State.hostRead (s : State) (r : Rd) : State := ({ s with reads := s.reads ++ [r] }).issueReads

/-- An uncorrectable error shows in the Advanced Error Reporting capability (R249). -/
def State.aerNote (s : State) (b : Nat) : State := { s with link := { s.link with aerStat := setBit s.link.aerStat b true } }

/-- A PCIe read failed (R255): field 31:24, 23:16 or 15:8 of HL_ERR advances, and ERR sets; PCI Express has bits for a completion
timeout and a poisoned completion (log entry 30). -/
def State.readErr (s : State) (hi : Nat) : State :=
  let s := if hi = 31 then s.aerNote 14 else if hi = 15 then s.aerNote 12 else s
  (s.bump rHL_ERR hi (hi - 7)).setRb rHL_STAT 23 true

/-- A dword of the MSI-X table; the Mask bit of a vector is 1 until written. -/
def State.msixDword (s : State) (i : Nat) : Word := tabGet (if i % 4 = 3 then 1 else 0) s.link.table i

/-- The message of vector `v` leaves: its table entry's address and data (R256). -/
def State.msixSend (s : State) (v : Nat) : State :=
  s.emit (.msix s.req v ((s.msixDword (4 * v)).toNat + 2 ^ 32 * (s.msixDword (4 * v + 1)).toNat) (s.msixDword (4 * v + 2)).toNat)

/-- A Mask or the Function Mask holds the messages of vector `v`. -/
def State.msixHeld (s : State) (v : Nat) : Bool := s.link.msixMask || bit (s.msixDword (4 * v + 3)) 0

/-- An MSI-X message of vector `v`, held pending while masked (R256); none while MSI-X is disabled. -/
def State.msix (s : State) (v : Nat) : State :=
  if !s.link.msixEn then s
  else if s.msixHeld v then
    { s with link := { s.link with
        pba := setBit s.link.pba v true, pbaAt := if bit s.link.pba v then s.link.pbaAt else tabSet 0 s.link.pbaAt v s.time } }
  else s.msixSend v

/-- The message of vector `v` held pending leaves once nothing masks it (R256). -/
def State.msixFree (s : State) (v : Nat) : State :=
  if bit s.link.pba v && s.link.msixEn && !s.msixHeld v && s.dmaOk then
    ({ s with link := { s.link with pba := setBit s.link.pba v false, pbaAt := tabSet 0 s.link.pbaAt v 0 } }).msixSend v
  else s

/-- Messages held pending leave in the order in which they were generated (R253). -/
def State.msixRelease (s : State) : State :=
  (sortBy (fun v => tabGet 0 s.link.pbaAt v) (below 16)).foldl (fun s v => s.msixFree v) s

/-- The unique device number (R428): fuse words 0 and 1. -/
def State.uid (s : State) : Nat := (tabGet 0 s.fuses.decoded 0).toNat + 2 ^ 40 * fld (tabGet 0 s.fuses.decoded 1) 23 0

/-! ### Ring frames (R326) -/

/-- EXPRESS frames (Table 12.3). -/
def express (typ : Nat) : Bool := decide (typ = 5 ∨ typ = 6)

/-- A frame's bytes: header, payload, CRC with its high byte first. -/
def frameBytes (typ : Nat) (dir : Bool) (dst src tage len pay : Nat) : List Byte :=
  let body := bytesLE 8 (pack [(7, 0, typ), (8, 8, dir.toNat), (9, 9, (express typ).toNat), (27, 16, dst), (43, 32, src), (55, 48, tage), (63, 56, len)])
    ++ bytesLE len pay
  let c := crc16 body
  body ++ [BitVec.ofNat 8 (c / 256), BitVec.ofNat 8 c]

/-- The device sends a frame on one ring; nothing is sent while the ports are disabled (KR_CFG.EN; 1 on a slave). -/
def State.sendOn (s : State) (kb : Bool) (typ dst tage len pay : Nat) : State :=
  if s.master && !s.rb rKR_CFG 31 then s
  else s.emit (.frame kb.toNat (len + 10) (ofBytesLE (frameBytes typ kb dst s.devAddr tage len pay)))

/-- The same frame on both rings. -/
def State.sendBoth (s : State) (typ dst tage len pay : Nat) : State :=
  (s.sendOn false typ dst tage len pay).sendOn true typ dst tage len pay

/-- TAGE with the epoch in force (R331, R332). -/
def State.tage (s : State) (tag : Nat) : Nat := tag % 64 + 64 * s.rf rKR_STAT 28 27

/-- A frame to one device goes out on KA, or on KB while the slave follows that ring. -/
def State.sendTo (s : State) (typ dst tage len pay : Nat) : State := s.sendOn (!s.master && s.rb rKR_TIME 29) typ dst tage len pay

end Sys2Proof.Machine
end

