-- ==== Sys2Proof/Machine/Interrupt.lean ====
section
/-! DEFINITION. The interrupt controller (chapter 15): sources, priority and eligibility, delivery, claim and complete. -/

namespace Sys2Proof.Machine

/-! ### Sources (R393 to R395) -/

/-- The queues of engine p (R355): DQ and UQ sizes. -/
def State.dqSize (s : State) (p : Nat) : Nat := match s.rf (rPZ_SHIFT p) 28 27 with | 1 => 8 | 2 => 0 | _ => 4
def State.uqSize (s : State) (p : Nat) : Nat := 8 - s.dqSize p

/-- PZ[p] raises its source (Table 13.4). -/
def State.pzSource (s : State) (p : Nat) : Bool :=
  let e := s.pz p
  let i := s.reg (rPZ_IEN p)
  (bit i 31 && s.rb (rPZ_STAT p) 28) || (bit i 30 && !e.uq.isEmpty && !s.rb (rPZ_REC p) 31)
    || (bit i 29 && e.dq.isEmpty && e.run && decide (0 < s.dqSize p)) || (bit i 28 && decide (e.stall = 1 ∨ e.stall = 2))

/-- The stream takes nothing (R287): disabled, or without room for `n` entries. -/
def State.rsNoRoom (s : State) (r n : Nat) : Bool :=
  !s.rb (rRS_CFG r) 31 || decide (2 ^ s.rf (rRS_CFG r) 28 24 < ((s.rs r).next + (n - 1) + 65536 - (s.rs r).done) % 65536)

/-- RS_STAT.FULL. -/
def State.rsFull (s : State) (r : Nat) : Bool := s.rsNoRoom r 1

/-- ACT[a] raises its source (R193, R247). -/
def State.actSource (s : State) (a : Nat) : Bool :=
  decide (s.rf (rDIAG_AST a) 26 16 &&& s.rf rDIAG_CFG 10 0 ≠ 0) || s.rb (rSFB_FROZEN (a / 32)) (a % 32)

/-- The device-global sources (Table 15.2). -/
def State.globalSource (s : State) (i : Nat) : Bool :=
  match i with
  | 0 => s.dip || s.rb rPWR_STAT 26
  | 1 => decide (s.rf rPWR_STAT 25 21 ≠ 0)
  | 2 => s.rb rPWR_TEMP 20
  | 3 => s.rb rMEM_STAT 31
  | 4 => s.rb rHL_STAT 24 || (!s.master && s.rb rKR_STAT 25)
  | 5 => s.rb rHL_STAT 23
  | 6 => s.inSafe || s.rb rSAFE_STAT 29
  | 7 => bit (s.monReg 1) 8
  | 12 => s.summary.isSome
  | 13 => s.master && !s.ring.notices.isEmpty
  | 14 => s.rb rCLK_STAT 28
  | 15 => decide (s.rf rAON_CAUSE 6 0 ≠ 0)
  | _ => if 8 ≤ i ∧ i < 12 then decide (s.rf (rTRAY_TEMP (i - 8)) 21 20 ≠ 0)
         else if 16 ≤ i ∧ i < 24 then s.rsFull (i - 16) else false

/-- The condition of source i stands (Table 15.1). -/
def State.srcActive (s : State) (i : Nat) : Bool :=
  if i < 32 then s.globalSource i
  else if i < 64 then bit (s.dom ((i - 32) / 8)).evt (i % 8)
  else if i < 160 then s.actSource (i - 64)
  else if i < 192 then s.rb (rQP_STAT (i - 160)) 28
  else if i < 208 then s.pzSource (i - 192)
  else if i < 240 then (s.rb rTMR_MATCH (i - 208) && s.rb (rTMR_CFG (i - 208)) 7) || (s.rb rTMR_OVF (i - 208) && s.rb (rTMR_CFG (i - 208)) 6)
  else if i < 248 then decide (s.rf (rBST_STAT (i - 240)) 11 8 &&& (s.rail (i - 240)).ien ≠ 0)
  else if i < 256 then s.rb rKR_STAT (i - 248) && s.rb rKR_TMO (24 + (i - 248))
  else if i < 264 then s.rb rJRN_STAT (i - 256) && s.rb rJRN_CFG (i - 256)
  else false

/-- A reserved source (R393). -/
def srcReserved (i : Nat) : Bool := decide ((24 ≤ i ∧ i < 32) ∨ 264 ≤ i)

/-- INT_SRC[i].TGT and PRIO. -/
def State.srcTgt (s : State) (i : Nat) : Nat := s.rf (rINT_SRC i) 20 16
def State.srcPrio (s : State) (i : Nat) : Nat := s.rf (rINT_SRC i) 3 0

/-- TGT[g]. -/
def State.tgt (s : State) (g : Nat) : Tgt := tabGet {} s.tgts g
def State.setTgt (s : State) (g : Nat) (t : Tgt) : State := { s with tgts := tabSet {} s.tgts g t }

/-- The target that has claimed source i, 31 while it is not in service. -/
def State.svcTgt (s : State) (i : Nat) : Nat := tabGet 31 s.svc i

/-- Source i is pending (R395): active, with a target, and not in service. -/
def State.srcPend (s : State) (i : Nat) : Bool := decide (s.srcTgt i ≤ 16) && decide (s.svcTgt i = 31) && s.srcActive i

/-- The sources in service for g, and how many. -/
def State.inService (s : State) (g : Nat) : List Nat := (s.svc.filter (fun p => p.2 = g)).map Prod.fst

/-- IE_TGT bit g. -/
def State.ieTgt (s : State) (g : Nat) : Bool := s.rb rIE_TGT g

/-- The running priority of g (R397). -/
def State.runPrio (s : State) (g : Nat) : Nat := (s.inService g).foldl (fun m i => max m (s.srcPrio i)) (s.rf (rINT_THR g) 3 0)

/-- Source i is eligible for g. -/
def State.eligible (s : State) (g i : Nat) : Bool :=
  decide (s.srcTgt i = g) && decide (s.runPrio g < s.srcPrio i) && s.ieTgt g && s.srcPend i

/-- The sources routed to g: their INT_SRC register differs from its reset value, which is PRIO 0. -/
def State.routed (s : State) (g : Nat) : List Nat := (below 264).filter (fun i => s.srcPrio i != 0 && s.srcTgt i == g)

/-- The best source of g: the highest PRIO, the lower number on a tie. -/
def State.best (s : State) (g : Nat) : Option Nat :=
  ((s.routed g).filter (fun i => s.eligible g i)).foldl (fun b i =>
    match b with
    | none => some i
    | some j => if s.srcPrio j < s.srcPrio i then some i else some j) none

/-! ### Delivery (R398 to R401, R407, R408) -/

/-- The mailbox of g for a source, or 1023, with COUNT still to come (Table 15.3). -/
def State.mailbox (s : State) (g src : Nat) : Nat :=
  let prio := if src = 1023 then 0 else s.srcPrio src
  let pend := (s.routed g).foldl (fun n i => if s.srcPend i then n + 2 ^ i else n) 0
  pack [(9, 0, src), (35, 32, prio), (40, 40, (s.rb rINT_CFG 31).toNat), (41, 41, (src == 1023).toNat),
    (42, 42, (!(s.inService g).isEmpty).toNat), (127, 64, s.time), (447, 128, pend)]

/-- Mailbox contents are written once DMA allows, then one message; each write raises COUNT (R399). -/
def State.mbxFlush (s : State) (g : Nat) : State :=
  match (s.tgt g).mbx with
  | some v =>
    if s.dmaOk then
      let base := 2 ^ 32 * (s.reg rMBX_BASE_HI).toNat + (s.reg rMBX_BASE_LO).toNat
      let n := ((s.tgt g).count + 1) % 65536
      ((s.setTgt g { s.tgt g with mbx := none, count := n }).hostWrite (base + 64 * g) 64 (v + 65536 * n)).msix g
    else s
  | none => s

/-- A delivery of source `src` to g: the mailbox and its message, a notice to the master, or MON_IRQ_N. -/
def State.deliver (s : State) (g src : Nat) : State :=
  if g = 16 then
    let s := if (s.tgt 16).await.isNone then s.emit (.pulse 1 0) else s
    s.setTgt 16 { s.tgt 16 with await := some src }
  else if s.master then
    (s.setTgt g { s.tgt g with await := some src, mbx := some (s.mailbox g src), mbxAt := s.time }).mbxFlush g
  else
    let n := ((s.tgt g).count + 1) % 65536
    let tag := g + 16 * (n % 4)
    (s.setTgt g { s.tgt g with await := some src, count := n, sent := (s.tgt g).sent ++ [(tag, src)], retry := none }).sendTo 0x21 0 (s.tage tag) 4
      (pack [(15, 0, src), (23, 16, g), (31, 24, s.srcPrio src)])

/-- The delivery of g ends with no replacement: with RECOVERY a host target is told (Table 15.4, R407). -/
def State.withdraw (s : State) (g : Nat) : State :=
  let s := s.bump (rINT_TCNT g) 7 0
  let s := if s.rb rINT_CFG 31 && g != 16 && s.master then
      (s.setTgt g { s.tgt g with mbx := some (s.mailbox g 1023), mbxAt := s.time }).mbxFlush g
    else s
  let s := if g = 16 then s.emit (.pulse 1 1) else s
  s.setTgt g { s.tgt g with await := none, retry := none }

/-- Table 15.4. -/
def State.arbitrate (s : State) (g : Nat) : State :=
  match (s.tgt g).await, s.best g with
  | none, some x => s.deliver g x
  | none, none => s
  | some a, x =>
    if s.eligible g a then
      (match x with
       | some x => if x ≠ a ∧ s.srcPrio a < s.srcPrio x then (s.bump (rINT_TCNT g) 15 8).deliver g x else s
       | none => s)
    else
      (match x with
       | some x => (s.bump (rINT_TCNT g) 7 0).deliver g x
       | none => s.withdraw g)

/-- HOST_TARGET_ARBITRATION: once per frame, at TIME mod 64 = 4·g. -/
def execHostTargetArbitration (g : Fin 16) (s : State) : Host.Outcome State Fault Refusal :=
  execute (fun s => if s.time % 64 = 4 * g.val then s.arbitrate g else s) s

/-- MONITOR_TARGET_ARBITRATION: every core cycle. -/
def execMonitorTargetArbitration (s : State) : Host.Outcome State Fault Refusal := execute (fun s => s.arbitrate 16) s

/-- IRQ_NOTE_RETRY (R408): a NACKed notice goes again after 4 µs if its source is still the best, and is dropped otherwise. -/
def State.noteRetry (s : State) (g : Nat) : State :=
  match (s.tgt g).retry, (s.tgt g).await with
  | some t, some a =>
    if s.time < t then s
    else if s.best g = some a then s.deliver g a
    else s.setTgt g { s.tgt g with await := none, retry := none }
  | _, _ => s

def execIrqNoteRetry (g : Fin 16) (s : State) : Host.Outcome State Fault Refusal := execute (fun s => s.noteRetry g) s

/-! ### Claim and complete (R402 to R405) -/

/-- A source enters service for g, and g's delivery ends (R403). -/
def State.takeSource (s : State) (g src : Nat) : State :=
  let s := if g = 16 && (s.tgt 16).await.isSome then s.emit (.pulse 1 1) else s
  let d := (src - 32) / 8
  let s := if 32 ≤ src ∧ src < 64 then s.setDom d { s.dom d with evt := setBit (s.dom d).evt (src % 8) false } else s
  ({ s with svc := tabSet 31 s.svc src g }).setTgt g { s.tgt g with await := none, retry := none }

/-- CLAIM. -/
def State.claim (s : State) (g src : Nat) : State :=
  if src = 1023 then s
  else if src < 320 && s.srcTgt src == g && s.srcPend src && decide (s.rf (rINT_THR g) 3 0 < s.srcPrio src) then s.takeSource g src
  else s.bump (rINT_TCNT g) 31 24

/-- COMPLETE. -/
def State.complete (s : State) (g src : Nat) : State :=
  if src = 1023 then s
  else if src < 320 && s.svcTgt src == g then { s with svc := tabSet 31 s.svc src 31 }
  else s.bump (rINT_TCNT g) 23 16

/-- A CLAIM or COMPLETE word of the doorbell page: its source and count. -/
def wordSrc (w : Nat) : Nat := w % 1024
def wordCnt (w : Nat) : Nat := w / 65536 % 65536

/-- The claim and complete words of one poll (R402, R405): `get g` is the pair of words of TGT[g]. -/
def State.takeWords (s : State) (get : Nat → Nat × Nat) : State :=
  let s := (below 16).foldl (fun s g =>
    let t := s.tgt g
    match t.compl with
    | some c => if wordCnt (get g).2 = c then s else (s.setTgt g { t with compl := some (wordCnt (get g).2) }).complete g (wordSrc (get g).2)
    | none => if t.baseline then s.setTgt g { t with compl := some (wordCnt (get g).2) } else s) s
  (below 16).foldl (fun s g =>
    let t := s.tgt g
    match t.claim with
    | some c => if wordCnt (get g).1 = c then s else (s.setTgt g { t with claim := some (wordCnt (get g).1) }).claim g (wordSrc (get g).1)
    | none => if t.baseline then s.setTgt g { t with claim := some (wordCnt (get g).1), baseline := false } else s) s

/-! ### Registers (R396, R401, R406, R408, R412) -/

/-- A write of IE_TGT: enabling starts COUNT and the baselines afresh; disabling ends a delivery awaiting claim, and a mailbox that
waits for DMA is not written. -/
def State.ieTgtWrite (s : State) (v : Word) : State :=
  let old := s.reg rIE_TGT
  let s := (below 17).foldl (fun s g =>
    if bit v g && !bit old g then s.setTgt g { s.tgt g with count := 0, claim := none, compl := none, baseline := true }
    else if !bit v g && bit old g then
      let s := s.setTgt g { s.tgt g with mbx := none }
      if (s.tgt g).await.isNone then s
      else
        let s := if g = 16 then s.emit (.pulse 1 1) else s
        (s.bump (rINT_TCNT g) 7 0).setTgt g { s.tgt g with await := none, retry := none }
    else s) s
  s.setReg rIE_TGT (v &&& 0x1FFFF)

def execIeTgtWrite (v : Word) (s : State) : Host.Outcome State Fault Refusal := execute (fun s => s.ieTgtWrite v) s

/-- A write of INT_SRC[i]; a reserved source's is ignored (R393). -/
def State.intSrcWrite (s : State) (i : Nat) (v : Word) : State := if srcReserved i then s else s.setReg (rINT_SRC i) (v &&& 0x001F000F)

/-- INT_RCPL: on a slave, a COMPLETE for a target that exists (R408). -/
def State.rcplWrite (s : State) (v : Word) : State :=
  if s.master || decide (16 < fld v 20 16) then s else s.complete (fld v 20 16) (fld v 9 0)

def execIntRcplWrite (v : Word) (s : State) : Host.Outcome State Fault Refusal := execute (fun s => s.rcplWrite v) s

/-- INT_RNPOP: what a read returns (R408). -/
def State.rnpop (s : State) : Word :=
  match s.ring.notices with
  | (a, g, i) :: _ => word [(31, 31, 1), (27, 16, a), (13, 10, g), (9, 0, i)]
  | [] => 0

/-- INT_RNPOP_READ: the oldest entry goes. -/
def execIntRnpopRead (s : State) : Host.Outcome State Fault Refusal :=
  execute (fun s => { s with ring := { s.ring with notices := s.ring.notices.tail } }) s

/-- INT_SRC, INT_TSTAT and INT_GSTAT as read (Table 15.7). -/
def State.intSrcRead (s : State) (i : Nat) : Word :=
  if srcReserved i then 0
  else
    let g := s.svcTgt i
    let v := setBit (setBit (s.reg (rINT_SRC i)) 31 (s.srcActive i)) 30 (s.srcPend i)
    if g = 31 then v else setFld (setBit v 29 true) 28 24 g
def State.intTstatRead (s : State) (g : Nat) : Word :=
  word [(31, 31, (s.tgt g).await.isSome.toNat), (27, 18, (s.tgt g).await.getD 1023), (15, 12, s.runPrio g), (8, 0, (s.inService g).length)]
def State.intGstatRead (s : State) : Word := setFld (s.reg rINT_GSTAT) 20 16 s.ring.notices.length

end Sys2Proof.Machine
end

