-- ==== Sys2Proof/Machine/Queue.lean ====
section
/-! DEFINITION. The queue engine (chapter 10): the doorbell page, fetching and accepting descriptors, completions,
RESYNC, and record streams. On a slave its completions and records go to the master instead (R332, R334). -/

namespace Sys2Proof.Machine

/-! ### Rings -/

/-- A 64-bit address held in a LO, HI register pair. -/
def State.addrAt (s : State) (lo : Nat) : Nat := 2 ^ 32 * (s.reg (lo + 4)).toNat + (s.reg lo).toNat

/-- QP_CFG.EN and the ring sizes. -/
def State.qpEn (s : State) (q : Nat) : Bool := s.rb (rQP_CFG q) 31
def State.sqSize (s : State) (q : Nat) : Nat := 2 ^ s.rf (rQP_CFG q) 28 24
def State.cqSize (s : State) (q : Nat) : Nat := 2 ^ s.rf (rQP_CFG q) 20 16

/-- Commands of QP[q] in flight (R276); MAX_IF. -/
def State.inFlight (s : State) (q : Nat) : Nat := (s.cmds.filter (fun c => c.qp = q)).length
def State.maxIf (s : State) (q : Nat) : Nat := min (max (s.rf (rQP_CFG q) 14 8) 1) 64

/-- The completion ring has room for the next completion (R281). -/
def State.cqRoom (s : State) (q : Nat) : Bool := decide (((s.qp q).nextCseq + 65536 - (s.qp q).cqDone) % 65536 ≤ s.cqSize q)

/-- Free entries of the completion ring: those R281 allows the device to write (R277). -/
def State.cqFree (s : State) (q : Nat) : Nat :=
  min (s.cqSize q) (s.cqSize q + 1 - ((s.qp q).nextCseq + 65536 - (s.qp q).cqDone) % 65536)

/-! ### Fetching (R273, R275, R277) -/

/-- A descriptor read of QP[q] is waiting or in flight. -/
def State.fetching (s : State) (q : Nat) : Bool := s.reads.any (fun r => r.kind = 1 && r.arg = q)

/-- QP[q] may fetch now; the single fetch that looks for a RESYNC needs no free completion entry (R273, R275). -/
def State.mayFetch (s : State) (q : Nat) : Bool :=
  let x := s.qp q
  s.qpEn q && decide (0 < x.fetchLeft) && !x.drain && (x.oob || x.stall || decide (s.inFlight q + 1 ≤ s.cqFree q))

/-- The queue pair whose turn it is has its next descriptor read. -/
def State.fetchNext (s : State) : State :=
  match s.turn.dropWhile (fun q => !s.mayFetch q) with
  | q :: l =>
    let s := { s with turn := q :: l }
    if s.reads.any (fun r => r.kind = 1) then s
    else s.hostRead { kind := 1, arg := q, addr := s.addrAt (rQP_SQ_LO q) + 32 * ((s.qp q).e % s.sqSize q), len := 32 }
  | [] => { s with turn := [] }

/-- The fetch range of QP[q] after a poll (R273), also while a RESYNC with DRAIN holds its fetches; `changed`: its word differs from
the word last taken, and a stalled pair's entry is due to be fetched again until it has been (R275). -/
def State.fetchRange (s : State) (q : Nat) (changed : Bool) : State :=
  let x := s.qp q
  let n := (x.lastSeq + 65536 - x.e) % 65536
  if x.stall then s.setQp q { x with fetchLeft := if changed then 1 else x.fetchLeft, oob := false }
  else if n = 65535 then s.setQp q { x with fetchLeft := 0, oob := false }
  else if n < s.sqSize q then s.setQp q { x with fetchLeft := min 8 (n + 1), oob := false }
  else (s.setQp q { x with fetchLeft := 1, oob := true }).bump (rQP_CNT q) 15 8

/-- The queue pairs with new work are served in ascending order from one place after the first served last time (R277). -/
def State.newTurn (s : State) : State :=
  let order := (below 32).map (fun k => (s.firstQp + 1 + k) % 32)
  let l := order.filter (fun q => s.qpEn q && decide (0 < (s.qp q).fetchLeft))
  ({ s with turn := l, firstQp := l.headD s.firstQp }).fetchNext

/-! ### Accepting (R274 to R276, R298) -/

/-- The opcode is defined (Table 11.1). -/
def opDefined (op : Nat) : Bool :=
  op ≤ 3 || (0x10 ≤ op && op ≤ 0x13) || (0x20 ≤ op && op ≤ 0x24) || (0x40 ≤ op && op ≤ 0x42) || (0x50 ≤ op && op ≤ 0x52)
    || (0x60 ≤ op && op ≤ 0x61) || (0x70 ≤ op && op ≤ 0x73) || (0x80 ≤ op && op ≤ 0x83) || (0x90 ≤ op && op ≤ 0x93)
    || (0xA0 ≤ op && op ≤ 0xA2) || (0xB0 ≤ op && op ≤ 0xB2) || 0xF0 ≤ op

/-- The opcode admits the broadcast address; it admits the master only. -/
def opBroadcast (op : Nat) : Bool := op == 0x10 || op == 0x24 || op == 0x61 || op == 0x73
def opMaster (op : Nat) : Bool := op == 0xA0 || op == 0xA2 || op == 0xB0

/-- TARGET is one the command may name (R297, R298). -/
def State.targetOk (s : State) (op tgt : Nat) : Bool :=
  decide (tgt = 0) || (decide (tgt < 4095) && decide (tgt < s.rf rKR_STAT 23 12) && !opMaster op) || (decide (tgt = 4095) && opBroadcast op)

/-- The lowest free entry of the command buffer. -/
def State.freeEntry (s : State) : Nat := ((below 64).find? (fun e => !s.cmds.any (fun c => c.ent = e))).getD 0

/-- The queue pair stalls (R275). -/
def State.stallQp (s : State) (q seq tag : Nat) : State :=
  let x := s.qp q
  let s := s.setQp q { x with stall := true, fetchLeft := 0 }
  let s := (s.setRb (rQP_STAT q) 28 true).bump (rQP_CNT q) 31 24
  s.post { qp := q, opcode := 0, status := s.statusByte 0x13, tag := tag, seq := seq, time := s.time, result := x.e + 65536 * seq }

/-- A command is accepted: it takes a command-buffer entry, and its OPCODE and TARGET are judged (R276, R298). -/
def State.accept (s : State) (q : Nat) (d : BitVec 256) : State :=
  let x := s.qp q
  let c : Cmd := { ord := s.nextOrd, ent := s.freeEntry, qp := q, seq := fld d 15 0, tag := fld d 63 48, opcode := fld d 23 16
                   flags := fld d 31 24, target := fld d 47 32, ops := BitVec.ofNat 192 (fld d 255 64) }
  let s := { s with nextOrd := s.nextOrd + 1, cmds := s.cmds ++ [c] }.rewrote 8 (7 * c.ent) 7
  let s := s.setQp q { x with e := (x.e + 1) % 65536, retry := 0, fetchLeft := x.fetchLeft - 1 }
  if !opDefined c.opcode then s.finishFrom c 0 s.time 0x10 0
  else if !s.targetOk c.opcode c.target then s.finishFrom c 0 s.time 0x11 0
  else s

/-! ### The words of a poll (R271) -/

/-- `len` bytes of the doorbell page at an offset. -/
def pageField (d : BitVec 3584) (off len : Nat) : Nat := d.toNat / 2 ^ (8 * off) % 2 ^ (8 * len)

/-- The word of QP[q] is torn (R271). -/
def State.torn (s : State) (q : Nat) (d : BitVec 3584) : Bool :=
  decide (pageField d (8 * q) 2 ≠ (pageField d (8 * q + 2) 2 + 1) % 65536 % s.sqSize q)

/-- RS_STAT.FULL follows the stream; a change to full counts (R287). -/
def State.rsNote (s : State) (r : Nat) : State :=
  let full := s.rsFull r
  let s := if full && !s.rb (rRS_STAT r) 31 then s.bump (rRS_STAT r) 15 0 else s
  s.setRb (rRS_STAT r) 31 full

/-- Consumed positions, then producer words, then the fetch ranges of the enabled queue pairs. -/
def State.takeQueueWords (s : State) (d : BitVec 3584) : State :=
  let qs := (below 32).filter (fun q => s.qpEn q)
  let ok := qs.filter (fun q => !s.torn q d)
  let s := (qs.filter (fun q => s.torn q d)).foldl (fun s q => s.bump (rQP_CNT q) 15 8) s
  let s := ok.foldl (fun s q => s.setQp q { s.qp q with cqDone := pageField d (8 * q + 4) 2 }) s
  let s := (below 8).foldl (fun s r =>
    if s.rb (rRS_CFG r) 31 then (s.setRs r { s.rs r with done := pageField d (0x110 + 4 * r) 2 }).rsNote r else s) s
  let s := qs.foldl (fun s q =>
    let w := pageField d (8 * q) 8
    let changed := ok.contains q && decide (w ≠ (s.qp q).lastWord)
    let s := if ok.contains q then s.setQp q { s.qp q with lastSeq := pageField d (8 * q + 2) 2, lastWord := w } else s
    s.fetchRange q changed) s
  s.newTurn

/-! ### Completions (R280 to R283) -/

/-- A completion's 32 bytes (Table 10.4). -/
def Cpl.bytes (c : Cpl) (cseq : Nat) : Nat :=
  pack [(15, 0, cseq), (23, 16, c.opcode), (31, 24, c.status), (47, 32, c.source), (63, 48, c.tag), (79, 64, c.seq), (84, 80, c.qp),
    (159, 96, c.time), (255, 160, c.result)]

/-- A completion leaves the device: the command it finishes is no longer in flight, the slot it held is free (R276, R282). -/
def State.cplGone (s : State) (c : Cpl) : State :=
  let s := match c.cmd with | some o => { s with cmds := s.cmds.filter (fun x => x.ord ≠ o) } | none => s
  match c.slot with
  | some k => if (s.slot (k / 8) (k % 8)).cplWait then s.setSlot (k / 8) (k % 8) { s.slot (k / 8) (k % 8) with cplWait := false } else s
  | none => s

/-- A completion written without the check of R281: a draining RESYNC's own, and a command's while that RESYNC is held. -/
def State.cplFree (s : State) (q : Nat) (c : Cpl) : Bool :=
  c.free || ((s.qp q).drain && (c.cmd.isSome || c.opcode == 1 || c.opcode == 3))

/-- An ABORT's completion stays behind its victim's: the victim is still in flight (R276, R285). -/
def State.cplHeld (s : State) (c : Cpl) : Bool := match c.after with | some o => s.cmds.any (fun x => x.ord = o) | none => false

/-- The completion of QP[q] to write next: the first in order if the ring has room, else the first that needs none. -/
def State.cplNext (s : State) (q : Nat) : Option Cpl :=
  (s.qp q).wait.find? (fun c => !s.cplHeld c && (s.cqRoom q || s.cplFree q c))

/-- The next completion of QP[q] is written. -/
def State.cplWrite (s : State) (q : Nat) : State :=
  let x := s.qp q
  match s.cplNext q with
  | some c =>
    if s.dmaOk && s.qpEn q then
      let s := s.setQp q { x with wait := x.wait.erase c, nextCseq := (x.nextCseq + 1) % 65536 }
      let s := s.hostWrite (s.addrAt (rQP_CQ_LO q) + 32 * (x.nextCseq % s.cqSize q)) 32 (c.bytes x.nextCseq)
      let s := if c.irq then s.setRb (rQP_STAT q) 28 true else s
      s.cplGone c
    else s
  | none => s

/-- On a slave the first completion of QP[q] goes to the master: CPL, or ECPL, of which one may be unanswered (R332, R334). -/
def State.cplSend (s : State) (q : Nat) : State :=
  match s.fwd.find? (fun c => c.qp = q && !s.cplHeld c) with
  | some c =>
    if c.slot.isNone then
      (({ s with fwd := s.fwd.erase c }).sendTo 0x11 0 (c.tage.getD 0) 32 (c.bytes 0)).cplGone c
    else if s.ring.unans.any (fun u => u.key = 8) || s.fwd.find? (fun x => x.slot.isSome) != some c then s
    else ({ s with ring := { s.ring with unans := s.ring.unans ++ [({ key := 8, sent := s.time } : Unans)] } }).sendTo 0x12 0 (s.tage 8) 32 (c.bytes 0)
  | none => s

def execCompletionWrite (q : Fin 32) (s : State) : Host.Outcome State Fault Refusal :=
  execute (fun s => if s.master then s.cplWrite q else s.cplSend q) s

/-! ### RESYNC (R291, R299) -/

/-- LAST_RSEQ (Table 10.8). -/
def State.lastRseq (s : State) (r : Nat) : Nat := if (s.rs r).written then ((s.rs r).next + 65535) % 65536 else 0xFFFF

/-- A stream's line of the view. -/
def State.rsLine (s : State) (r : Nat) : Nat :=
  pack [(15, 0, s.lastRseq r), (31, 16, (s.rs r).done), (32, 32, (s.rb (rRS_CFG r) 31).toNat), (33, 33, (s.rsFull r).toNat)]

/-- Completions of QP[q] that may be written as far as their order goes: an ABORT's behind its victim's is not among them (R285). -/
def State.cplReady (s : State) (q : Nat) : List Cpl := (s.qp q).wait.filter (fun c => !s.cplHeld c)
/-- Those its ring has room for. -/
def State.cplFit (s : State) (q : Nat) : Nat := min (s.cplReady q).length (s.cqFree q)
/-- Completions written before a RESYNC's own: all that are ready, or for one with DRAIN those the ring has room for (R281). -/
def State.resyncPos (s : State) (q : Nat) : Nat := if (s.qp q).drain then s.cplFit q else (s.cplReady q).length

/-- A queue pair's line of the view; `own`: the RESYNC's own pair, its completion counted. -/
def State.qpLine (s : State) (q : Nat) (own : Bool) : Nat :=
  let x := s.qp q
  let last := if own then (x.nextCseq + s.resyncPos q) % 65536 else (x.nextCseq + 65535) % 65536
  pack [(15, 0, x.e + 65535), (31, 16, last), (39, 32, s.inFlight q), (40, 40, (s.qpEn q).toNat), (41, 41, x.stall.toNat),
    (42, 42, (x.drain && !own).toNat), (43, 43, (s.fullQp q).toNat), (63, 48, (s.cplReady q).length - s.cplFit q)]

/-- The view of Table 10.8: 40 lines of 8 bytes. -/
def State.view (s : State) (q : Nat) : Nat :=
  (below 32).foldl (fun n k => n + s.qpLine k (k == q) * 2 ^ (64 * k)) 0 + (below 8).foldl (fun n r => n + s.rsLine r * 2 ^ (2048 + 64 * r)) 0

/-- RESYNC finishes: with DRAIN once its queue pair has nothing in flight. -/
def State.resyncRun (s : State) (q : Nat) : State :=
  let x := s.qp q
  match x.resync with
  | none => s
  | some (seq, tag, flags, ops) =>
    let buf := fld ops 63 0
    let write := decide (buf ≠ 0) && decide (buf % 64 = 0)
    if (x.drain && decide (s.inFlight q ≠ 0)) || (write && !s.dmaOk) then s
    else
      let s' := if write then s.hostWrite buf 320 (s.view q) else s
      let n := s.resyncPos q
      let c : Cpl :=
        { qp := q, opcode := 1, status := s.statusByte (if buf % 64 = 0 then 0 else 0x16), tag := tag, seq := seq, time := s.time
          result := pack [(15, 0, x.e + 65535), (31, 16, (x.nextCseq + n) % 65536), (39, 32, s.inFlight q)]
          irq := flags / 4 % 2 = 1, free := x.drain }
      s'.setQp q { x with
        resync := none, drain := false, wait := (s.cplReady q).take n ++ c :: ((s.cplReady q).drop n ++ x.wait.filter (fun c => s.cplHeld c)) }

/-- At its acceptance a RESYNC without DRAIN finishes (R291). -/
def State.resyncStart (s : State) (q : Nat) : State := if (s.qp q).drain then s else s.resyncRun q

def execResync (q : Fin 32) (s : State) : Host.Outcome State Fault Refusal := execute (fun s => s.resyncRun q) s

/-! ### A fetched descriptor (R274 to R276, R291, R298) -/

/-- A RESYNC's operands are well formed, its BUF_ADDR aside (R299, R321). -/
def resyncForm (ops : BitVec 192) : Bool := decide (fld ops 191 65 = 0)

/-- A RESYNC with a reserved operand bit set is refused and changes nothing (R298, R321); E passes it only where its SEQ is E. -/
def State.resyncRefused (s : State) (q seq tag flags : Nat) : State :=
  let x := s.qp q
  let s := s.setQp q (if seq = x.e && !x.stall && !x.oob then { x with e := (x.e + 1) % 65536, retry := 0, fetchLeft := x.fetchLeft - 1 }
    else { x with fetchLeft := 0 })
  s.postAs { qp := q, opcode := 1, status := s.statusByte 0x16, tag := tag, seq := seq, time := s.time, irq := flags / 4 % 2 = 1 }

/-- A RESYNC is accepted (R291, R299); without DRAIN it finishes at once. -/
def State.resyncTake (s : State) (q seq tag flags : Nat) (ops : BitVec 192) : State :=
  (s.setQp q { s.qp q with
    e := (seq + 1) % 65536, stall := false, retry := 0, fetchLeft := 0, oob := false, drain := bit ops 64
    resync := some (seq, tag, flags, ops) }).resyncStart q

/-- An ABORT is accepted (R276, R284). -/
def State.abortAccept (s : State) (q seq tag flags : Nat) (ops : BitVec 192) : State :=
  let x := s.qp q
  { s.setQp q { x with
      e := (x.e + 1) % 65536, retry := 0, fetchLeft := x.fetchLeft - 1
      aborts := x.aborts ++ [{ seq := seq, tag := tag, flags := flags, ops := ops, ord := s.nextOrd, at_ := s.time }] } with nextOrd := s.nextOrd + 1 }

/-- The descriptor is not the one expected: a retry, and the third in a row stalls the pair (R274, R275). -/
def State.mismatch (s : State) (q seq tag : Nat) : State :=
  let x := s.qp q
  let s := (s.bump (rQP_CNT q) 23 16).setQp q { x with retry := x.retry + 1, fetchLeft := 0 }
  if 3 ≤ x.retry + 1 then s.stallQp q seq tag else s

/-- A limit of R276 is reached: 64 commands in flight, or MAX_IF of the pair. -/
def State.atLimit (s : State) (q : Nat) : Bool := decide (64 ≤ s.cmds.length || s.maxIf q ≤ s.inFlight q)

/-- A fetched descriptor is judged: RESYNC whatever its SEQ; on a stalled pair nothing else; at a limit nothing else but an ABORT;
then its SEQ against E, and out of bounds no match is taken. -/
def State.judgeDesc (s : State) (q : Nat) (d : BitVec 256) : State :=
  let x := s.qp q
  let seq := fld d 15 0
  let op := fld d 23 16
  let ops := BitVec.ofNat 192 (fld d 255 64)
  if op = 1 then
    if x.resync.isSome then s.setQp q { x with fetchLeft := 0 }
    else if resyncForm ops then s.resyncTake q seq (fld d 63 48) (fld d 31 24) ops
    else s.resyncRefused q seq (fld d 63 48) (fld d 31 24)
  else if x.stall || (s.atLimit q && op != 3) then s.setQp q { x with fetchLeft := 0 }
  else if seq ≠ x.e then s.mismatch q seq (fld d 63 48)
  else if x.oob then s.setQp q { x with fetchLeft := 0 }
  else if op = 3 then s.abortAccept q seq (fld d 63 48) (fld d 31 24) ops
  else s.accept q d

/-- DESCRIPTOR_FETCH: the descriptor asked for arrives. -/
def State.descFetch (s : State) (q : Nat) (d : BitVec 256) : State :=
  if s.reads.any (fun r => r.kind = 1 && r.arg = q && r.tag.isSome) then
    let s := ({ s with reads := s.reads.filter (fun r => !(r.kind = 1 && r.arg = q)) }).issueReads
    (s.judgeDesc q d).fetchNext
  else s

def execDescriptorFetch (q : Fin 32) (d : BitVec 256) (s : State) : Host.Outcome State Fault Refusal := execute (fun s => s.descFetch q d) s

/-! ### Record streams (R286 to R288) -/

/-- The stream a hand-over goes to; none while its producer does not drain (R244). -/
def State.handRs (s : State) (h : Hand) : Option Nat :=
  if h.prod = 2 then (if s.rb rDIAG_CFG 31 then some (s.rf rDIAG_CFG 30 28) else none) else some h.rs

/-- A shot record of the stream that closed before `t` is still to be handed over, in its LS lane's next slot (R186). -/
def State.closesFirst (s : State) (r t : Nat) : Bool :=
  s.acts.any (fun p => p.2.toClose.any (fun h => bit h.sfb 30 && fld h.sfb 29 27 == r && decide (h.closedAt < t)))

/-- The first hand-over for a stream; a shot record waits for those that closed before it (R186). -/
def State.firstHand (s : State) (r : Nat) : Option Hand :=
  (s.hands.find? (fun h => s.handRs h == some r)).filter (fun h => h.prod != 1 || !s.closesFirst r h.closed)

/-- A record entry's 32 bytes (Table 10.6). -/
def entryBytes (rseq : Nat) (disc : Bool) (e : Nat × Nat × Nat × Nat × Nat × Nat) : Nat :=
  pack [(15, 0, rseq), (23, 16, e.1), (31, 24, e.2.1 ||| disc.toNat), (47, 32, e.2.2.1), (63, 48, e.2.2.2.1), (127, 64, e.2.2.2.2.1),
    (255, 128, e.2.2.2.2.2)]

/-- The engine of a Pretzel record. -/
def Hand.engine (h : Hand) : Nat := match h.entries with | e :: _ => e.1 % 16 | [] => 0

/-- Words of a Pretzel record (Table 13.3). -/
def Hand.words (h : Hand) : Nat := match h.entries with | e :: _ => e.2.2.2.1 / 16 % 8 | [] => 0

/-- The shot records that wait for a stream are lost whole, wherever they wait among its hand-overs (R185); the other producers'
records wait (R287). -/
def State.loseShots (s : State) (r : Nat) : State :=
  let l := s.hands.filter (fun h => h.prod == 1 && h.rs == r)
  if l.isEmpty then s
  else (({ s with hands := s.hands.filter (fun h => !(h.prod == 1 && h.rs == r)) }).bumpN rSFB_CNT_C 31 16 l.length).setRs r { s.rs r with disc := true }

/-- What leaves with a record: a Pretzel engine's words leave its queue (R368); the fault FIFO may take a summary (R245). -/
def State.handGone (s : State) (h : Hand) : State :=
  let s := { s with hands := s.hands.erase h }
  if h.prod = 3 then s.setPz h.engine { s.pz h.engine with uq := (s.pz h.engine).uq.drop h.words }
  else if h.prod = 2 then s.summaryIn else s

/-- The record's entries are written with the next RSEQ values. -/
def State.writeHand (s : State) (r : Nat) (h : Hand) : State :=
  let x := s.rs r
  let disc := h.prod == 1 && x.disc
  let s := (h.entries.foldl (fun (a : State × Nat) e =>
    (a.1.hostWrite (a.1.addrAt (rRS_BASE_LO r) + 32 * (a.2 % 2 ^ a.1.rf (rRS_CFG r) 28 24)) 32 (entryBytes a.2 disc e), (a.2 + 1) % 65536))
    (s, x.next)).1
  let s := s.setRs r { x with next := (x.next + h.entries.length) % 65536, written := true, disc := x.disc && h.prod != 1 }
  (s.handGone h).rsNote r

/-- The first record of a stream is written once the stream has room; a stream that cannot take it loses the shot records. -/
def State.recWrite (s : State) (r : Nat) : State :=
  match s.firstHand r with
  | some h =>
    if s.rsNoRoom r h.entries.length then s.loseShots r
    else if s.dmaOk then s.writeHand r h else s
  | none => s

/-- A slave's outbox for a stream holds 8 entries (R334). -/
def State.outFill (s : State) (r : Nat) : Nat := ((s.ring.outbox.filter (fun h => h.rs = r)).map (fun h => h.entries.length)).sum

/-- The RECORD frame of a hand-over. -/
def State.sendRecord (s : State) (r : Nat) (h : Hand) : State :=
  let pay := (h.entries.foldl (fun (a : Nat × Nat) e => (a.1 + entryBytes 0 false e * 2 ^ a.2, a.2 + 256)) (r, 32)).1
  s.sendTo 0x20 0 (s.tage r) (4 + 32 * h.entries.length) pay

/-- A record enters the outbox of its stream; a shot record with the DISC mark that is due (R185). -/
def State.intoOutbox (s : State) (r : Nat) (h : Hand) : State :=
  let disc := h.prod == 1 && (s.rs r).disc
  let h' := { h with rs := r, entries := h.entries.map (fun e => (e.1, e.2.1 ||| disc.toNat, e.2.2)) }
  let s := ({ s with ring := { s.ring with outbox := s.ring.outbox ++ [h'] } }).handGone h
  if disc then s.setRs r { s.rs r with disc := false } else s

/-- On a slave: a record enters the outbox of its stream, and the oldest there is sent unless one is unanswered. -/
def State.recSend (s : State) (r : Nat) : State :=
  let s := match s.firstHand r with
    | some h => if 8 < s.outFill r + h.entries.length then s.loseShots r else s.intoOutbox r h
    | none => s
  match s.ring.outbox.find? (fun h => h.rs = r) with
  | some h =>
    if s.ring.unans.any (fun u => u.key = r) then s
    else ({ s with ring := { s.ring with unans := s.ring.unans ++ [({ key := r, sent := s.time } : Unans)] } }).sendRecord r h
  | none => s

def execRecordWrite (r : Fin 8) (s : State) : Host.Outcome State Fault Refusal :=
  execute (fun s => if s.master then s.recWrite r else s.recSend r) s

/-! ### Registers (R289, R293 to R296) -/

/-- Any slot armed from QP[q] is not FREE. -/
def State.qpArmed (s : State) (q : Nat) : Bool := s.slots.any (fun p => p.2.st != 0 && p.2.qp == q)

/-- A descriptor read of QP[q] is not made, or not used when it returns. -/
def State.dropFetch (s : State) (q : Nat) : State :=
  let l := s.reads.filter (fun r => !(r.kind = 1 && r.arg = q && r.tag.isNone))
  { s with reads := l.map (fun (r : Rd) => if r.kind = 1 ∧ r.arg = q then { r with kind := 4 } else r) }

/-- A write of QP_CFG. -/
def State.qpCfgWrite (s : State) (q : Nat) (v : Word) : State :=
  if !s.master then s
  else
    let v := v &&& 0x9F1F7F00
    let old := s.reg (rQP_CFG q)
    let rej (s : State) := s.setRb (rQP_STAT q) 29 true
    if bit old 31 then
      let s := if setBit v 31 true = old then s else rej s
      if bit v 31 then s
      else if s.inFlight q ≠ 0 || !(s.qp q).wait.isEmpty || s.qpArmed q then rej s
      else
        let s := s.setRb (rQP_CFG q) 31 false
        (s.dropFetch q).setQp q { s.qp q with fetchLeft := 0 }
    else if !bit v 31 then s.setReg (rQP_CFG q) v
    else if fld v 28 24 < 4 || 16 < fld v 28 24 || fld v 20 16 < 4 || 16 < fld v 20 16 then rej (s.setReg (rQP_CFG q) (setBit v 31 false))
    else (s.setReg (rQP_CFG q) v).setQp q {}

def execQpCfgWrite (q : Fin 32) (v : Word) (s : State) : Host.Outcome State Fault Refusal := execute (fun s => s.qpCfgWrite q v) s

/-- A write of a ring address, QP_SQ or QP_CQ. -/
def State.qpAddrWrite (s : State) (q addr : Nat) (mask v : Word) : State :=
  if !s.master then s
  else if s.qpEn q then s.setRb (rQP_STAT q) 29 true else s.setReg addr (v &&& mask)

/-- A write of RS_CFG. -/
def State.rsCfgWrite (s : State) (r : Nat) (v : Word) : State :=
  if !s.master then s
  else
    let v := v &&& 0x9F000000
    let old := s.reg (rRS_CFG r)
    let rej (s : State) := s.setRb (rRS_STAT r) 30 true
    if bit old 31 then
      let s := if setBit v 31 true = old then s else rej s
      if bit v 31 then s else (s.setRb (rRS_CFG r) 31 false).rsNote r
    else if !bit v 31 then s.setReg (rRS_CFG r) v
    else if fld v 28 24 < 4 || 16 < fld v 28 24 then rej (s.setReg (rRS_CFG r) (setBit v 31 false))
    else ((s.setReg (rRS_CFG r) v).setRs r { disc := (s.rs r).disc }).rsNote r

def execRsCfgWrite (r : Fin 8) (v : Word) (s : State) : Host.Outcome State Fault Refusal := execute (fun s => s.rsCfgWrite r v) s

/-- A write of RS_BASE. -/
def State.rsBaseWrite (s : State) (r addr : Nat) (mask v : Word) : State :=
  if !s.master then s
  else if s.rb (rRS_CFG r) 31 then s.setRb (rRS_STAT r) 30 true else s.setReg addr (v &&& mask)

/-- A write of MBX_BASE. -/
def State.mbxBaseWrite (s : State) (addr : Nat) (mask v : Word) : State :=
  if !s.master then s
  else if s.reg rIE_TGT ≠ 0 then s.setRb rQE_STAT 31 true else s.setReg addr (v &&& mask)

/-- QP_STAT, QP_CSEQ, QP_OWN, RS_SEQ, QE_STAT and QE_STALL as read; on a slave their after-reset values (R296). -/
def State.qpStatRead (s : State) (q : Nat) : Word :=
  let x := s.qp q
  s.reg (rQP_STAT q) ||| word [(31, 31, x.stall.toNat), (30, 30, x.drain.toNat), (27, 27, (s.fullQp q).toNat), (22, 16, s.inFlight q), (15, 0, x.e)]
def State.qpCseqRead (s : State) (q : Nat) : Word := word [(31, 16, (s.qp q).cqDone), (15, 0, (s.qp q).nextCseq)]
def State.qpOwnRead (s : State) (q m : Nat) : Word :=
  BitVec.ofNat 32 ((below 32).foldl (fun n i => if s.owns q (32 * m + i) then n + 2 ^ i else n) 0)
def State.rsSeqRead (s : State) (r : Nat) : Word := word [(31, 16, (s.rs r).done), (15, 0, (s.rs r).next)]
def State.qeStatRead (s : State) : Word := setFld (s.reg rQE_STAT) 22 16 s.cmds.length
def State.qeStallRead (s : State) : Word := BitVec.ofNat 32 ((below 32).foldl (fun n q => if (s.qp q).stall then n + 2 ^ q else n) 0)

end Sys2Proof.Machine
end

