-- ==== Sys2Proof/Machine/HostLink.lean ====
section
/-! DEFINITION. The host link (chapter 9): doorbell polling, host liveness, PCIe resets, configuration writes, reads that
return or fail. -/

namespace Sys2Proof.Machine

/-! ### Buffers of commands (R252, R318, R333) -/

/-- The lowest 6-bit tag none of a slave's accesses carries. -/
def State.freeAcc (s : State) : Nat := ((below 64).find? (fun t => !s.ring.accs.any (fun a => a.tag == some t))).getD 0

/-- The first unsent access of the list takes tag `t`; the last symbol of its frame leaves at `sent`. -/
def tagAcc (t sent : Nat) : List Acc → List Acc
  | [] => []
  | a :: l => if a.tag.isNone then { a with tag := some t, sent := sent } :: l else a :: tagAcc t sent l

/-- Payload bytes of the frame of an access. -/
def Acc.frameLen (a : Acc) : Nat := if a.write then 8 + ceilTo 4 a.len else 12

/-- A slave sends its next access while fewer than 8 are in flight (R333). -/
def State.sendAcc (s : State) : State :=
  match s.ring.accs.find? (fun a => a.tag.isNone) with
  | some a =>
    if 8 ≤ (s.ring.accs.filter (fun a => a.tag.isSome)).length then s
    else
      let t := s.freeAcc
      let s := { s with ring := { s.ring with accs := tagAcc t (s.time + 4 * (a.frameLen + 12)) s.ring.accs } }
      if a.write then s.sendTo 0x1A 0 (s.tage t) a.frameLen (a.addr + a.val * 2 ^ 64)
      else s.sendTo 0x18 0 (s.tage t) a.frameLen (a.addr + a.len * 2 ^ 64)
  | none => s

/-- Every access that may be sent is sent. -/
def State.sendAccs (s : State) : State := (below 8).foldl (fun s _ => s.sendAcc) s

/-- A command's next piece of host data is read: by PCIe on the master, through the master on a slave. -/
def State.fetchMore (s : State) (c : Cmd) : State :=
  if c.need ≤ c.dataLen then s
  else
    let a := c.base + c.dataLen
    let left := c.need - c.dataLen
    if s.master then s.hostRead { kind := 2, arg := c.ord, addr := a, len := s.readLen a left }
    else ({ s with ring := { s.ring with accs := s.ring.accs ++ [({ ord := c.ord, write := false, addr := a, len := min left (min 64 (4096 - a % 4096)) } : Acc)] } }).sendAccs

/-- A command begins to read `len` bytes at `addr`. -/
def State.fetchStart (s : State) (o addr len : Nat) : State :=
  let s := s.modCmd o (fun c => { c with base := addr, need := len, data := 0, dataLen := 0, failed := false })
  match s.cmds.find? (fun c => c.ord = o) with
  | some c => s.fetchMore c
  | none => s

/-- Data for a command arrives. -/
def State.fetchData (s : State) (o len val : Nat) : State :=
  let s := s.modCmd o (fun c => { c with data := c.data + val % 256 ^ len * 256 ^ c.dataLen, dataLen := c.dataLen + len, sentAt := s.time })
  match s.cmds.find? (fun c => c.ord = o) with
  | some c => s.fetchMore c
  | none => s

/-- A command's buffer has arrived whole. -/
def Cmd.ready (c : Cmd) : Bool := decide (c.need ≤ c.dataLen)

/-- The pieces of a slave's write: up to 64 bytes each, within 4 KiB (R252, R333). -/
def accChunks (o : Nat) : Nat → Nat → Nat → Nat → List Acc
  | 0, _, _, _ => []
  | _ + 1, _, 0, _ => []
  | n + 1, a, len, v =>
    let k := min len (min 64 (4096 - a % 4096))
    { ord := o, write := true, addr := a, len := k, val := v % 256 ^ k } :: accChunks o n (a + k) (len - k) (v / 256 ^ k)

/-- A command writes `len` bytes to its host buffer. -/
def State.bufWrite (s : State) (o addr len val : Nat) : State :=
  if s.master then s.hostWrite addr len val
  else ({ s with ring := { s.ring with accs := s.ring.accs ++ accChunks o (len + 1) addr len val } }).sendAccs

/-- The device can write the buffer now; a slave's accesses for the command are all answered. -/
def State.bufReady (s : State) (o : Nat) : Bool := if s.master then s.dmaOk else !s.ring.accs.any (fun a => a.ord = o)

/-! ### Accesses the master makes for slaves (R333) -/

/-- Echoed TYPE and TAG: the payload of ACK and NACK. -/
def echo (typ tage : Nat) : Nat := pack [(7, 0, typ), (15, 8, tage % 64)]

/-- The oldest access of a slave is answered once its outcome is known. -/
def State.saccOne (s : State) : State :=
  match s.ring.saccs with
  | a :: l =>
    let pop : State := { s with ring := { s.ring with saccs := l } }
    match a.res with
    | some (some v) =>
      if a.write then pop.sendOn false 0x13 a.src a.tage 4 (echo 0x1A a.tage) else pop.sendOn false 0x19 a.src a.tage (ceilTo 4 a.len) v
    | some none => pop.sendOn false 0x14 a.src a.tage 4 (echo (if a.write then 0x1A else 0x18) a.tage)
    | none => s
  | [] => s

/-- A slave's access, changed by `f`. -/
def State.modSacc (s : State) (id : Nat) (f : SAcc → SAcc) : State :=
  { s with ring := { s.ring with saccs := s.ring.saccs.map (fun a => if a.id = id then f a else a) } }

/-- The oldest access of a slave that has not been issued on PCIe is issued, once requests may leave. -/
def State.saccIssue (s : State) : State :=
  match s.ring.saccs.find? (fun a => !a.issued) with
  | some a =>
    if !s.dmaOk then s
    else if a.write then (s.modSacc a.id (fun a => { a with issued := true, res := some (some 0) })).hostWrite a.addr a.len a.val
    else (s.modSacc a.id (fun a => { a with issued := true })).hostRead { kind := 3, arg := a.id, addr := a.addr, len := a.len }
  | none => s

/-- Slaves' accesses are issued on PCIe and answered in arrival order (R333). -/
def State.saccFlush (s : State) : State :=
  let s := s.ring.saccs.foldl (fun (s : State) _ => s.saccIssue) s
  s.ring.saccs.foldl (fun (s : State) _ => s.saccOne) s

/-! ### Heartbeat frames (R337) -/

/-- HL_LIVE.TIMEOUT; 0 acts as 1. -/
def State.liveTmo (s : State) : Nat := max (s.rf rHL_LIVE 15 0) 1

/-- An HB frame; `lost`: at a declaration. -/
def State.sendHb (s : State) (lost : Bool) : State :=
  if s.master then
    s.sendBoth 7 4095 (s.tage 0) 4 (pack [(0, 0, (s.rb rHL_LIVE 31).toNat), (1, 1, lost.toNat), (31, 16, s.rf rHL_LIVE 15 0)])
  else s

/-- HOST_LOST_ACT; 1 where the map is blank for an error (R432). -/
def State.hostLostAct (s : State) : Bool := s.mapBlank || s.rb rPM_GLOBAL 17

/-! ### Polls (R262, R263) -/

/-- A poll begins, at `t`: 448 bytes of the page are read, in as many requests as Max Read Request Size makes of them (R252, R269). -/
def State.pollBegin (s : State) (late : Bool) (t : Nat) : State :=
  let s := if late then s.bump rHL_STAT 15 8 else s
  ({ s with poll := { s.poll with last := some t, busy := true } }).hostRead { kind := 0, arg := 0, addr := s.addrAt rDB_BASE_LO, len := 0x1C0 }

/-- When the next poll falls due. -/
def State.pollDue (s : State) : Nat := match s.poll.last with | some t => t + 250 * (s.rf rDB_POLL 7 0 + 1) | none => 0

/-- DOORBELL_POLL: in the core cycle that holds the moment the poll falls due, from which the next interval runs (R262). -/
def State.doorbellPoll (s : State) : State :=
  if s.master && s.rb rDB_POLL 31 && !s.poll.busy && s.dmaOk && decide (s.pollDue < s.time + 4) then s.pollBegin false (max s.pollDue s.time) else s

def execDoorbellPoll (s : State) : Host.Outcome State Fault Refusal := execute State.doorbellPoll s

/-- The outstanding poll ends: one that has fallen due begins, late. -/
def State.pollEnd (s : State) : State :=
  let s := { s with poll := { s.poll with busy := false } }
  if s.rb rDB_POLL 31 && s.dmaOk && decide (s.pollDue ≤ s.time) then s.pollBegin true s.time else s

/-- The heartbeat word of a poll (R263). -/
def State.takeHeartbeat (s : State) (h : Nat) : State :=
  let new := decide (h ≠ (s.reg rHL_HB).toNat)
  let s := s.setReg rHL_HB (BitVec.ofNat 32 h)
  if new && s.rb rHL_LIVE 31 then ({ s with poll := { s.poll with ref := s.time } }).sendHb false else s

/-- Every read of the poll has been issued. -/
def State.polled (s : State) : Bool := s.reads.any (fun r => r.kind = 0) && s.reads.all (fun r => r.kind != 0 || r.tag.isSome)

/-- POLL_DATA: the whole of a poll's data is taken, in the order of R271. -/
def State.pollData (s : State) (d : BitVec 3584) : State :=
  if s.polled then
    let s := ({ s with reads := s.reads.filter (fun r => r.kind ≠ 0) }).issueReads
    let s := s.takeHeartbeat (pageField d 0x100 4)
    let s := s.takeWords (fun g => (pageField d (0x140 + 8 * g) 4, pageField d (0x144 + 8 * g) 4))
    (s.takeQueueWords d).pollEnd
  else s

def execPollData (d : BitVec 3584) (s : State) : Host.Outcome State Fault Refusal := execute (fun s => s.pollData d) s

/-- HOST_LOST: the first core cycle at or after the reference + TIMEOUT. -/
def State.hostLost (s : State) : State :=
  if s.master && s.rb rHL_LIVE 31 && decide (s.poll.ref + 100000 * s.liveTmo < s.time + 4) then
    let s := (s.setRb rHL_STAT 24 true).sendHb true
    let s := { s with poll := { s.poll with ref := s.time } }
    if s.hostLostAct then s.latchCause 3 else s
  else s

def execHostLost (s : State) : Host.Outcome State Fault Refusal := execute State.hostLost s

/-- HB_SEND: every TIMEOUT/4 while the watch runs (R337). -/
def State.hbPeriodic (s : State) : State :=
  if s.master && s.rb rHL_LIVE 31 && decide (s.poll.hbSent + 25000 * s.liveTmo < s.time + 4) then
    ({ s with poll := { s.poll with hbSent := s.time } }).sendHb false
  else s

def execHbSend (s : State) : Host.Outcome State Fault Refusal := execute State.hbPeriodic s

/-- A slave declares the host lost (R337). -/
def State.slaveLost (s : State) : State :=
  let s := ({ s with poll := { s.poll with ref := s.time } }).setRb rKR_STAT 25 true
  if s.hostLostAct then s.latchCause 3 else s

/-- SLAVE_HOST_LOST: TIMEOUT after the slave's reference. -/
def execSlaveHostLost (s : State) : Host.Outcome State Fault Refusal :=
  execute (fun s => if !s.master && s.poll.hbEn && decide (s.poll.ref + 100000 * max s.poll.hbTmo 1 < s.time + 4) then s.slaveLost else s) s

/-! ### Resets and configuration (R249 to R257) -/

/-- PCIE_RESET: the LINK domain clears and nothing else; work in LINK's FIFOs is issued again, BAR0 accesses there are
lost (R450). -/
def State.pcieReset (s : State) (k : Nat) : State :=
  if !s.master then s
  else
    let s := { s with link := {}, barWait := [], reads := (s.reads.filter (fun (r : Rd) => r.kind != 4)).map (fun (r : Rd) => { r with tag := none }) }
    let s := s.setRf rHL_STAT 26 25 0
    let s := if k = 3 then s.bump rXING_CNT 15 8 else s.setRf rHL_STAT 31 27 0
    if k = 2 then s.bump rHL_STAT 7 0 else s

def execPcieReset (k : Fin 4) (s : State) : Host.Outcome State Fault Refusal := execute (fun s => s.pcieReset k) s

/-- LINK_UP: the link has trained, and its FIFOs are brought back (R257, R450). -/
def execLinkUp (speed width : Fin 4) (s : State) : Host.Outcome State Fault Refusal :=
  execute (fun s => if s.master && !s.rb rHL_STAT 31 then
    (s.setRf rHL_STAT 31 27 (16 + 4 * speed.val + width.val)).bump rXING_CNT 15 8 else s) s

/-- The mailboxes and messages that wait, each with the moment it was generated: mailbox g as g, message v as 16 + v. -/
def State.dmaWaits (s : State) : List (Nat × Nat) :=
  ((below 16).filter (fun g => (s.tgt g).mbx.isSome)).map (fun g => ((s.tgt g).mbxAt, g))
    ++ ((below 16).filter (fun v => bit s.link.pba v)).map (fun v => (tabGet 0 s.link.pbaAt v, 16 + v))

/-- Work that waited for DMA goes on, mailboxes and messages in the order in which they were generated (R253, R254, R399). -/
def State.dmaResume (s : State) : State :=
  let s := (sortBy Prod.fst s.dmaWaits).foldl (fun (s : State) w => if w.2 < 16 then s.mbxFlush w.2 else s.msixFree (w.2 - 16)) s
  s.issueReads.saccFlush

/-- The bits of the Advanced Error Reporting registers that the baseline errors use (log entry 30). -/
def aerBits (correctable : Bool) : Word := if correctable then 0x31C1 else 0x17F010

/-- A write of an Advanced Error Reporting register: the status registers are cleared by ones. -/
def Link.aerWrite (l : Link) (r : Nat) (v : Word) : Link :=
  match r with
  | 0 => { l with aerStat := l.aerStat &&& ~~~v }
  | 1 => { l with aerMask := v &&& aerBits false }
  | 2 => { l with aerSev := v &&& aerBits false }
  | 3 => { l with aerCor := l.aerCor &&& ~~~v }
  | _ => { l with aerCorMask := v &&& aerBits true }

/-- A configuration write; what Table 9.1 does not list has control bits hard-wired to zero, and identities are read-only (R249,
R250). -/
def State.cfgWrite (s : State) : CfgWrite → State
  | .command mse bme => (({ s with link := { s.link with mse := mse } } : State).setRb rHL_STAT 26 bme).dmaResume
  | .power d3 => (s.setRb rHL_STAT 25 d3).dmaResume
  | .msix en mask => ({ s with link := { s.link with msixEn := en, msixMask := mask } }).msixRelease
  | .deviceControl mps mrrs => { s with link := { s.link with mps := mps, mrrs := mrrs } }
  | .deviceControl2 t => { s with link := { s.link with timeout := t } }
  | .linkControl a => { s with link := { s.link with aspm := a.val / 2 * 2 } }
  | .aer r v => { s with link := s.link.aerWrite r v }
  | .bar two a =>
    if two then { s with link := { s.link with bar2 := floorTo 0x1000 a.toNat } } else { s with link := { s.link with bar0 := floorTo 0x10000 a.toNat } }
  | .other _ _ => s

/-- Subsystem Vendor ID and Subsystem ID: fuse word 2, or Vendor ID and Device ID where that word is blank (R250). -/
def State.subsystem (s : State) : Nat := let w := fld (tabGet 0 s.fuses.decoded 2) 31 0; if w = 0 then 0x01921FB2 else w

/-- Dword `o` of the type 0 configuration header (R249, R250); the other dwords read zero. -/
def State.cfgHeader (s : State) (o : Nat) : Word :=
  let l := s.link
  match o with
  | 0 => 0x01921FB2
  | 1 => word [(20, 20, 1), (2, 2, (s.rb rHL_STAT 26).toNat), (1, 1, l.mse.toNat)]
  | 2 => 0x11800002
  | 4 => BitVec.ofNat 32 (l.bar0 + 4)
  | 5 => BitVec.ofNat 32 (l.bar0 / 2 ^ 32)
  | 6 => BitVec.ofNat 32 (l.bar2 + 4)
  | 7 => BitVec.ofNat 32 (l.bar2 / 2 ^ 32)
  | 11 => BitVec.ofNat 32 s.subsystem
  | 13 => (Config.capPtr 0).setWidth 32
  | _ => 0

/-- The capabilities present (Table 9.1): power management, PCI Express, MSI-X, and extended Advanced Error Reporting. -/
def capabilities : List Nat := [0x01, 0x10, 0x11, 0x10001]

/-- Dword `o` of a capability as PCI Express 3.0 lays it out, without its next pointer (log entry 30); zero where it is absent. -/
def State.capWord (s : State) (id o : Nat) : Word :=
  let l := s.link
  match id, o with
  | 0x01, 0 => 0x00030001
  | 0x01, 1 => word [(1, 0, if s.rb rHL_STAT 25 then 3 else 0)]
  | 0x10, 0 => 0x00020010
  | 0x10, 1 => word [(2, 0, 1), (5, 5, 1), (15, 15, 1), (28, 28, 1)]
  | 0x10, 2 => word [(7, 5, l.mps), (14, 12, l.mrrs)]
  | 0x10, 3 => word [(3, 0, 3), (9, 4, 2), (11, 10, 2)]
  | 0x10, 4 => word [(25, 20, s.rf rHL_STAT 28 27), (19, 16, s.rf rHL_STAT 30 29), (1, 0, l.aspm)]
  | 0x10, 9 => word [(3, 0, 3)]
  | 0x10, 10 => word [(3, 0, l.timeout)]
  | 0x11, 0 => word [(31, 31, l.msixEn.toNat), (30, 30, l.msixMask.toNat), (26, 16, 15), (7, 0, 0x11)]
  | 0x11, 1 => 2
  | 0x11, 2 => 0x802
  | 0x10001, 0 => 0x00020001
  | 0x10001, 1 => l.aerStat
  | 0x10001, 2 => l.aerMask
  | 0x10001, 3 => l.aerSev
  | 0x10001, 4 => l.aerCor
  | 0x10001, 5 => l.aerCorMask
  | _, _ => 0

/-- CONFIG_SPACE_WRITE; nothing reaches the function while the link is down. The function takes its own ID from the request (log entry
30). -/
def execConfigSpaceWrite (w : CfgRequest) (s : State) : Host.Outcome State Fault Refusal :=
  execute (fun s => if s.master && s.rb rHL_STAT 31 then ({ s with link := { s.link with id := w.id.toNat } } : State).cfgWrite w.write else s) s

/-- The BARs decode: Memory Space Enable is set (R251), the link is up and the function is in D0. -/
def State.barOk (s : State) : Bool := s.master && s.rb rHL_STAT 31 && s.link.mse && !s.rb rHL_STAT 25

/-- A request that no BAR decodes is answered as an Unsupported Request (R251). -/
def State.unsupported (s : State) : State := if s.master && s.rb rHL_STAT 31 then s.aerNote 20 else s

/-- A dword of BAR2: the MSI-X table, the pending-bit array, else zero (R251). -/
def State.bar2Read (s : State) (i : Nat) : Word := if i < 64 then s.msixDword i else if i = 0x200 then s.link.pba.setWidth 32 else 0

/-- MSIX_TABLE_WRITE: a dword of BAR2; only the MSI-X table is written (R251, R256). -/
def execMsixTableWrite (i : Fin 1024) (v : Word) (s : State) : Host.Outcome State Fault Refusal :=
  execute (fun s =>
    if !s.barOk then s.unsupported
    else if i.val < 64 then ({ s with link := { s.link with table := tabSet (if i.val % 4 = 3 then 1 else 0) s.link.table i v } }).msixRelease
    else s) s

/-! ### Reads that return or fail (R255) -/

/-- The other reads of a failed poll: those issued return unused, as kind 4. -/
def State.dropPoll (s : State) : State :=
  { s with reads := (s.reads.filter (fun r => r.kind != 0 || r.tag.isSome)).map (fun (r : Rd) => if r.kind = 0 then { r with kind := 4 } else r) }

/-- What waits for a read that failed; a poll fails with any of its reads. -/
def State.readFailed (s : State) (r : Rd) : State :=
  if r.kind = 4 then s
  else if r.kind = 0 then s.dropPoll.pollEnd
  else if r.kind = 1 then (s.setQp r.arg { s.qp r.arg with fetchLeft := 0 }).fetchNext
  else if r.kind = 2 then s.modCmd r.arg (fun c => { c with failed := true })
  else (s.modSacc r.arg (fun a => { a with res := some none })).saccFlush

/-- Bytes of a slave's access have come; with the last of them its outcome is known, unless a part has failed. -/
def SAcc.take (a : SAcc) (r : Rd) (d : Nat) : SAcc :=
  let v := a.data + d % 256 ^ r.len * 256 ^ r.ofs
  let n := a.got + r.len
  { a with data := v, got := n, res := if a.res.isNone && decide (a.len ≤ n) then some (some v) else a.res }

/-- The data of a read arrives for a command or for a slave's access. -/
def State.readData (s : State) (r : Rd) (d : Nat) : State :=
  if r.kind = 4 then s
  else if r.kind = 2 then s.fetchData r.arg r.len d
  else (s.modSacc r.arg (fun a => a.take r d)).saccFlush

/-- The read of a tag leaves the reads in flight. -/
def State.readGone (s : State) (t : Nat) : State := ({ s with reads := s.reads.filter (fun r => r.tag != some t) }).issueReads

/-- DMA_READ_COMPLETION: st 0 data, 1 Unsupported Request or Completer Abort, 2 poisoned. The data of polls and descriptors
comes with POLL_DATA and DESCRIPTOR_FETCH. -/
def State.readReturn (s : State) (t st : Nat) (d : BitVec 4096) : State :=
  match s.reads.find? (fun r => r.tag == some t) with
  | some r =>
    if st = 0 then (if 2 ≤ r.kind then (s.readGone t).readData r d.toNat else s)
    else ((s.readGone t).readErr (if st = 1 then 23 else 15)).readFailed r
  | none => s

def execDmaReadCompletion (t : Fin 16) (st : Fin 3) (d : BitVec 4096) (s : State) : Host.Outcome State Fault Refusal :=
  execute (fun s => s.readReturn t st d) s

/-- COMPLETION_TIMEOUT. -/
def execCompletionTimeout (t : Fin 16) (s : State) : Host.Outcome State Fault Refusal :=
  execute (fun s => match s.reads.find? (fun r => r.tag == some t.val) with
    | some r => ((s.readGone t).readErr 31).readFailed r
    | none => s) s

/-! ### Registers (R258, R261 to R265) -/

/-- A write of DB_POLL. -/
def State.dbPollWrite (s : State) (v : Word) : State :=
  if !s.master then s
  else if s.rb rDB_POLL 31 && !bit v 31 && s.rb rHL_LIVE 31 then s.setRb rHL_STAT 22 true
  else
    let s := if bit v 31 && !s.rb rDB_POLL 31 then { s with poll := { s.poll with last := none } } else s
    s.setReg rDB_POLL (v &&& 0x800000FF)

def execDbPollWrite (v : Word) (s : State) : Host.Outcome State Fault Refusal := execute (fun s => s.dbPollWrite v) s

/-- A write of HL_LIVE. -/
def State.hlLiveWrite (s : State) (v : Word) : State :=
  if !s.master then s
  else
    let on := bit v 31
    let was := s.rb rHL_LIVE 31
    if (on && !was && !s.rb rDB_POLL 31) || (!on && was && s.hostLostAct) then s.setRb rHL_STAT 22 true
    else
      let s := if on && !was then { s with poll := { s.poll with ref := s.time, hbSent := s.time } } else s
      s.setReg rHL_LIVE (v &&& 0x8000FFFF)

def execHlLiveWrite (v : Word) (s : State) : Host.Outcome State Fault Refusal := execute (fun s => s.hlLiveWrite v) s

/-- A write of DB_BASE_LO or DB_BASE_HI. -/
def State.dbBaseWrite (s : State) (addr : Nat) (mask v : Word) : State :=
  if !s.master then s
  else if s.rb rDB_POLL 31 then s.setRb rHL_STAT 22 true else s.setReg addr (v &&& mask)

/-- A BAR0 write whose byte enables are not all set is discarded (R258). -/
def State.partialWrite (s : State) : State := if s.master then s.readErr 7 else s

/-- ID_UID_LO_READ: the upper half goes into the shadow that ID_UID_HI returns (R261). -/
def State.uidRead (s : State) : State := s.setReg rID_UID_HI (BitVec.ofNat 32 (s.uid / 2 ^ 32))

def execIdUidLoRead (s : State) : Host.Outcome State Fault Refusal := execute State.uidRead s

end Sys2Proof.Machine
end

