-- ==== Sys2Proof/Machine/Operands.lean ====
section
/-! DEFINITION. How a command's descriptor is taken apart (Tables 10.3 and 10.4): its operand bytes, the actuator mask, and
the operands of the table commands. -/

namespace Sys2Proof.Machine

/-- Operand bytes `lo` to `hi` as one value (Table 10.3: byte 8 is the lowest). -/
def Cmd.opnd (c : Cmd) (lo hi : Nat) : Nat := fld c.ops (8 * (hi - 8) + 7) (8 * (lo - 8))
/-- One operand byte. -/
def Cmd.byte (c : Cmd) (b : Nat) : Nat := c.opnd b b
/-- Operand bytes `lo` to `hi` are zero. -/
def Cmd.zeros (c : Cmd) (lo hi : Nat) : Bool := decide (c.opnd lo hi = 0)

/-- The 96-bit actuator mask of ACT_REENABLE and ACT_UNFREEZE. -/
def Cmd.mask (c : Cmd) : List Nat := (below 96).filter (fun a => c.opnd 8 19 / 2 ^ a % 2 = 1)

/-- The descriptor's bytes (Table 10.3). -/
def Cmd.descriptor (c : Cmd) : Nat :=
  pack [(15, 0, c.seq), (23, 16, c.opcode), (31, 24, c.flags), (47, 32, c.target), (63, 48, c.tag)] + c.ops.toNat * 2 ^ 64

/-! ### Operands (Table 2.14) -/

abbrev Cmd.tBuf (c : Cmd) : Nat := c.opnd 8 15
abbrev Cmd.tFirst (c : Cmd) : Nat := c.opnd 16 17
abbrev Cmd.tCount (c : Cmd) : Nat := c.opnd 18 19
abbrev Cmd.tKind (c : Cmd) : Nat := c.byte 20 / 16
abbrev Cmd.tIdx (c : Cmd) : Nat := c.byte 20 % 4
abbrev Cmd.tCommit (c : Cmd) : Bool := c.byte 21 % 2 == 1
abbrev Cmd.tLen (c : Cmd) : Nat := c.opnd 22 23
/-- ZERO_OFS, an angle: what stands above its 20 bits is ignored (R12). -/
abbrev Cmd.tZero (c : Cmd) : Nat := c.opnd 24 27 % 2 ^ 20

end Sys2Proof.Machine
end

