-- ==== Sys2Proof/Machine/Command.lean ====
section
/-! DEFINITION. How a command in flight is started, judged, run or forwarded (R278, R290, R298, R318, R319), and the
ring-control commands NOP, FENCE and ABORT (R279, R284, R285, R300, R336). -/

namespace Sys2Proof.Machine

/-- A setup address lies in the protection-map shadow (Table 16.9). -/
def isShadow (a : Nat) : Bool := decide (0x7000 ≤ a ∧ a < 0x7200)

/-- Ownership (R290, R297, R312, R430); ARM_EVENT and ARM_BATCH have their own checks. -/
def State.owner (s : State) (c : Cmd) : Bool :=
  let g := c.opcode / 16
  if c.opcode = 0x22 ∨ c.opcode = 0x23 ∨ c.opcode = 0x50 then s.owns c.qp (c.byte 8)
  else if c.opcode = 0x24 then c.byte 8 == 255 || s.owns c.qp (c.byte 8)
  else if c.opcode = 0x51 ∨ c.opcode = 0x52 then c.mask.all (fun a => s.owns c.qp a)
  else if c.opcode = 0x10 then s.fullQp c.qp || (!s.sealed && isShadow (c.opnd 8 11))
  else if c.opcode = 0x70 ∧ s.privileged (c.byte 8) = true then false
  else if c.opcode = 0x12 ∨ c.opcode = 0x40 ∨ c.opcode = 0x41 ∨ (6 ≤ g ∧ g ≤ 10) ∨ g = 15 then s.fullQp c.qp
  else true

/-- The operands are well formed (step 5 of R298); the table commands and the arming commands have their own rules. -/
def State.wellFormed (s : State) (c : Cmd) : Bool :=
  let b := c.byte
  match c.opcode with
  | 0x00 | 0x90 | 0x93 | 0xA0 | 0xA1 | 0xA2 | 0xB2 => c.zeros 8 31
  | 0x02 => b 8 ≤ 1 && c.zeros 9 31
  | 0x10 => c.opnd 8 11 < 0x10000 && c.opnd 8 11 % 4 == 0 && c.zeros 16 31
  | 0x11 => c.opnd 8 11 < 0x10000 && c.opnd 8 11 % 4 == 0 && c.zeros 12 31
  | 0x22 => b 8 ≤ 95 && (b 9 ≤ 7 || b 9 == 15) && b 12 ≤ 1 && c.zeros 13 31
  | 0x23 => b 9 == 0 && b 10 ≤ 63 && b 11 == 0 && c.zeros 16 31
  | 0x24 => (b 8 ≤ 95 || b 8 == 255) && b 9 ≤ 1 && c.zeros 10 31
  | 0x40 => b 8 ≤ 3 && c.zeros 9 31
  | 0x41 => b 8 ≤ 3 && b 9 ≤ 1 && c.zeros 10 31
  | 0x42 => b 8 ≤ 3 && c.zeros 9 15 && c.opnd 16 23 % 32 == 0 && c.zeros 24 31
  | 0x50 => b 8 ≤ 95 && c.zeros 9 31
  | 0x51 | 0x52 => c.zeros 20 31
  | 0x60 => b 8 ≤ 7 && b 9 ≤ 3 && c.zeros 14 31
  | 0x61 => b 9 ≤ 1 && c.zeros 10 31
  | 0x70 => b 8 ≤ 31 && b 9 ≤ 1 && (b 9 == 0 || s.linked (b 8)) && c.zeros 10 31
  | 0x71 => b 8 ≤ 31 && b 9 ≤ 3 && (b 9 / 2 == 0 || s.linked (b 8)) && c.zeros 10 31
  | 0x72 => b 8 ≤ 31 && (b 9 == 0 || (b 9 == 2 && s.linked (b 8))) && c.zeros 10 31
  | 0x73 => b 8 ≤ 15 && c.zeros 9 15 && c.zeros 24 31
  | 0x80 => b 8 ≤ 15 && b 9 == 0 && c.zeros 12 31
  | 0x81 => b 8 ≤ 15 && 1 ≤ b 9 && b 9 ≤ 4 && c.zeros 10 11 && c.zeros 28 31
  | 0x82 => b 8 ≤ 15 && 1 ≤ b 9 && b 9 ≤ 2 && c.zeros 10 31
  | 0x83 => b 8 ≤ 3 && b 9 ≤ 2 && b 10 ≤ 15 && c.zeros 11 31
  | 0x91 => c.opnd 8 15 % 8 == 0 && 1 ≤ c.opnd 20 21 && c.opnd 20 21 ≤ 4096 && c.opnd 16 19 + c.opnd 20 21 ≤ 65536 && c.zeros 22 31
  | 0x92 => c.opnd 8 15 % 8 == 0 && 0x80 ≤ b 16 && b 16 ≤ 0xFE && b 17 == 0 && 1 ≤ c.opnd 18 19 && c.opnd 18 19 ≤ 90 && c.zeros 20 31
  | 0xB0 => b 8 ≤ 7 && c.zeros 9 31
  | 0xB1 => b 8 ≤ 3 && c.zeros 9 31
  | _ => true

/-- A vendor test is locked (R317, R432). -/
def State.vendorLocked (s : State) : Bool := s.sealed || s.mapBlank || s.rb rPM_GLOBAL 16

/-- Steps 3 to 5 of R298 at the target: the status of the first that fails. -/
def State.refusal (s : State) (c : Cmd) : Option Nat :=
  if c.opcode = 0x20 ∨ c.opcode = 0x21 then none
  else if 0xF0 ≤ c.opcode && s.vendorLocked then some 0x18
  else if !s.owner c then some 0x12
  else if !s.wellFormed c then some 0x16
  else none

/-! ### Starting (R278) and forwarding (R318, R332) -/

/-- A command is finished, or has started. -/
def Cmd.begun (c : Cmd) : Bool := c.done || c.started.isSome

/-- An ABORT of the same queue pair accepted before the command is undecided: it is an unfinished command of the master and of
group 0x00 (R278, R297). -/
def State.abortBefore (s : State) (c : Cmd) : Bool := (s.qp c.qp).aborts.any (fun r => decide (r.ord < c.ord))

/-- The command may start (R278). -/
def State.startable (s : State) (c : Cmd) : Bool :=
  let fence := c.flags / 2 % 2 == 1
  c.ring.isSome ||
    ((s.cmds.filter (fun x => x.qp == c.qp && decide (x.ord < c.ord))).all (fun x =>
      x.begun && (x.done || !((x.target == c.target && x.opcode / 16 == c.opcode / 16) || fence)))
    && !((fence || (decide (c.opcode < 16) && c.target == 0)) && s.abortBefore c))

/-- The command starts. -/
def State.start (s : State) (c : Cmd) : State := s.modCmd c.ord (fun c => { c with started := some s.time })

/-- The master keeps which forwarded arming commands asked for CIRQ (R283). -/
def State.noteArm (s : State) (c : Cmd) : State :=
  if c.opcode = 0x20 ∨ c.opcode = 0x21 then
    let k := (c.target, c.qp, c.seq)
    { s with ring := { s.ring with irqArms := (s.ring.irqArms.filter (fun x => x != k)) ++ (if c.flags / 4 % 2 = 1 then [k] else []) } }
  else s

/-- A CMD frame carries the command to its target (R332). -/
def State.forward (s : State) (c : Cmd) : State :=
  ((s.modCmd c.ord (fun c => { c with sentAt := s.time })).noteArm c).sendOn false 0x10 c.target (s.tage c.ent) 36 (c.qp + c.descriptor * 2 ^ 32)

/-- The command executes on this device. -/
def State.here (_s : State) (c : Cmd) : Bool := c.ring.isSome || decide (c.target = 0 ∨ c.target = 4095)

/-- A command of the buffer as it stands now. -/
def State.cmdOf (s : State) (o : Nat) : Option Cmd := s.cmds.find? (fun c => c.ord = o && !c.done)

/-- The command as it stands once it has started. -/
def State.go (s : State) (c : Cmd) : Cmd := { c with started := some s.time }

/-- A started command is judged here, and `f` runs where nothing refuses it (R298). -/
def State.vetted (s : State) (c : Cmd) (f : State → Cmd → State) : State :=
  match s.refusal c with
  | some st => s.finish c st 0
  | none => f s c

/-- A command that has just started: for a slave it is forwarded, for every device forwarded and judged here as well (R319). -/
def State.launch (s : State) (c : Cmd) (f : State → Cmd → State) : State :=
  if !s.here c then s.forward c
  else (if c.target = 4095 && c.ring.isNone && decide (1 < s.devices) then s.forward c else s).vetted c f

/-- The command in entry `e`, if its opcode is `lo` to `hi`: it starts when it may, is judged, and `f` runs; a command that
has started goes on with `f`. -/
def State.command (s : State) (lo hi e : Nat) (f : State → Cmd → State) : State :=
  match s.cmdAt e with
  | some c =>
    if c.opcode < lo ∨ hi < c.opcode then s
    else if c.started.isSome then (if s.here c && !c.replies.any (fun r => r.1 = 0) then f s c else s)
    else if !s.startable c then s
    else (s.start c).launch (s.go c) f
  | none => s

/-- NOP (R300). -/
def execNop (e : Fin 64) (s : State) : Host.Outcome State Fault Refusal := execute (fun s => s.command 0 0 e (fun s c => s.finish c 0 0)) s

/-- The command runs, in part or whole, on the device FENCE names. -/
def Cmd.runsOn (x : Cmd) (c : Cmd) : Bool := c.ring.isSome || x.target == c.target || x.target == 4095

/-- Every command FENCE waits for has finished, the undecided ABORTs of a queue pair of the master among them (R279). -/
def State.fenced (s : State) (c : Cmd) : Bool :=
  let all := c.byte 8 % 2 == 1
  s.cmds.all (fun x => x.done || decide (c.ord ≤ x.ord) || (if all then !x.runsOn c else x.qp != c.qp))
    && (if all && c.target == 0 then below 32 else [c.qp]).all (fun q => (s.qp q).aborts.all (fun r => decide (c.ord < r.ord)))

/-- FENCE for a slave goes there when the commands it waits for have finished, or at once where its operands are malformed. -/
def State.fenceAway (s : State) (c : Cmd) : State :=
  if c.phase = 0 && (s.fenced c || !s.wellFormed c) then (s.modCmd c.ord (fun c => { c with phase := 1 })).forward c else s

/-- FENCE (R279): it starts in its turn, is judged, and finishes when the commands it waits for have. -/
def State.fence (s : State) (e : Nat) : State :=
  match s.cmdAt e with
  | some c =>
    if c.opcode ≠ 2 then s
    else if s.here c then s.command 2 2 e (fun s c => if s.fenced c then s.finish c 0 0 else s)
    else if c.started.isSome then s.fenceAway c
    else if s.startable c then (s.start c).fenceAway (s.go c)
    else s
  | none => s

def execFence (e : Fin 64) (s : State) : Host.Outcome State Fault Refusal := execute (fun s => s.fence e) s

/-! ### Abort (R284, R285, R336) -/

/-- The commit point is the acceptance: of a FENCE, and of a command to every device (Table 11.1). -/
def Cmd.atAcceptance (c : Cmd) : Bool := c.target == 4095 || c.opcode == 2

/-- The command's commit point is reached (Table 11.1). -/
def Cmd.past (c : Cmd) : Bool :=
  c.done || c.atAcceptance ||
    (if c.opcode = 0x20 ∨ c.opcode = 0x21 then false else if c.opcode = 0x22 then c.committed else c.started.isSome)

/-- A command that has been forwarded: its commit point is judged at its slave (R318, R336). -/
def State.away (s : State) (c : Cmd) : Bool := !s.here c && c.started.isSome && !c.done && !c.atAcceptance

/-- The victim of an ABORT: the newest in flight with the TAG, or the one with the SEQ. -/
def State.victim (s : State) (q : Nat) (r : AbortRq) : Option Cmd :=
  let m := fld r.ops 15 0
  let l := s.cmds.filter (fun c => c.qp = q && decide (c.ord < r.ord) && (if bit r.ops 16 then c.seq == m else c.tag == m))
  l.foldl (fun b c => match b with | some x => if x.ord < c.ord then some c else some x | none => some c) none

/-- An ABORT leaves those of its queue pair that are undecided. -/
def State.abortDrop (s : State) (q : Nat) (r : AbortRq) : State :=
  s.setQp q { s.qp q with aborts := (s.qp q).aborts.filter (fun x => x.ord ≠ r.ord) }

/-- The ABORT's own completion, written after that of the victim named last, if any; the ABORT is decided. -/
def State.abortDone (s : State) (q : Nat) (r : AbortRq) (src status seq : Nat) (found : Bool) (after : Option Nat := none) : State :=
  (s.abortDrop q r).postAs { qp := q, opcode := 3, status := s.statusByte status, source := src, tag := r.tag, seq := r.seq, time := s.time
                             result := seq + (if found then 65536 else 0), irq := r.flags / 4 % 2 = 1, free := (s.qp q).drain, after := after }

/-- A victim ends ABORTED. -/
def State.abortCmd (s : State) (c : Cmd) : State :=
  (s.finishFrom c s.devAddr s.time 2 0).bump (rQP_CNT c.qp) 7 0

/-- The slave of a forwarded victim is told, and decides at its own F (R336). -/
def State.abortForward (s : State) (q : Nat) (r : AbortRq) (c : Cmd) : State :=
  (s.setQp q { s.qp q with aborts := (s.qp q).aborts.map (fun x =>
    if x.ord = r.ord then { x with fwd := some (c.ent, c.seq, c.target), at_ := s.time } else x) }).sendOn false 0x15 c.target (s.tage c.ent) 4 c.ent

/-- An ABORT at its acceptance or, `atF`, at F: refused for a reserved operand bit, passed on to a forwarded victim's slave, or
decided at F (Table 10.5). -/
def State.abortOne (s : State) (q : Nat) (atF : Bool) (r : AbortRq) : State :=
  if r.fwd.isSome then s
  else if fld r.ops 191 17 ≠ 0 then s.abortDone q r 0 0x16 0 false
  else
    match s.victim q r with
    | some c =>
      if s.away c then s.abortForward q r c
      else if !atF then s
      else if c.past then s.abortDone q r 0 3 c.seq true (some c.ord)
      else (s.abortCmd c).abortDone q r 0 2 c.seq true
    | none => if atF then s.abortDone q r 0 3 0xFFFF false else s

/-- ABORT: the descriptors taken are judged at their acceptance. -/
def State.abortTake (s : State) (q : Nat) : State := (s.qp q).aborts.foldl (fun s r => s.abortOne q false r) s

def execAbort (q : Fin 32) (s : State) : Host.Outcome State Fault Refusal := execute (fun s => s.abortTake q) s

/-- The present TIME is F of an ABORT accepted at `t`, the start of a frame after it (R285). -/
def State.isF (s : State) (t : Nat) : Bool := decide (s.time % 64 = 0 ∧ t < s.time)

/-- Every ABORT of QP[q] is decided at its F, oldest first. -/
def State.abortDecide (s : State) (q : Nat) : State :=
  (s.qp q).aborts.foldl (fun s r => if s.isF r.at_ then s.abortOne q true r else s) s

/-- A forwarded abort is decided on the slave: the victim's completion, then the ABORT's with the same TAGE (R336). -/
def State.abortHere (s : State) (r : FwdAbort) : State :=
  let post (s : State) (q status seq : Nat) (found : Bool) (after : Option Nat) : State :=
    s.post { qp := q, opcode := 3, status := s.statusByte status, time := s.time, result := seq + (if found then 65536 else 0)
             tage := some r.tage, after := after }
  match s.cmds.find? (fun c => c.ring.map Prod.snd == some r.tage) with
  | some c => if c.past then post s c.qp 3 c.seq true (some c.ord) else post (s.abortCmd c) c.qp 2 c.seq true none
  | none => post s 0 3 0xFFFF false none

/-- On a slave every forwarded abort is decided at its own F. -/
def State.abortSlave (s : State) : State :=
  let l := s.ring.aborts.filter (fun r => s.isF r.at_)
  l.foldl (fun s r => s.abortHere r) { s with ring := { s.ring with aborts := s.ring.aborts.filter (fun r => !s.isF r.at_) } }

def execAbortDecision (q : Fin 32) (s : State) : Host.Outcome State Fault Refusal :=
  execute (fun s => if s.master then s.abortDecide q else s.abortSlave) s

/-- VENDOR_TEST (R317): refused on a locked part and to a queue pair that is not full; on any other its effect is not part of the
manual. -/
def execVendorTest (e : Fin 64) (s : State) : Host.Outcome State Fault Refusal :=
  match s.cmdAt e with
  | some c =>
    if s.live && decide (0xF0 ≤ c.opcode) && s.here c && (s.refusal c).isNone && c.started.isNone && s.startable c then .refused .vendorEffect
    else execute (fun s => s.command 0xF0 0xFF e (fun s _ => s)) s
  | none => execute (fun s => s) s

end Sys2Proof.Machine
end

