-- ==== Sys2Proof/Machine/Ecc.lean ====
section
/-! DEFINITION. The nibble-symbol code of every stored word (R413, R414). -/

namespace Sys2Proof.Machine

/-- A symbol: an element of GF(16), built on x⁴ + x + 1. -/
abbrev Sym := BitVec 4

/-- A symbol times α, the root of the polynomial. -/
def gfDbl (x : Sym) : Sym := (x <<< 1) ^^^ (if x.msb then 3 else 0)

/-- The product of two symbols. -/
def gfMul (x y : Sym) : Sym :=
  (if y.getLsbD 0 then x else 0) ^^^ (if y.getLsbD 1 then gfDbl x else 0) ^^^ (if y.getLsbD 2 then gfDbl (gfDbl x) else 0)
    ^^^ (if y.getLsbD 3 then gfDbl (gfDbl (gfDbl x)) else 0)

/-- αⁿ. -/
def gfPow : Nat → Sym
  | 0 => 1
  | n + 1 => gfDbl (gfPow n)

/-- Symbol i of a codeword (Table 16.1). -/
def symAt (c : Codeword) (i : Nat) : Sym := BitVec.ofNat 4 (c.toNat / 16 ^ i)

/-- S_k over the first `n` symbols. -/
def synd (c : Codeword) (k : Nat) : Nat → Sym
  | 0 => 0
  | n + 1 => synd c k n ^^^ gfMul (symAt c n) (gfPow (k * n))

/-- The syndrome S_k (R413). -/
abbrev syndrome (c : Codeword) (k : Nat) : Sym := synd c k 13

/-- The codeword of a memory word: the check symbols solve the three syndrome equations. -/
def eccEncode (w : MemWord) : Codeword :=
  let d : Codeword := w.setWidth 52
  let s0 := synd d 0 10
  let s1 := synd d 1 10
  let s2 := synd d 2 10
  let c10 := gfMul 12 s0 ^^^ gfMul 13 s1 ^^^ gfMul 13 s2
  let c11 := gfMul 5 s0 ^^^ gfMul 3 s1 ^^^ gfMul 2 s2
  let c12 := gfMul 8 s0 ^^^ gfMul 14 s1 ^^^ gfMul 15 s2
  (c12 ++ c11 ++ c10 ++ w : BitVec 52)

/-- What a read finds (R414). -/
inductive Read where
  | plain
  | corrected
  | uncorrectable
deriving DecidableEq, Repr

/-- The symbol a single-symbol error lies in: S1 = S0·αⁱ, i from 0 to 12. -/
def errSym (s0 s1 : Sym) : Option Nat := (List.range 13).find? (fun i => gfMul s0 (gfPow i) == s1)

/-- A read of a codeword: the codeword as corrected, and what the read was. -/
def eccRead (c : Codeword) : Codeword × Read :=
  let s0 := syndrome c 0
  let s1 := syndrome c 1
  let s2 := syndrome c 2
  if s0 = 0 ∧ s1 = 0 ∧ s2 = 0 then (c, .plain)
  else if s0 ≠ 0 ∧ gfMul s1 s1 = gfMul s0 s2 then
    match errSym s0 s1 with
    | some i => (c ^^^ (s0.setWidth 52 <<< (4 * i)), .corrected)
    | none => (c, .uncorrectable)
  else (c, .uncorrectable)

/-- The data of a read: bits 39:0. -/
def eccData (c : Codeword) : MemWord := (eccRead c).1.setWidth 40

end Sys2Proof.Machine
end

