-- ==== Sys2Proof/Machine/Journal.lean ====
section
/-! DEFINITION. The crumb journal (R418 to R427): the nonvolatile array, crumbs, the scan at start-up, commits, compaction,
restoring state and the flush of a supply dip. -/

namespace Sys2Proof.Machine

/-! ### The array (R418) -/

/-- The journal's state replaced. -/
def State.setJrn (s : State) (j : Jrn) : State := { s with jrn := j }

/-- Word `w` of BANK[b] as stored; beyond the bank there is nothing to decode. -/
def State.nvRead (s : State) (b w : Nat) : MemWord × Read :=
  if w < 65536 then (eccData (tabGet 0 s.jrn.nv (65536 * b + w)), (eccRead (tabGet 0 s.jrn.nv (65536 * b + w))).2) else (0, .uncorrectable)

/-- `n` words from `w`. -/
def State.nvWords (s : State) (b w n : Nat) : List (MemWord × Read) := (below n).map (fun i => s.nvRead b (w + i))

/-- An error is noted: MEM_STAT.UNC and MEM_LAST (R416, R417). -/
def State.memNote (s : State) (unc : Bool) (id word_ : Nat) : State :=
  let s := if unc then s.setRb rMEM_STAT 31 true else s
  s.setReg rMEM_LAST (word [(31, 31, unc.toNat), (20, 16, id), (15, 0, word_)])

/-- Reads of the array are counted in NV_CNT. -/
def State.nvCount (s : State) (w : Nat) (l : List (MemWord × Read)) : State :=
  ((below l.length).zip l).foldl (fun s p =>
    match p.2.2 with
    | .plain => s
    | .corrected => (s.bump rNV_CNT 31 16).memNote false 13 (w + p.1)
    | .uncorrectable => (s.bump rNV_CNT 15 0).memNote true 13 (w + p.1)) s

/-- A word is written. -/
def State.nvWrite (s : State) (b w : Nat) (c : Codeword) : State :=
  s.setJrn { s.jrn with nv := tabSet 0 s.jrn.nv (65536 * b + w) c }

/-! ### Crumbs (R419) -/

/-- The words of a crumb: HEADER with the CRC, SEQ, payload, COMMIT (Table 16.4). -/
def crumbWords (kind key seq : Nat) (pay : List MemWord) : List MemWord :=
  let body := BitVec.ofNat 40 (seq % 2 ^ 32) :: pay
  BitVec.ofNat 40 (pack [(39, 32, kind), (31, 24, pay.length), (23, 16, key), (15, 0, crc16Words body)]) :: body
    ++ [BitVec.ofNat 40 (pack [(39, 32, 0x5A), (31, 0, seq)])]

/-- A crumb is valid. -/
def crumbValid (l : List (MemWord × Read)) : Bool :=
  let w := l.map Prod.fst
  l.all (fun p => p.2 != .uncorrectable) &&
    (match w, w.getLast? with
     | h :: q :: _, some m => fld m 39 32 == 0x5A && fld m 31 0 == fld q 31 0 && crc16Words (w.tail.dropLast) == fld h 15 0
     | _, _ => false)

/-- The crumb that begins at word `w`, if it is valid. -/
def State.crumbAt (s : State) (b w : Nat) : Option Crumb :=
  let h := (s.nvRead b w).1
  let n := fld h 31 24
  let l := s.nvWords b w (n + 3)
  if 1 ≤ n && n ≤ 90 && crumbValid l then
    some { kind := fld h 39 32, key := fld h 23 16, seq := fld ((l.getD 1 (0, .plain)).1) 31 0, at_ := w, len := n }
  else none

/-- The payload of a crumb of BANK[b]. -/
def State.payload (s : State) (b : Nat) (c : Crumb) : List MemWord := (s.nvWords b (c.at_ + 2) c.len).map Prod.fst

/-- What a scan finds (R422): the valid crumbs, the append point, whether it was torn, the crumbs skipped. -/
structure Found where
  crumbs : List Crumb := []
  append : Nat := 65536
  torn : Bool := false
  invalid : Nat := 0
  /-- The words read, with the first word of each run. -/
  reads : List (Nat × List (MemWord × Read)) := []
deriving DecidableEq, Repr

/-- The scan of BANK[b] from word `w`. -/
def State.scanFrom (s : State) (b : Nat) : Nat → Nat → Found → Found
  | 0, _, f => f
  | fuel + 1, w, f =>
    if 65536 ≤ w then { f with append := 65536 }
    else
      let h := s.nvRead b w
      let n := fld h.1 31 24
      if h.2 = .uncorrectable then { f with torn := true, reads := (w, [h]) :: f.reads }
      else if h.1 = 0 then { f with append := w, reads := (w, [h]) :: f.reads }
      else if n = 0 ∨ 90 < n then { f with torn := true, reads := (w, [h]) :: f.reads }
      else
        let f := { f with reads := (w, s.nvWords b w (min (n + 3) (65536 - w))) :: f.reads }
        s.scanFrom b fuel (w + n + 3) (match s.crumbAt b w with
          | some c => { f with crumbs := f.crumbs ++ [c] }
          | none => { f with invalid := f.invalid + 1 })

/-- The whole scan of a bank. -/
def State.scan (s : State) (b : Nat) : Found := s.scanFrom b 65536 8 {}

/-- A bank's header: GEN, ERASES, crumbs copied (R423). -/
def State.bankHeader (s : State) (b : Nat) : Option (Nat × Nat × Nat) :=
  match s.crumbAt b 0 with
  | some c => if c.kind = 0xFF ∧ c.len = 3 then
      let p := s.payload b c
      some (fld (p.getD 0 0) 31 0, fld (p.getD 1 0) 31 0, (p.getD 2 0).toNat)
    else none
  | none => none

/-- `a` is ahead of `b` in 32-bit serial order. -/
def serialAhead (a b : Nat) : Bool := let d := (a + 2 ^ 32 - b) % 2 ^ 32; decide (0 < d) && decide (d < 2 ^ 31)

/-- Only the latest crumb of every KIND and KEY. -/
def latestOnly (l : List Crumb) : List Crumb :=
  l.foldl (fun a c => a.filter (fun x => !(x.kind == c.kind && x.key == c.key)) ++ [c]) []

/-- The latest valid crumb of a KIND and KEY. -/
def State.crumbOf (s : State) (kind key : Nat) : Option Crumb := s.jrn.crumbs.find? (fun c => c.kind == kind && c.key == key)

/-! ### Device objects (Table 16.5) -/

/-- The fingerprint of a domain's tooth table (R424). -/
def State.fingerprint (s : State) (d : Nat) : Nat :=
  let x := s.dom d
  crc32 (bytesLE 5 x.tableLen ++ bytesLE 5 x.zeroOfs ++ (below x.tableLen).flatMap (fun i => bytesLE 5 (s.tooth d i).toNat))

/-- Word 0 of a correction crumb: TABLE_LEN − 1 and the low 30 bits of the fingerprint. -/
def State.corrTag (s : State) (d : Nat) : MemWord :=
  BitVec.ofNat 40 (pack [(39, 30, (s.dom d).tableLen + 1023), (29, 0, s.fingerprint d)])

/-- A saturating 40-bit word. -/
def satWord (n : Nat) : MemWord := BitVec.ofNat 40 (min n (2 ^ 40 - 1))

/-- ACT[a]'s lifetime log as a payload. -/
def ActLog.words (l : ActLog) : List MemWord :=
  let part (i n : Nat) : MemWord := BitVec.ofNat 40 (ofBytesLE ((l.faults.drop i |>.take n).map (BitVec.ofNat 8 ·)))
  [satWord l.shots, satWord (l.onTime / 1000000), part 0 5, part 5 5, part 10 4]

/-- The device log as a payload. -/
def DevLog.words (l : DevLog) : List MemWord :=
  [satWord l.resets, satWord (l.runNs / 1000000000), satWord l.safes,
   BitVec.ofNat 40 (pack [(9, 0, l.temps.getD 0 0), (19, 10, l.temps.getD 1 0), (29, 20, l.temps.getD 2 0), (39, 30, l.temps.getD 3 0)])]

/-- The payload a device object would have now. -/
def State.object (s : State) (kind key : Nat) : List MemWord :=
  match kind with
  | 1 => s.corrTag (key / 16) :: (below 64).map (fun i => tabGet 0 s.corrs (1024 * (key / 16) + 64 * (key % 16) + i))
  | 2 => (below 48).map (fun i => (s.reg (rLANE_TRIM (48 * key + i))).setWidth 40)
  | 3 => (below 16).map (fun w => s.fbWord key w)
  | 4 => (s.actLog key).words
  | 5 => s.devLog.words
  | _ => []

/-- What word `w` of the fuse block decoded to at the last reset (R432). -/
def State.fuseWord (s : State) (w : Nat) : MemWord := tabGet 0 s.fuses.decoded w

/-- The factory trim of LANE[n] (Table 16.8). -/
def State.factoryTrim (s : State) (n : Nat) : Word :=
  let t := n / 48
  let cur := fld (s.fuseWord (3 + n / 2)) (16 * (n % 2) + 15) (16 * (n % 2))
  let vd := fld (s.fuseWord (99 + t / 2)) (16 * (t % 2) + 15) (16 * (t % 2))
  word [(31, 16, cur), (15, 0, vd)]

/-- The object differs from its latest crumb (R421); a correction segment exists while the domain's table is valid. -/
def State.differs (s : State) (kind key : Nat) : Bool :=
  if kind = 1 && !((s.dom (key / 16)).tableValid && decide (64 * (key % 16) < (s.dom (key / 16)).tableLen)) then false
  else match s.crumbOf kind key with
    | some c => s.object kind key != s.payload s.jrn.live c
    | none =>
      if kind = 1 then (s.object 1 key).tail.any (fun w => w != 0)
      else if kind = 2 then (below 48).any (fun i => s.reg (rLANE_TRIM (48 * key + i)) != s.factoryTrim (48 * key + i))
      else (s.object kind key).any (fun w => w != 0)

/-- The device objects, in the order of a dip's flush (R427). -/
def jrnObjects : List (Nat × Nat) :=
  (5, 0) :: (below 96).map (fun a => (4, a)) ++ (below 96).map (fun a => (3, a)) ++ (below 64).map (fun g => (1, g)) ++ (below 4).map (fun t => (2, t))

/-- The key of an object in `since`. -/
def objKey (kind key : Nat) : Nat := 256 * kind + key

/-- At each frame start: which objects are pending, and since when (log entry 44). -/
def State.jrnNote (s : State) : State :=
  s.setJrn { s.jrn with since := jrnObjects.foldl (fun (t : Tab Nat) (o : Nat × Nat) =>
    let k := objKey o.1 o.2
    if s.differs o.1 o.2 then (if tabGet 0 t k = 0 then tabSet 0 t k (s.time + 1) else t) else tabSet 0 t k 0) s.jrn.since }

/-- An object is pending. -/
def State.isPending (s : State) (kind key : Nat) : Bool := tabGet 0 s.jrn.since (objKey kind key) != 0

/-- JRN_FILL.PENDING. -/
def State.jrnPending (s : State) : Nat :=
  s.jrn.since.length + (s.jrn.due.filter (fun d => 0x80 ≤ d.kind)).length
    + (match s.jrn.commit with | some c => if c.ord.isSome then 1 else 0 | none => 0)

/-! ### Commits (R420, R421) -/

/-- The next SEQ. -/
def State.nextSeq (s : State) : Nat := (s.jrn.topSeq + 1) % 2 ^ 32

/-- A commit begins: BUSY, and during a dip the hold switch is driven (R217, R427). -/
def State.commitOn (s : State) (c : Commit) : State :=
  let s := (s.setJrn { s.jrn with commit := some c }).setRb rJRN_STAT 30 true
  if s.dip then { s with holdArm := true } else s

/-- A JRN_WRITE ends for want of room (R314, R424). -/
def State.noRoom (s : State) (o : Nat) : State :=
  let s := s.setRb rJRN_STAT 3 true
  match s.cmdOf o with | some c => s.finish c 0x14 0 | none => s

/-- The payload of a crumb that has fallen due, and whether it fits at the append point. -/
def State.duePay (s : State) (d : Due) : List MemWord := if d.ord.isSome then d.words else s.object d.kind d.key
def State.dueFits (s : State) (d : Due) : Bool := decide (s.jrn.append + (s.duePay d).length + 3 ≤ 65536)

/-- The crumb begins at the append point; one that does not fit waits for a compaction, or has no room (R424). -/
def State.commitDue (s : State) (d : Due) : State :=
  let pay := s.duePay d
  let j := { s.jrn with due := s.jrn.due.filter (fun x => x != d) }
  if s.dueFits d then
    (s.setJrn j).commitOn { kind := d.kind, key := d.key, words := crumbWords d.kind d.key s.nextSeq pay, bank := j.live, at_ := j.append
                            seq := s.nextSeq, ord := d.ord }
  else if j.compact.isSome || j.want then s
  else match d.ord with
    | some o => (s.setJrn j).noRoom o
    | none => s.setJrn j

/-- Compaction starts: the other bank is to be erased. -/
def State.compactStart (s : State) (o : Option Nat) : State := s.setJrn { s.jrn with want := false, compact := some { ord := o } }

/-- A crumb is copied into the other bank with a fresh SEQ (R424). -/
def State.copyCrumb (s : State) (k : Compact) (c : Crumb) (rest : List Crumb) : State :=
  let c := (s.crumbOf c.kind c.key).getD c
  let j := s.jrn
  s.setJrn { j with
    compact := some { k with todo := rest }
    commit := some { kind := c.kind, key := c.key, words := crumbWords c.kind c.key s.nextSeq (s.payload j.live c), bank := 1 - j.live
                     at_ := k.at_, seq := s.nextSeq } }

/-- The header of the new bank is written (step 4). -/
def State.compactHead (s : State) : State :=
  let j := s.jrn
  let n := 1 - j.live
  let copied := match j.compact with | some k => k.copied.length | none => 0
  let pay : List MemWord := [BitVec.ofNat 40 ((j.gen + 1) % 2 ^ 32), BitVec.ofNat 40 (s.reg (rJRN_WEAR n)).toNat, BitVec.ofNat 40 copied]
  s.commitOn { kind := 0xFF, key := 0, words := crumbWords 0xFF 0 s.nextSeq pay, bank := n, at_ := 0, seq := s.nextSeq }

/-- The journal takes up its next work: a compaction that is wanted starts, and a crumb that has fallen due is committed, or the
compaction makes its next copy where none is due or the first does not fit before it (R420, R421, R424). In a
dip the commits of R427 begin at frame starts instead, and copying waits behind them. -/
def State.jrnNext (s : State) : State :=
  if s.jrn.commit.isSome then s
  else
    let held := match s.jrn.compact with | some k => decide (3 ≤ k.step) | none => false
    let s := if s.jrn.want && s.jrn.compact.isNone && decide (7 ≤ s.boot) then s.compactStart none else s
    match s.jrn.due.head?.filter (fun d => !held && !s.dip && (s.dueFits d || s.jrn.compact.isNone)) with
    | some d => s.commitDue d
    | none =>
      match s.jrn.compact with
      | none => s
      | some k =>
        if s.dip && (!s.jrn.due.isEmpty || !s.jrn.since.isEmpty) then s
        else if k.step = 1 then s
        else match k.todo with
          | c :: l => s.copyCrumb k c l
          | [] =>
            match k.later with
            | c :: l => s.copyCrumb { k with step := 3, later := [] } c l
            | [] => (s.setJrn { s.jrn with compact := some { k with step := 4 } }).compactHead

/-- A crumb of the live bank is committed. -/
def State.committed (s : State) (c : Commit) : State :=
  let new : Crumb := { kind := c.kind, key := c.key, seq := c.seq, at_ := c.at_, len := c.words.length - 3 }
  let j := s.jrn
  let j := { j with
    commit := none, crumbs := latestOnly (j.crumbs ++ [new]), append := c.at_ + c.words.length, topSeq := c.seq, dipFrom := s.time
    since := if c.ord.isSome then j.since else tabSet 0 j.since (objKey c.kind c.key) 0
    want := j.want || (decide (49152 ≤ c.at_ + c.words.length) && j.compact.isNone)
    compact := j.compact.map (fun k => if 2 ≤ k.step then { k with later := k.later ++ [new] } else k)
    flushes := j.flushes.map (fun f => if f.2.1.contains (c.kind, c.key) then (f.1, f.2.1.erase (c.kind, c.key), f.2.2 + 1) else f) }
  let s := ((s.setJrn j).setRb rJRN_STAT 30 false).bump rJRN_CNT 31 16
  let s := match c.ord with
    | some o => (match s.cmdOf o with | some x => s.finish x 0 c.seq | none => s)
    | none => s
  let done := s.jrn.flushes.filter (fun f => f.2.1.isEmpty)
  let s := done.foldl (fun s f => match s.cmdOf f.1 with | some x => s.finish x 0 f.2.2 | none => s) s
  s.setJrn { s.jrn with flushes := s.jrn.flushes.filter (fun f => !f.2.1.isEmpty) }

/-- A copy is in the other bank. -/
def State.copied (s : State) (c : Commit) (k : Compact) : State :=
  let new : Crumb := { kind := c.kind, key := c.key, seq := c.seq, at_ := c.at_, len := c.words.length - 3 }
  s.setJrn { s.jrn with
    commit := none, topSeq := c.seq, dipFrom := s.time
    compact := some { k with at_ := c.at_ + c.words.length, copied := latestOnly (k.copied ++ [new]) } }

/-- The new bank is live (R424 step 4). -/
def State.compacted (s : State) (c : Commit) (k : Compact) : State :=
  let j := s.jrn
  let s := s.setJrn { j with
    commit := none, topSeq := c.seq, dipFrom := s.time, live := 1 - j.live, gen := (j.gen + 1) % 2 ^ 32
    crumbs := k.copied, append := k.at_, compact := none }
  let s := (s.setRb rJRN_STAT 30 false).setRb rJRN_STAT 2 true
  match k.ord with
  | some o => (match s.cmdOf o with | some x => s.finish x 0 0 | none => s)
  | none => s

/-- A word fails its verify: it holds what the array kept of it, and the crumb is written again beyond its extent, or given up
after the third attempt (R420). A bank header that fails has its bank erased again (log entry 45). -/
def State.verifyFail (s : State) (c : Commit) : State :=
  let f := s.fresh
  let s := (f.2.nvWrite c.bank (c.at_ + c.done) (f.1.setWidth 52)).bump rJRN_CNT 15 8
  let past := c.at_ + c.words.length
  let j := s.jrn
  let other := c.bank != j.live
  let j := if other then { j with compact := j.compact.map (fun k => { k with at_ := past }) } else { j with append := past }
  if c.kind = 0xFF then
    let again := s.jrn.compact.map (fun (k : Compact) => { k with step := 1, sectors := 0, at_ := 8, todo := [], later := [], copied := [] })
    (((s.setJrn { s.jrn with commit := none, dipFrom := s.time, compact := again }).setRb rJRN_STAT 30 false).setRb rJRN_STAT 1 true).jrnNext
  else if c.tries < 2 ∧ past + c.words.length ≤ 65536 then
    s.setJrn { j with commit := some { c with at_ := past, done := 0, tries := c.tries + 1 } }
  else
    let j := { j with
      commit := none, dipFrom := s.time, want := j.want || (decide (49152 ≤ j.append) && j.compact.isNone)
      due := if other then j.due else j.due ++ [{ kind := c.kind, key := c.key, ord := c.ord, words := if c.ord.isSome then (c.words.drop 2).dropLast else [] }]
      compact := if other then j.compact.map (fun k => { k with later := k.later ++ (s.crumbOf c.kind c.key).toList }) else j.compact }
    (((s.setJrn j).setRb rJRN_STAT 30 false).setRb rJRN_STAT 1 true).jrnNext

/-- CRUMB_WORD_WRITTEN: `ok` the verify passed. -/
def State.wordWritten (s : State) (ok : Bool) : State :=
  match s.jrn.commit with
  | none => s
  | some c =>
    if !ok then s.verifyFail c
    else
      let s := s.nvWrite c.bank (c.at_ + c.done) (eccEncode (c.words.getD c.done 0))
      let c := { c with done := c.done + 1 }
      if c.done < c.words.length then s.setJrn { s.jrn with commit := some c }
      else match s.jrn.compact with
        | some k => if c.bank = s.jrn.live then (s.committed c).jrnNext
                    else if c.kind = 0xFF then (s.compacted c k).jrnNext else (s.copied c k).jrnNext
        | none => (s.committed c).jrnNext

def execCrumbWordWritten (ok : Bool) (s : State) : Host.Outcome State Fault Refusal := execute (fun s => s.wordWritten ok) s

/-- The object the flush of a dip commits next (R427). -/
def State.dipFirst (s : State) : Option (Nat × Nat) := jrnObjects.find? (fun o => s.isPending o.1 o.2)

/-- The new bank's header is being written: no other commit begins. -/
def State.heading (s : State) : Bool := match s.jrn.compact with | some k => decide (k.step = 4) | none => false

/-- CRUMB_DUE: an object pending for AUTO_INT seconds, or, at a frame start of a dip, the next of the flush. -/
def State.crumbDue (s : State) (kind key : Nat) : State :=
  if s.dip then
    if s.time % 64 ≠ 0 ∨ s.jrn.commit.isSome = true ∨ s.time ≤ s.jrn.dipFrom ∨ s.heading = true then s
    else match s.dipFirst with
      | some o => if o = (kind, key) then s.commitDue { kind := kind, key := key } else s
      | none => (match s.jrn.due with | d :: _ => if d.kind = kind ∧ d.key = key then s.commitDue d else s | [] => s)
  else
    let t := tabGet 0 s.jrn.since (objKey kind key)
    let busy := s.jrn.due.any (fun d => d.kind == kind && d.key == key)
      || (match s.jrn.commit with | some c => c.kind == kind && c.key == key | none => false)
    if 1 ≤ kind ∧ kind ≤ 5 ∧ s.rb rJRN_CFG (26 + kind) = true ∧ t ≠ 0 ∧ busy = false
        ∧ t - 1 + 1000000000 * max 1 (s.rf rJRN_CFG 15 8) < s.time + 4 then
      (s.setJrn { s.jrn with due := s.jrn.due ++ [{ kind := kind, key := key }] }).jrnNext
    else s

def execCrumbDue (kind key : Fin 256) (s : State) : Host.Outcome State Fault Refusal := execute (fun s => s.crumbDue kind key) s

/-- SECTOR_ERASE_DONE: a sector of the other bank is erased; with the last of 64 the copying begins (R424 steps 1 and 2). -/
def State.sectorErased (s : State) : State :=
  match s.jrn.compact with
  | some k =>
    if k.step ≠ 1 ∨ s.dip = true then s
    else
      let n := 1 - s.jrn.live
      let s' := s.setJrn { s.jrn with nv := tabClear (65536 * n + 1024 * k.sectors) (65536 * n + 1024 * (k.sectors + 1)) s.jrn.nv
                                      compact := some { k with sectors := k.sectors + 1 } }
      let s' := if k.sectors = 0 then
          let e := match s.bankHeader n with | some h => h.2.1 + 1 | none => (s.reg (rJRN_WEAR s.jrn.live)).toNat + 1
          let s' := s'.setReg (rJRN_WEAR n) (BitVec.ofNat 32 e)
          if 90000 < e then s'.setRb rJRN_STAT 6 true else s'
        else s'
      if k.sectors + 1 < 64 then s'
      else (s'.setJrn { s'.jrn with compact := some { k with step := 2, sectors := 64, todo := s.jrn.crumbs } }).jrnNext
  | none => s

def execSectorEraseDone (s : State) : Host.Outcome State Fault Refusal := execute State.sectorErased s

/-- A reset or a loss of power cuts what the array is doing: a word or a sector part done holds an unknown value (R425). -/
def State.jrnCut (s : State) : State :=
  let s := match s.jrn.commit with
    | some c => let f := s.fresh; f.2.nvWrite c.bank (c.at_ + c.done) (f.1.setWidth 52)
    | none => s
  match s.jrn.compact with
  | some k =>
    if k.step = 1 then
      let lo := 65536 * (1 - s.jrn.live) + 1024 * k.sectors
      (s.jrn.nv.filter (fun p => lo ≤ p.1 && p.1 < lo + 1024)).foldl (fun s p =>
        let f := s.fresh
        f.2.setJrn { f.2.jrn with nv := tabSet 0 f.2.jrn.nv p.1 (f.1.setWidth 52) }) s
    else s
  | none => s

/-! ### Start-up (R422, R423, R426) -/

/-- Neither bank has a valid header: BANK[0] is erased and given one with GEN 1 (R423). -/
def State.jrnFormat (s : State) (seq : Nat) : State :=
  let s := s.setJrn { s.jrn with nv := tabClear 0 65536 s.jrn.nv }
  let w := crumbWords 0xFF 0 seq [1, 1, 0]
  ((below 6).foldl (fun s i => s.nvWrite 0 i (eccEncode (w.getD i 0))) s).setRb rJRN_STAT 7 true

/-- The fault of a feedback table against R187 and a correction limit in 512 ns units: the word and the reason (Table 6.6). -/
def fbFault (get : Nat → MemWord) (clim : Nat) : Option (Nat × Nat) :=
  let n := ((below 8).takeWhile (fun j => fld (get j) 39 20 != 0)).length
  let bad (w : Nat) : Option Nat :=
    let j := w % 8
    if w < 8 then
      (if j < n then (if 0 < j && decide (fld (get j) 39 20 ≤ fld (get (j - 1)) 39 20) then some 0x10 else none)
       else if n < 2 && j == n then some 0x10
       else if get w != 0 then some 0x11 else none)
    else if n ≤ j then (if get w != 0 then some 0x11 else none)
    else if fld (get w) 31 16 != 0 then some 0x11
    else if decide (128 * clim < (sgn 16 (fld (get w) 15 0)).natAbs) then some 0x12
    else none
  (below 16).findSome? (fun w => (bad w).map (fun r => (w, r)))

/-- JRN_CFG.RESTORE for a kind, and the payload of the latest crumb of a KIND and KEY to restore. -/
def State.restoring (s : State) (kind key : Nat) : Option (List MemWord) :=
  if s.rb rJRN_CFG (21 + kind) then (s.crumbOf kind key).map (fun c => s.payload s.jrn.live c) else none

/-- The lane trims of TRAY[t] replace the factory trims (R426). -/
def State.restoreTrims (s : State) (t : Nat) : State :=
  match s.restoring 2 t with
  | some p => (below 48).foldl (fun (s : State) i => s.setReg (rLANE_TRIM (48 * t + i)) ((p.getD i 0).setWidth 32)) s
  | none => s

/-- ACT[a]'s feedback table is loaded if it passes. -/
def State.restoreFb (s : State) (a : Nat) : State :=
  match s.restoring 3 a with
  | some p =>
    if (fbFault (fun w => p.getD w 0) (fld (resetOf (rSFB_ACT a)) 21 14)).isNone then
      { s with fbs := (below 16).foldl (fun (t : Tab MemWord) w => tabSet 0 t (16 * a + w) (p.getD w 0)) s.fbs }
    else s.bump rJRN_CNT 7 0
  | none => s

/-- ACT[a]'s lifetime counts resume. -/
def State.restoreLog (s : State) (a : Nat) : State :=
  match s.restoring 4 a with
  | some p =>
    let b (w n : Nat) : List Nat := (bytesLE n (p.getD w 0).toNat).map BitVec.toNat
    s.setActLog a { shots := (p.getD 0 0).toNat, onTime := 1000000 * (p.getD 1 0).toNat, faults := b 2 5 ++ b 3 5 ++ b 4 4 }
  | none => s

/-- The device log resumes. -/
def State.restoreDev (s : State) : State :=
  match s.restoring 5 0 with
  | some p => { s with devLog := { resets := (p.getD 0 0).toNat, runNs := 1000000000 * (p.getD 1 0).toNat, safes := (p.getD 2 0).toNat
                                   temps := (below 4).map (fun t => fld (p.getD 3 0) (10 * t + 9) (10 * t)) } }
  | none => s

/-- State is restored before start-up is complete (R426). -/
def State.restore (s : State) : State :=
  let s := (below 4).foldl State.restoreTrims s
  let s := (below 96).foldl State.restoreFb s
  ((below 96).foldl State.restoreLog s).restoreDev

/-- The bank that is live at start-up (R423); none where neither has a valid header. -/
def liveBank (h0 h1 : Option (Nat × Nat × Nat)) : Option Nat :=
  match h0, h1 with
  | some a, some b => some (if serialAhead b.1 a.1 then 1 else 0)
  | some _, none => some 0
  | none, some _ => some 1
  | none, none => none

/-- The highest SEQ of any valid crumb in either bank (R420). -/
def State.seqTop (s : State) (f0 f1 : Found) : Nat :=
  let heads := ((s.crumbAt 0 0).toList ++ (s.crumbAt 1 0).toList).filter (fun c => c.kind == 0xFF)
  ((heads ++ f0.crumbs ++ f1.crumbs).map (fun c => c.seq)).foldl max 0

/-- The journal takes over what the scan of its live bank found, the header being `h`. -/
def State.jrnTake (s : State) (live top : Nat) (f : Found) (h : Nat × Nat × Nat) : State :=
  let s := f.reads.reverse.foldl (fun (s : State) r => s.nvCount r.1 r.2) s
  let s := s.setJrn { s.jrn with
    crumbs := latestOnly f.crumbs, append := if f.torn then 65536 else f.append, live := live, gen := h.1, topSeq := top
    want := f.torn || decide (49152 ≤ f.append) }
  let s := if f.torn then s.setRb rJRN_STAT 4 true else s
  s.bumpN rJRN_CNT 7 0 f.invalid

/-- The erase counts shown come from the bank headers. -/
def State.jrnWear (s : State) : State :=
  (below 2).foldl (fun (s : State) b => s.setReg (rJRN_WEAR b) (BitVec.ofNat 32 ((s.bankHeader b).getD (0, 0, 0)).2.1)) s

/-- JOURNAL_SCAN: the live bank is chosen and scanned, and state is restored; the reset itself joins the device log. -/
def State.jrnStart (s : State) : State :=
  let s := s.setJrn { nv := s.jrn.nv }
  let f0 := s.scan 0
  let f1 := s.scan 1
  let top := s.seqTop f0 f1
  let s := match liveBank (s.bankHeader 0) (s.bankHeader 1) with
    | some b => s.jrnTake b top (if b = 0 then f0 else f1) ((s.bankHeader b).getD (1, 0, 0))
    | none => (s.jrnFormat ((top + 1) % 2 ^ 32)).jrnTake 0 ((top + 1) % 2 ^ 32) { append := 8 } (1, 1, 0)
  let s := s.jrnWear.restore
  { s with devLog := { s.devLog with resets := s.devLog.resets + 1 } }

/-- Kind 0x01 is restored when a domain's tooth table is committed (R426); an entry beyond its bound becomes zero. -/
def State.restoreCorr (s : State) (d : Nat) : State :=
  if !s.rb rJRN_CFG 22 then s
  else (below 16).foldl (fun s g => match s.crumbOf 1 (16 * d + g) with
    | some c =>
      let p := s.payload s.jrn.live c
      if p.getD 0 0 = s.corrTag d then
        { s with corrs := (below 64).foldl (fun (t : Tab MemWord) i =>
            let e := 64 * g + i
            let w := p.getD (i + 1) 0
            let v := sgn 16 (fld w 15 0)
            tabSet 0 t (1024 * d + e) (if teSync (s.tooth d e) || decide (s.corrBound d e < v.natAbs) then 0 else w)) s.corrs }
      else s
    | none => s) s

/-! ### Commands (R314) -/

/-- JRN_FLUSH: every crumb pending now is to be committed. -/
def State.jrnFlush (s : State) (c : Cmd) : State :=
  if c.phase ≠ 0 then s
  else
    let objs := jrnObjects.filter (fun o => s.differs o.1 o.2)
    let busy := match s.jrn.commit with | some x => if x.bank = s.jrn.live && x.kind != 0xFF then [(x.kind, x.key)] else [] | none => []
    let all := busy ++ (objs.filter (fun o => !busy.contains o)) ++ ((s.jrn.due.filter (fun d => 0x80 ≤ d.kind)).map (fun d => (d.kind, d.key)))
    if all.isEmpty then s.finish c 0 0
    else
      let new := objs.filter (fun o => !s.jrn.due.any (fun d => d.kind == o.1 && d.key == o.2) && !busy.contains o)
      let s := s.modCmd c.ord (fun c => { c with phase := 1 })
      (s.setJrn { s.jrn with due := s.jrn.due ++ new.map (fun o => ({ kind := o.1, key := o.2 } : Due)), flushes := s.jrn.flushes ++ [(c.ord, all, 0)] }).jrnNext

def execJrnFlush (e : Fin 64) (s : State) : Host.Outcome State Fault Refusal := execute (fun s => s.command 0x90 0x90 e State.jrnFlush) s

/-- JRN_READ: words of the live bank, eight bytes each; an uncorrectable one is zero with bit 63 set. -/
def State.jrnRead (s : State) (c : Cmd) : State :=
  let first := c.opnd 16 19
  let n := c.opnd 20 21
  if c.phase = 0 then
    if !s.bufReady c.ord then s
    else
      let l := s.nvWords s.jrn.live first n
      let v := l.foldr (fun p (a : Nat) => a * 2 ^ 64 + (if p.2 = .uncorrectable then 2 ^ 63 else p.1.toNat)) 0
      let unc := (l.filter (fun p => p.2 == .uncorrectable)).length
      let s := ((s.nvCount first l).modCmd c.ord (fun c => { c with phase := 1, result := pack [(15, 0, n), (31, 16, unc)] })).bufWrite c.ord (c.opnd 8 15) (8 * n) v
      if s.bufReady c.ord then s.finish c 0 (pack [(15, 0, n), (31, 16, unc)]) else s
  else if c.failed then s.finish c 0x16 0
  else if s.bufReady c.ord then s.finish c 0 c.result
  else s

def execJrnRead (e : Fin 64) (s : State) : Host.Outcome State Fault Refusal := execute (fun s => s.command 0x91 0x91 e State.jrnRead) s

/-- The 40-bit words of a host image, eight bytes each. -/
def imageWords (n v : Nat) : List MemWord := (below n).map (fun i => BitVec.ofNat 40 (v / 2 ^ (64 * i)))

/-- JRN_WRITE: the image is read whole, then the crumb joins those due (R421). -/
def State.jrnWrite (s : State) (c : Cmd) : State :=
  let n := c.opnd 18 19
  match c.phase with
  | 0 => (s.modCmd c.ord (fun c => { c with phase := 1 })).fetchStart c.ord (c.opnd 8 15) (8 * n)
  | 1 =>
    if c.failed then s.finish c 0x16 0
    else if !c.ready then s
    else
      let s := s.modCmd c.ord (fun c => { c with phase := 2 })
      (s.setJrn { s.jrn with due := s.jrn.due ++ [{ kind := c.byte 16, key := 0, words := imageWords n c.data, ord := some c.ord }] }).jrnNext
  | _ => s

def execJrnWrite (e : Fin 64) (s : State) : Host.Outcome State Fault Refusal := execute (fun s => s.command 0x92 0x92 e State.jrnWrite) s

/-- JRN_COMPACT (R424). -/
def State.jrnCompact (s : State) (c : Cmd) : State :=
  if c.phase ≠ 0 then s
  else if s.jrn.compact.isSome then s.finish c 0x17 (0x08 * 2 ^ 32)
  else (s.modCmd c.ord (fun c => { c with phase := 1 })).compactStart (some c.ord)

def execJrnCompact (e : Fin 64) (s : State) : Host.Outcome State Fault Refusal := execute (fun s => s.command 0x93 0x93 e State.jrnCompact) s

/-! ### Registers (R434) -/

/-- JRN_STAT, JRN_FILL, JRN_GEN and JRN_SEQ as read. -/
def State.jrnStatRead (s : State) : Word := setBit (setBit (s.reg rJRN_STAT) 31 (s.jrn.live == 1)) 29 s.jrn.compact.isSome
def State.jrnFillRead (s : State) : Word := word [(31, 16, s.jrnPending), (15, 0, min s.jrn.append 65535)]

end Sys2Proof.Machine
end

