-- ==== Sys2Proof/Machine/Fuse.lean ====
section
/-! DEFINITION. Fuses and the protection map (R428 to R433), and the scrubber with the reactions to uncorrectable words
(R415 to R417, R321). -/

namespace Sys2Proof.Machine

/-! ### The map in fuse words and in the shadow (Tables 16.8 and 16.10) -/

/-- PM_ACT of an actuator's 13 fuse bits, and back. -/
def pmActOf (f : Nat) : Word :=
  word [(31, 29, f), (28, 28, f / 8), (27, 23, f / 16), (22, 19, 15 - f / 512 % 16)]
def fuseActOf (w : Word) : Nat := pack [(2, 0, fld w 31 29), (3, 3, fld w 28 28), (8, 4, fld w 27 23), (12, 9, 15 - fld w 22 19)]

/-- PM_GLOBAL of word 149, and back; a BST_MAX of 0 reads as 900. -/
def pmGlobalOf (f : Nat) : Word :=
  word [(31, 22, if f % 1024 = 0 then 900 else f), (21, 18, f / 2 ^ 10), (17, 17, f / 2 ^ 14), (16, 16, f / 2 ^ 15), (15, 14, f / 2 ^ 16)]
def fuseGlobalOf (w : Word) : Nat := pack [(9, 0, fld w 31 22), (13, 10, fld w 21 18), (14, 14, fld w 17 17), (15, 15, fld w 16 16), (17, 16, fld w 15 14)]

/-- The map word `w`, 111 to 152, as the shadow has it. -/
def State.shadowWord (s : State) (w : Nat) : MemWord :=
  BitVec.ofNat 40
    (if w < 143 then
      let a := 3 * (w - 111)
      pack [(12, 0, fuseActOf (s.reg (rPM_ACT a))), (25, 13, fuseActOf (s.reg (rPM_ACT (a + 1)))), (38, 26, fuseActOf (s.reg (rPM_ACT (a + 2))))]
    else if w < 148 then
      (below 40).foldl (fun n i => let l := 40 * (w - 143) + i; if l < 192 && s.rb (rPM_LANE (l / 32)) (l % 32) then n + 2 ^ i else n) 0
    else if w = 148 then (s.reg rPM_FULLQP).toNat
    else if w = 149 then fuseGlobalOf (s.reg rPM_GLOBAL)
    else
      (below 13).foldl (fun n i =>
        let p := 13 * (w - 150) + i
        let g := if p < 16 then s.rf rPM_PZ_GLO (2 * p + 1) (2 * p) else s.rf rPM_PZ_GHI (2 * (p - 16) + 1) (2 * (p - 16))
        if p < 32 then n + 2 ^ (3 * i) * ((s.rb rPM_PZ_EN p).toNat + 2 * g) else n) 0)

/-- The bit of a map word collected over indices: bit i of the result is bit `at_ i` of word `w i`. -/
def State.gather (s : State) (n : Nat) (w at_ : Nat → Nat) : Word :=
  BitVec.ofNat 32 ((below n).foldl (fun v i => if bit (s.fuseWord (w i)) (at_ i) then v + 2 ^ i else v) 0)

/-- The shadow is loaded from the map words (R430); blank where the map in force is, but for HOST_LOST_ACT and DEBUG_LOCK (R432). -/
def State.shadowLoad (s : State) : State :=
  if s.mapBlank then
    let s := (below 96).foldl (fun (s : State) a => s.setReg (rPM_ACT a) (pmActOf 0)) s
    let s := (below 6).foldl (fun (s : State) m => s.setReg (rPM_LANE m) 0) s
    let s := (s.setReg rPM_FULLQP 0).setReg rPM_GLOBAL (pmGlobalOf 0 ||| 0x30000)
    ((s.setReg rPM_PZ_EN 0).setReg rPM_PZ_GLO 0).setReg rPM_PZ_GHI 0
  else
  let s' := (below 96).foldl (fun (x : State) a =>
    x.setReg (rPM_ACT a) (pmActOf (fld (s.fuseWord (111 + a / 3)) (13 * (a % 3) + 12) (13 * (a % 3))))) s
  let s' := (below 6).foldl (fun (x : State) m =>
    x.setReg (rPM_LANE m) (s.gather 32 (fun i => 143 + (32 * m + i) / 40) (fun i => (32 * m + i) % 40))) s'
  let s' := (s'.setReg rPM_FULLQP ((s.fuseWord 148).setWidth 32)).setReg rPM_GLOBAL (pmGlobalOf (s.fuseWord 149).toNat)
  let pz (pin bit_ : Nat → Nat) : Word := s.gather 32 (fun j => 150 + pin j / 13) (fun j => 3 * (pin j % 13) + bit_ j)
  ((s'.setReg rPM_PZ_EN (pz (fun j => j) (fun _ => 0))).setReg rPM_PZ_GLO (pz (fun j => j / 2) (fun j => 1 + j % 2))).setReg rPM_PZ_GHI
    (pz (fun j => 16 + j / 2) (fun j => 1 + j % 2))

/-- At reset every fuse word is read and decoded, the trims and the shadow are loaded (R431, R432). -/
def State.fuseLoad (s : State) : State :=
  let reads := (below 157).map (fun w => (w, eccRead (tabGet 0 s.fuses.words w)))
  let bad := (reads.filter (fun r => r.2.2 == .uncorrectable)).map Prod.fst
  let dec := reads.foldl (fun (t : Tab MemWord) r => if r.2.2 = .uncorrectable then t else tabSet 0 t r.1 (r.2.1.setWidth 40)) []
  let cor := (reads.filter (fun r => r.2.2 == .corrected)).map Prod.fst
  let s := { s with fuses := { s.fuses with decoded := dec, bad := bad, keyAt := none, op := none, todo := [] }
                    sealed := decide (15 ≤ s.fuses.blown), mapErr := bad.any (fun w => decide (111 ≤ w ∧ w ≤ 152)) }
  let burnt := s.fuses.words.any (fun p => decide (111 ≤ p.1 ∧ p.1 ≤ 152))
  let s := s.setReg rFUSE_STAT (word [(30, 30, burnt.toNat), (15, 8, min cor.length 255), (7, 0, min bad.length 255)])
  let s := cor.foldl (fun (s : State) w => s.memNote false 14 w) s
  let s := bad.foldl (fun (s : State) w => s.memNote true 14 w) s
  let s := (below 192).foldl (fun (s : State) n => s.setReg (rLANE_TRIM n) (s.factoryTrim n)) s
  (s.setReg rID_UID_HI (BitVec.ofNat 32 (s.uid / 2 ^ 32))).shadowLoad

/-- FUSE_SUM, FUSE_RD_LO and FUSE_RD_HI as read. -/
def State.fuseSumRead (s : State) : Word :=
  let b := s.mapBlank
  word [(31, 31, s.sealed.toNat), (30, 30, (!s.sealed).toNat), (29, 29, (b || s.rb rPM_GLOBAL 16).toNat), (28, 28, (b || s.rb rPM_GLOBAL 17).toNat),
    (27, 26, if b then 0 else s.rf rPM_GLOBAL 15 14), (25, 16, if b then 900 else s.rf rPM_GLOBAL 31 22), (1, 1, s.mapErr.toNat),
    (0, 0, (decide (3 ≤ s.boot) && !b).toNat)]
def State.fuseRdLo (s : State) : Word := (s.fuseWord (s.rf rFUSE_ADDR 7 0)).setWidth 32
def State.fuseRdHi (s : State) : Word :=
  let w := s.rf rFUSE_ADDR 7 0
  word [(31, 31, (s.fuses.bad.contains w).toNat), (7, 0, fld (s.fuseWord w) 39 32)]
def State.fuseStatRead (s : State) : Word := setBit (s.reg rFUSE_STAT) 31 s.fuses.op.isSome

/-! ### Shadow writes (R430) -/

/-- Nothing that depends on the map is in use. -/
def State.mapIdle (s : State) : Bool :=
  (below 96).all (fun a => !(s.act a).bound) && (below 8).all (fun r => !s.rb (rBST_CFG r) 31) && (below 16).all (fun p => !(s.pz p).run)
    && [28, 29, 30, 31].all (fun t => decide ((s.tmr t).st ≠ 1))

/-- Lanes that the new map does not enable power down (R163). -/
def State.lanesOut (s : State) (m : Nat) : State :=
  (below 32).foldl (fun (s : State) i =>
    let n := 32 * m + i
    if s.rb (rPM_LANE m) i then s
    else (s.setRf (rLANE_CFG n) 31 30 0).setLane n { s.lane n with rdy := false, settle := none, bootUv := false, bootHold := false }) s

/-- SHADOW_WRITE: the dword at 0x7000 + 4·i. -/
def State.shadowWrite (s : State) (i : Nat) (v : Word) : State :=
  if s.sealed || !s.mapIdle then s.setRb rFUSE_STAT 27 true
  else
    let a := 0x7000 + 4 * i
    let s := match rowOf a with | some r => s.setReg a (rowWrite r (s.reg a) v) | none => s
    (if 96 ≤ i ∧ i < 102 then s.lanesOut (i - 96) else s).wdArm

def execShadowWrite (i : Fin 107) (v : Word) (s : State) : Host.Outcome State Fault Refusal := execute (fun s => s.shadowWrite i v) s

/-! ### Programming (R433) -/

/-- FUSE_KEY: the key opens a window of 1 ms; another value does nothing. -/
def State.fuseKey (s : State) (v : Word) : State :=
  if v = 0x0000B0C5 then { s with fuses := { s.fuses with keyAt := some s.time } } else s

def execFuseKey (v : Word) (s : State) : Host.Outcome State Fault Refusal := execute (fun s => s.fuseKey v) s

/-- The supply allows an operation: 9 V to 36 V and no dip. -/
def State.fuseSupply (s : State) : Bool := decide (90 ≤ s.vsup) && decide (s.vsup ≤ 360) && !s.dip

/-- A fuse operation may start. -/
def State.fuseMay (s : State) : Bool :=
  (match s.fuses.keyAt with | some t => decide (s.time ≤ t + 1000000) | none => false)
    && !s.sealed && s.inRun && (below 96).all (fun a => !(s.act a).bound) && s.fuseSupply && s.fuses.op.isNone

/-- OP_REJ. -/
def State.opRej (s : State) : State := s.setRb rFUSE_STAT 28 true

/-- The operation starts. -/
def State.fuseStart (s : State) (op : Nat) : State := { s with fuses := { s.fuses with op := some (op, s.time) } }

/-- BURN_MAP. -/
def State.burnMap (s : State) : State :=
  if !s.fuseMay || s.rb rFUSE_STAT 30 then s.opRej else s.fuseStart 1

def execBurnMap (s : State) : Host.Outcome State Fault Refusal := execute State.burnMap s

/-- Every map word reads back equal to the shadow. -/
def State.mapMatches (s : State) : Bool :=
  (below 42).all (fun i => let r := eccRead (tabGet 0 s.fuses.words (111 + i))
    r.2 != .uncorrectable && r.1.setWidth 40 == s.shadowWord (111 + i))

/-- SEAL. -/
def State.seal_ (s : State) : State :=
  if !s.fuseMay || !s.rb rFUSE_STAT 30 || s.rb rFUSE_STAT 29 || !s.mapMatches then s.opRej else s.fuseStart 2

def execSeal (s : State) : Host.Outcome State Fault Refusal := execute State.seal_ s

/-- Map word 111 + i is programmed; one that fails its verification holds an unknown value. A word that is not blank is not
programmed again. -/
def State.burnWord (s : State) (i : Nat) (fail : Bool) : State :=
  if tabGet 0 s.fuses.words (111 + i) ≠ 0 then s
  else
    let f := if fail then s.fresh else (0, s)
    let c : Codeword := if fail then f.1.setWidth 52 else eccEncode (s.shadowWord (111 + i))
    let s := { f.2 with fuses := { f.2.fuses with words := tabSet 0 f.2.fuses.words (111 + i) c } }
    if fail then s.setRb rFUSE_STAT 29 true else s

/-- A codeword that reads uncorrectable: what a word left part-programmed holds. -/
def partWord : Codeword := 0x11

/-- FUSE_OP_DONE: `n` map words, or seal fuses, were done; `bad` names the map words that failed verification. An operation
that stops short is one the supply cut. -/
def State.fuseDone (s : State) (n : Nat) (bad : BitVec 42) : State :=
  match s.fuses.op with
  | none => s
  | some (op, _) =>
    let all := if op = 1 then 42 else 28
    let n := min n all
    if n < all && s.fuseSupply then s
    else
      let s := { s with fuses := { s.fuses with op := none } }
      if op = 1 then
        let s := (below n).foldl (fun (s : State) i => s.burnWord i (bit bad i)) s
        let s := s.setRb rFUSE_STAT 30 true
        if n < 42 then
          ({ s with fuses := { s.fuses with words := if tabGet 0 s.fuses.words (111 + n) = 0 then tabSet 0 s.fuses.words (111 + n) partWord else s.fuses.words } }).setRb
            rFUSE_STAT 29 true
        else s
      else
        let s := { s with fuses := { s.fuses with blown := max s.fuses.blown n }, sealed := decide (15 ≤ max s.fuses.blown n) }
        if n < 28 then s.setRb rFUSE_STAT 29 true else s

def execFuseOpDone (n : Fin 43) (bad : BitVec 42) (s : State) : Host.Outcome State Fault Refusal := execute (fun s => s.fuseDone n bad) s

/-! ### Scrubbing (R415 to R417) -/

/-- Words of each SRAM, by memory ID (Tables 1.5 and 16.2). -/
def memSize (id : Nat) : Nat :=
  match id with
  | 1 => 4096 | 2 => 4096 | 3 => 2048 | 4 => 3072 | 5 => 384 | 6 => 1536 | 7 => 1536 | 8 => 448 | 9 => 448 | 10 => 128 | 11 => 384 | _ => 6144

/-- A command ends with INTERNAL_ERROR (R321). -/
def State.cmdError (s : State) (e : Nat) : State :=
  match s.cmdAt e with
  | some c => s.finishFrom c s.devAddr s.time 0x7F 0
  | none => s

/-- The fault FIFO's entry `i` is dropped and counted as lost (Table 16.2). -/
def State.fifoDrop (s : State) (i : Nat) : State :=
  match (s.hands.filter (fun h => h.prod == 2)).drop i with
  | h :: _ =>
    let m : Summary := s.summary.getD { time := s.time, lost := 0, counts := List.replicate 14 0 }
    (({ s with hands := s.hands.erase h, summary := some { m with lost := min (m.lost + 1) 0xFFFF } }).bump rDIAG_LOST 15 0).summaryIn
  | [] => s

/-- The i-th period of a closed tooth record is taken out of it. -/
def dropPeriod (h : Hand) (i : Nat) : Hand :=
  { h with entries := h.entries.map (fun e =>
      let p := e.2.2.2.2.2
      let w := ((below 4).map (fun k => p / 2 ^ (32 * k) % 2 ^ 32)).eraseIdx i
      (e.1, e.2.1, e.2.2.1, e.2.2.2.1, e.2.2.2.2.1, pack [(31, 0, w.getD 0 0), (63, 32, w.getD 1 0), (95, 64, w.getD 2 0)])) }

/-- The period in word `i` of ADOM[d]'s log, four to a record from the oldest, is discarded (Table 16.2). -/
def State.logDrop (s : State) (d i : Nat) : State :=
  let lost (s : State) : State := ((s.bump (rADOM_CNT_TOOTH d) 7 0).domEvent d 7).setDom d { s.dom d with logLost := true, evt := setBit (s.dom d).evt 7 true }
  let mine := s.hands.filter (fun h => h.prod == 0 && h.entries.any (fun e => e.2.2.2.1 / 16384 == d))
  match mine.drop (i / 4) with
  | h :: _ =>
    let old := h.entries.any (fun e => e.2.2.2.2.2 / 2 ^ (32 * (i % 4)) % 2 ^ 32 != 0)
    if old then lost { s with hands := s.hands.map (fun x => if x = h then dropPeriod h (i % 4) else x) } else s
  | [] =>
    if i / 4 = mine.length then
      match (s.dom d).logOpen with
      | some r => if i % 4 < r.periods.length then lost (s.setDom d { s.dom d with logOpen := some { r with periods := r.periods.eraseIdx (i % 4) } }) else s
      | none => s
    else s

/-- The feedback word of an actuator held on the tray is lost (Table 16.2). -/
def State.fbLost (s : State) (t k : Nat) : State :=
  let a := k / 16
  if s.lsLane a < 192 ∧ s.trayOf a = t then
    let f := (below 16).foldl (fun (x : Tab MemWord) w => if w = k % 16 ∨ 8 ≤ w then tabSet 0 x (16 * a + w) 0 else x) s.fbs
    { s with fbs := f, fbPend := s.fbPend.filter (fun p => p.1 / 16 ≠ a) }.setRb (rSFB_FROZEN (a / 32)) (a % 32) true
  else s

/-- The data of word `w` of a memory whose words' layout the spec gives: tooth tables, corrections, duty windows and, on the tray
that an actuator is bound to, its feedback table (Tables 2.13, 3.6 and 6.5, R235). -/
def State.ramData (s : State) (id w : Nat) : MemWord :=
  match id with
  | 1 => tabGet 0 s.teeth w
  | 2 => tabGet 0 s.corrs w
  | 7 => BitVec.ofNat 40 (tabGet 0 s.duty w)
  | 12 => if s.trayOf (w % 1536 / 16) = w / 1536 then tabGet 0 s.fbs (w % 1536) else 0
  | _ => 0

/-- The data of such a word replaced. -/
def State.ramPut (s : State) (id w : Nat) (v : MemWord) : State :=
  match id with
  | 1 => { s with teeth := tabSet 0 s.teeth w v }
  | 2 => { s with corrs := tabSet 0 s.corrs w v }
  | 7 => { s with duty := tabSet 0 s.duty w v.toNat }
  | 12 => if s.trayOf (w % 1536 / 16) = w / 1536 then { s with fbs := tabSet 0 s.fbs (w % 1536) v } else s
  | _ => s

/-- The codeword stored as word `w` of SRAM `id` (R11, R413). Where the spec does not give the layout of the memory's words, data
zero stands for theirs: the code is linear, so what a read finds depends on the upset bits alone (log entry 40). -/
def State.ramCode (s : State) (id w : Nat) : Codeword := eccEncode (s.ramData id w) ^^^ tabGet 0 s.upsets (ramKey id w)

/-- The word reads uncorrectable. -/
def State.ramBad (s : State) (id w : Nat) : Bool := (eccRead (s.ramCode id w)).2 == .uncorrectable

/-- The reaction to an uncorrectable word (Table 16.2). -/
def State.memReact (s : State) (id w : Nat) : State :=
  match id with
  | 1 => let x := s.dom (w / 1024)
         s.setDom (w / 1024) { x with tableValid := false, row1 := if s.domEn (w / 1024) && !s.domRing (w / 1024) then some 3 else x.row1 }
  | 2 => { s with corrs := tabSet 0 s.corrs w 0 }.rewrote 2 w 1
  | 3 => (s.logDrop (w / 512) (w % 512)).rewrote 3 w 1
  | 7 => { s with duty := tabSet 0 s.duty w (s.subLen (w / 16)) }.rewrote 7 w 1
  | 8 => s.cmdError (w / 7)
  | 9 => (s.fifoDrop (w / 7)).rewrote 9 w 1
  | 10 => s
  | 12 => (s.fbLost (w / 1536) (w % 1536)).rewrote 12 w 1
  | _ => s.latchCause 5

/-- A read of word `w` of SRAM `id` by the scrubber or a unit, `flips` being the bits upset since it was last written or corrected:
its codeword is decoded; a corrected word is written back, an uncorrectable one is reported and reacted to (R414, R416, R417). -/
def State.ramRead (s : State) (id w : Nat) (flips : Codeword) : State :=
  let m := tabGet 0 s.upsets (ramKey id w) ^^^ flips
  if m = 0 then { s with upsets := tabSet 0 s.upsets (ramKey id w) 0 }
  else
    let s := { s with upsets := tabSet 0 s.upsets (ramKey id w) m }
    let r := eccRead (s.ramCode id w)
    match r.2 with
    | .plain => (s.ramPut id w (r.1.setWidth 40)).rewrote id w 1
    | .corrected => (((s.ramPut id w (r.1.setWidth 40)).rewrote id w 1).bump rMEM_CNT 23 12).memNote false id w
    | .uncorrectable => ((s.bump rMEM_CNT 31 24).memNote true id w).memReact id w

/-- The scrubber's next word is due. -/
def State.scrubDue (s : State) : Bool := decide (s.scrub.last + 64 * (s.rf rMEM_CFG 7 0 + 1) < s.time + 4)

/-- SCRUB_VISIT: the scrubber reads the next word once it is due (R415); with `unit`, a unit reads a word of its memory. -/
def State.scrubVisit (s : State) (unit : Option (Nat × Nat)) (flips : Codeword) : State :=
  match unit with
  | some (id, w) => if 1 ≤ id ∧ id ≤ 12 ∧ w < memSize id then s.ramRead id w flips else s
  | none =>
    if !s.scrubDue then s
    else
      let x := s.scrub
      let s := s.ramRead x.id x.word flips
      let wrap := memSize x.id ≤ x.word + 1
      let s := if wrap && decide (x.id = 12) then s.bump rMEM_CNT 11 0 else s
      { s with scrub := { id := if wrap then x.id % 12 + 1 else x.id, word := if wrap then 0 else x.word + 1, last := s.time } }

def execScrubVisit (x : RamAccess) (s : State) : Host.Outcome State Fault Refusal :=
  execute (fun s => s.scrubVisit (x.unit.map (fun u => (u.1.val, u.2.val))) x.flips) s

end Sys2Proof.Machine
end

