-- ==== Sys2Proof/Machine/Arm.lean ====
section
/-! DEFINITION. Arming, cancelling and forcing (R95 to R100, R121, R122, R305 to R307). -/

namespace Sys2Proof.Machine

/-! ### Event operands (Table 4.3) -/

/-- Bytes `lo` to `hi` of event operands (byte 8 is the lowest). -/
def evField (o : Operands) (lo hi : Nat) : Nat := fld o (8 * (hi - 8) + 7) (8 * (lo - 8))

/-- Who arms an event: queue pair, SEQ, TAG, OPCODE, FLAGS. -/
structure Armer where
  qp : Nat
  seq : Nat
  tag : Nat
  opcode : Nat
  flags : Nat
deriving DecidableEq, Repr

def Cmd.armer (c : Cmd) : Armer := { qp := c.qp, seq := c.seq, tag := c.tag, opcode := c.opcode, flags := c.flags }

/-- The slot an event's operands describe, its target not yet resolved. -/
def slotOf (w : Armer) (o : Operands) (batch : Nat) : Slot :=
  let em := evField o 11 11
  { st := 1, qp := w.qp, seq := w.seq, tag := w.tag, opcode := w.opcode, irq := w.flags / 4 % 2 = 1, batch := batch
    evtCpl := em / 16 % 2 = 1, duration := em % 2 = 1, dom := em / 4 % 4, flagOnly := em / 32 % 2 = 1
    flagS := evField o 14 14, flagE := evField o 15 15, prof := evField o 10 10 % 64
    cyc := evField o 12 13, endAngle := evField o 16 19, dur := evField o 20 23, dmin := evField o 24 27, dmax := evField o 28 31 }

/-- The first position strictly ahead of `at_` (cycle, angle in 1/16 au) that equals `e` au: its cycle (R97). -/
def nextCycleOf (at_ : Nat × Nat) (e : Nat) : Nat := if at_.2 < 16 * e then at_.1 else (at_.1 + 1) % 65536

/-- The target of an event with NEXT = 1: in CRANK_SYNC the nearer of END_ANGLE and END_ANGLE ± 368,640 au (R97). -/
def nextTarget (p : Pub) (now e : Nat) : Nat × Nat :=
  let at_ := p.at now
  if p.st = 2 then
    let f := (e + 368640) % 737280
    let c := nextCycleOf at_ e
    let g := nextCycleOf at_ f
    let key (cy a : Nat) : Nat := ((cy + 65536 - at_.1) % 65536) * 737280 + a
    if key g f < key c e then (g, f) else (c, e)
  else (nextCycleOf at_ e, e)

/-- Reasons 0x01 to 0x06 of Table 4.5, in order; `extra`: bytes 0 to 7 of a batch entry. -/
def State.armReason (s : State) (a : Nat) (o : Operands) (extra : Nat) : Option Nat :=
  let x := slotOf { qp := 0, seq := 0, tag := 0, opcode := 0, flags := 0 } o 0
  let p := s.pubOf x
  if cycLen (s.dom x.dom).cyc360 / 16 ≤ x.endAngle then some 1
  else if x.dur < x.dmin || x.dmax < x.dur || x.dmax = 0 then some 2
  else if !x.flagOnly && !s.profFits a x.prof then some 3
  else if (match s.domOf a with | some d => d != x.dom | none => false) then some 4
  else if evField o 11 11 / 2 % 2 = 0 && p.st = 2 then some 5
  else if (8 ≤ evField o 9 9 && evField o 9 9 != 15) || 64 ≤ evField o 10 10 || 64 ≤ evField o 11 11 || 128 ≤ x.flagS || 128 ≤ x.flagE || extra != 0 then some 6
  else none

/-- A slot is free for arming: FREE, and no completion of it waits (R282). -/
def State.slotFree (s : State) (a k : Nat) : Bool := decide ((s.slot a k).st = 0) && !(s.slot a k).cplWait

/-- The slot an event takes. -/
def State.slotFor (s : State) (a : Nat) (o : Operands) : Option Nat :=
  let k := evField o 9 9 % 16
  if k = 15 then (below 8).find? (fun k => s.slotFree a k) else if s.slotFree a k then some k else none

/-- What the judgement of an event finds: a refusal (status and BAD_EVENT reason), an event found too late (its slot and
target), or its slot. -/
inductive Judged where
  | refused (status reason : Nat)
  | late (k : Nat) (x : Slot)
  | ok (k : Nat) (x : Slot)
deriving DecidableEq, Repr

/-- Table 4.4 on one event that would fire at `tf` at the earliest. -/
def State.judgeArm (s : State) (w : Armer) (o : Operands) (batch extra tf : Nat) : Judged :=
  let a := evField o 8 8
  let x := slotOf w o batch
  if s.inSafe then .refused 0x26 0
  else if 95 < a || !(s.act a).bound then .refused 0x25 7
  else if !s.owns w.qp a then .refused 0x12 0
  else match s.armReason a o extra with
    | some r => .refused 0x25 r
    | none =>
      let p := s.pubOf x
      if s.disabled a then .refused 0x30 0
      else if !permits p.st (s.coOk a) then .refused 0x20 0
      else match s.slotFor a o with
        | none => .refused 0x14 0
        | some k =>
          let t := if evField o 11 11 / 2 % 2 = 1 then nextTarget p s.time x.endAngle else (x.cyc, x.endAngle)
          let y := s.compute a { x with cyc := t.1, endAngle := t.2, mv := (s.dom x.dom).moves s.time }
          if y.passed || (y.inForce && decide (y.tS < tf) && decide (y.tE - tf < y.dmin)) then .late k y else .ok k y

/-- Result bytes 20 to 31 of an arm completion (Table 4.6). -/
def armResult (a k : Nat) (x : Slot) : Nat :=
  pack [(7, 0, a), (10, 8, k), (14, 11, x.batch), (31, 16, x.cyc), (63, 32, if x.inForce then unsgn 32 x.tS else 0)]

/-- ARM_EVENT in its actuator's first solver slot after its start (R96). -/
def State.armEvent (s : State) (c : Cmd) : State :=
  let a := evField c.ops 8 8
  if !solverSlotAt a s.time || c.started == some s.time then s
  else match s.judgeArm c.armer c.ops 0 0 (s.time + 4) with
    | .refused st r => s.finish c st (pack [(7, 0, a), (71, 64, r)])
    | .late k x => (s.bump rSCHED_CNT_A 31 16).finish c 0x21 (pack [(7, 0, a), (10, 8, k), (31, 16, x.cyc)])
    | .ok k x => ((s.setSlot a k x).rewrote 4 (32 * a + 4 * k) 4).finish c 0 (armResult a k x)

def execArmEvent (e : Fin 64) (s : State) : Host.Outcome State Fault Refusal := execute (fun s => s.command 0x20 0x20 e State.armEvent) s

/-- Entry `i` of a batch's buffer: bytes 0 to 7, and the operands. -/
def batchEntry (data i : Nat) : Nat × Operands :=
  let e := data / 2 ^ (256 * i)
  (e % 2 ^ 64, BitVec.ofNat 192 (e / 2 ^ 64))

/-- What the judgement of a batch finds: the state with its entries armed, the mask of those too late, how many were armed, and the
first that failed checks 1 to 7 with its index, status and reason (R100). -/
structure Batch where
  st : State
  late : Nat := 0
  armed : Nat := 0
  bad : Option (Nat × Nat × Nat) := none

/-- Entry `i` of a batch is judged in the state that the entries before it leave (R100). -/
def Batch.entry (b : Batch) (w : Armer) (data i : Nat) : Batch :=
  let e := batchEntry data i
  let a := evField e.2 8 8
  match b.st.judgeArm w e.2 i e.1 (b.st.time + 4 * (a % 16) + 4) with
  | .refused st r => { b with bad := b.bad.orElse (fun _ => some (i, st, r)) }
  | .late _ _ => { b with late := b.late + 2 ^ i }
  | .ok k x => { b with st := (b.st.setSlot a k x).rewrote 4 (32 * a + 4 * k) 4, armed := b.armed + 1 }

/-- Every entry of a batch is judged, in buffer order (R100). -/
def State.batchArm (s : State) (w : Armer) (data n : Nat) : Batch :=
  (below n).foldl (fun (b : Batch) i => b.entry w data i) { st := s }

/-- The batch is taken: one entry that fails checks 1 to 7 leaves none armed; every entry found too late is counted and shown (R100,
R124). -/
def State.batchTake (s : State) (c : Cmd) : State :=
  let b := s.batchArm c.armer c.data (c.byte 16)
  let late := ((below 16).filter (fun i => b.late / 2 ^ i % 2 = 1)).length
  match b.bad with
  | none => (b.st.bumpN rSCHED_CNT_A 31 16 late).finish c 0 (pack [(15, 0, b.late), (23, 16, b.armed), (31, 24, 0xFF)])
  | some (i, st, r) => (s.bumpN rSCHED_CNT_A 31 16 late).finish c st (pack [(15, 0, b.late), (31, 24, i), (39, 32, r)])

/-- ARM_BATCH: its operands are judged, the buffer is read, and at the first frame start after that the batch is taken. -/
def State.armBatch (s : State) (c : Cmd) : State :=
  let n := c.byte 16
  if c.phase = 0 then
    if s.inSafe then s.finish c 0x26 (pack [(31, 24, 0xFF)])
    else if c.opnd 8 15 % 32 ≠ 0 || n = 0 || 16 < n || !c.zeros 17 31 then s.finish c 0x25 (pack [(31, 24, 0xFF), (39, 32, 6)])
    else (s.modCmd c.ord (fun c => { c with phase := 1 })).fetchStart c.ord (c.opnd 8 15) (32 * n)
  else if c.failed then s.finish c 0x25 (pack [(31, 24, 0xFF), (39, 32, 6)])
  else if !c.ready || s.time % 64 ≠ 0 || decide (s.time ≤ c.sentAt) then s
  else if s.inSafe then s.finish c 0x26 (pack [(31, 24, 0xFF)])
  else s.batchTake c

def execArmBatch (e : Fin 64) (s : State) : Host.Outcome State Fault Refusal := execute (fun s => s.command 0x21 0x21 e State.armBatch) s

/-! ### Cancelling (R121, R122) -/

/-- CANCEL_EVENT is taken in its actuator's first solver slot after its start. -/
def State.cancelTake (s : State) (c : Cmd) : State :=
  if c.phase = 0 && solverSlotAt (c.byte 8) s.time && c.started != some s.time then
    s.modCmd c.ord (fun c => { c with phase := 1, committed := true, sentAt := s.time })
  else s

def execCancelEvent (e : Fin 64) (s : State) : Host.Outcome State Fault Refusal := execute (fun s => s.command 0x22 0x22 e State.cancelTake) s

/-- The slot matches the cancel. -/
def State.cancelMatch (s : State) (c : Cmd) (k : Nat) : Bool :=
  let x := s.slot (c.byte 8) k
  x.st != 0 && x.qp == c.qp && (c.byte 12 % 2 == 1 || x.seq == c.opnd 10 11) && (c.byte 9 % 16 == 15 || c.byte 9 % 16 == k)

/-- Table 4.12 for slot `k` at F: the state, and what the masks of aborted and of completed slots gain. -/
def State.cancelSlot (s : State) (c : Cmd) (k : Nat) : State × Nat × Nat :=
  let a := c.byte 8
  let x := s.slot a k
  if !s.cancelMatch c k then (s, 0, 0)
  else if x.st ≤ 3 then (s.freeSlot a k 2, 2 ^ k, 0)
  else if x.st = 4 && !s.endLocked a x then (s.setSlot a k { x with cancelEnd := some (max s.time (x.tAct + x.dmin)) }, 2 ^ k, 0)
  else (s, 0, 2 ^ k)

/-- How many bits of a slot mask are set. -/
def maskCount (m : Nat) : Nat := ((below 8).filter (fun k => m / 2 ^ k % 2 = 1)).length

/-- CANCEL_DECISION: the cancel acts at the frame start after it was taken, before ends are locked. -/
def State.cancelDecide (s : State) (c : Cmd) : State :=
  if c.phase ≠ 1 || s.time % 64 ≠ 0 || decide (s.time ≤ c.sentAt) then s
  else
    let r := (below 8).foldl (fun (x : State × Nat × Nat) k => let y := x.1.cancelSlot c k; (y.1, x.2.1 + y.2.1, x.2.2 + y.2.2)) (s, 0, 0)
    let s := if r.2.1 = 0 then r.1 else r.1.bumpN rSCHED_CNT_B 15 0 (maskCount r.2.1)
    s.finish c (if r.2.1 = 0 then 3 else 2) (pack [(7, 0, c.byte 8), (15, 8, r.2.1), (23, 16, r.2.2)])

def execCancelDecision (e : Fin 64) (s : State) : Host.Outcome State Fault Refusal :=
  execute (fun s => match s.cmdAt e with
    | some c => if c.opcode = 0x22 && c.started.isSome && s.here c then s.cancelDecide c else s
    | none => s) s

/-! ### Forced shots (R305 to R307) -/

/-- It is F, the first frame start after the command's start. -/
def State.atF (s : State) (c : Cmd) : Bool := decide (s.time % 64 = 0) && c.started != some s.time

/-- Table 11.4: the first check that fails, with the STATE_REFUSED and BAD_EVENT reasons; or the duty cap. -/
def State.forceCheck (s : State) (a p dur : Nat) : Option Nat × (Nat × Nat × Nat) :=
  let x : Slot := { prof := p }
  let R := s.dutyLeft a s.time
  let within := s.dutyFree a || decide ((dur : Int) ≤ R)
  let no (st sr ev : Nat) : Option Nat × (Nat × Nat × Nat) := (none, (st, sr, ev))
  if s.inSafe then no 0x26 0 0
  else if !s.inRun then no 0x17 1 0
  else if 95 < a || !(s.act a).bound then no 0x25 0 7
  else if s.cls a != 4 && !s.profFits a p then no 0x25 0 3
  else if s.cls a = 3 && dur = 0 then no 0x25 0 2
  else if s.disabled a then no 0x30 0 0
  else if (s.act a).shot.isSome || (below 8).any (fun k => decide (4 ≤ (s.slot a k).st)) then no 0x17 2 0
  else if !within && (!s.dutyTrunc a || decide (R ≤ 0)) then no 0x22 0 0
  else if s.dip && s.cls a != 4 && phLists (s.phaseRec p 0) 2 then no 0x17 3 0
  else if s.cls a != 4 && s.peakStart x && s.bankBusy a s.time then no 0x23 0 0
  else (if within then none else some (s.time + R.toNat), (0, 0, 0))

/-- FORCE_ON at F; `i` is the LS current code then. -/
def State.forceOn (s : State) (i : Nat) (c : Cmd) : State :=
  if !s.atF c then s
  else
    let a := c.byte 8
    let p := c.byte 10
    let dur := c.opnd 12 15
    let r := s.forceCheck a p dur
    if r.2.1 ≠ 0 then
      let s := if r.2.1 = 0x22 then s.bump rDIAG_GSTAT 15 8 else if r.2.1 = 0x23 then s.bump rACT_GSTAT 23 12 else s
      s.finish c r.2.1 (pack [(7, 0, a), (39, 32, r.2.2.1), (71, 64, r.2.2.2)])
    else
      let end_ := if dur = 0 then none else some (s.time + dur)
      let plan := match r.1 with | some k => k - s.time | none => dur
      let s := if r.1.isSome then s.bump rDIAG_GSTAT 7 0 else s
      let s := (s.beginShot a s.time i { forced := true, forcedEnd := end_, forcedCap := r.1, prof := p, dur := dur, truncated := r.1.isSome }).lockEnds a s.time
      s.finish c 0 (pack [(7, 0, a), (8, 8, r.1.isSome.toNat), (63, 32, plan)])

def execForceOn (e : Fin 64) (i : Fin 1024) (s : State) : Host.Outcome State Fault Refusal :=
  execute (fun s => s.command 0x23 0x23 e (fun s c => s.forceOn i c)) s

/-- FORCE_OFF on one actuator: the slots whose shot ended, the slots freed, whether a forced shot ended. -/
def State.forceOffAct (s : State) (a : Nat) (flush : Bool) : State × Nat × Nat × Bool :=
  let run := match (s.act a).shot with | some h => decide (h.st = 0) | none => false
  let forced := run && (match (s.act a).shot with | some h => h.forced | none => false)
  let ended := if run then (s.runningSlots a).foldl (fun n k => n + 2 ^ k) 0 else 0
  let s := s.overrideEnd a s.time 2
  let free := if flush then (below 8).filter (fun k => 1 ≤ (s.slot a k).st && (s.slot a k).st ≤ 3) else []
  (free.foldl (fun s k => s.freeSlot a k 2) s, ended, free.foldl (fun n k => n + 2 ^ k) 0, forced)

/-- FORCE_OFF at F (R307). -/
def State.forceOff (s : State) (c : Cmd) : State :=
  if !s.atF c then s
  else
    let a := c.byte 8
    let flush := c.byte 9 % 2 = 1
    if a = 255 then
      let r := ((below 96).filter (fun a => s.owns c.qp a)).foldl (fun (x : State × Nat × Nat) a =>
        let run := match (x.1.act a).shot with | some h => decide (h.st = 0) | none => false
        let y := x.1.forceOffAct a flush
        (y.1, x.2.1 + run.toNat, x.2.2 + maskCount y.2.2.1)) (s, 0, 0)
      r.1.finish c 0 (pack [(7, 0, 255), (23, 8, r.2.1), (39, 24, r.2.2)])
    else
      let r := s.forceOffAct a flush
      r.1.finish c 0 (pack [(7, 0, a), (15, 8, r.2.1), (23, 16, r.2.2.1), (24, 24, r.2.2.2.toNat)])

def execForceOff (e : Fin 64) (s : State) : Host.Outcome State Fault Refusal := execute (fun s => s.command 0x24 0x24 e State.forceOff) s

end Sys2Proof.Machine
end

