-- ==== Sys2Proof/Machine/Kringle.lean ====
section
/-! DEFINITION. The Kringle ring (chapter 12, R322 to R337, R348 to R353): ports and loop-backs, frames taken and passed,
enumeration and epochs, commands, accesses and entries carried between slaves and master. -/

namespace Sys2Proof.Machine

/-! ### Ports (R322, R348) -/

/-- The ports are enabled: KR_CFG.EN, always 1 on a slave. -/
def State.portsOn (s : State) : Bool := !s.master || s.rb rKR_CFG 31

/-- KR_PORT.KA_LOST, KB_LOST. -/
def State.portLost (s : State) (kb : Bool) : Bool := s.rb rKR_PORT (if kb then 25 else 29)

/-- The ring a symbol that came in goes out on: its own, or the other where the loop-back turns it (R348). -/
def State.outRing (s : State) (kb : Bool) : Bool := if s.portLost (!kb) then !kb else kb

/-- Where an enumeration token of a ring is processed: entering on that ring's port, or turned into that ring (R330). -/
def State.onRing (s : State) (ring kb : Bool) : Bool := kb == ring || s.outRing kb == ring

/-- RING_TO in ns; 0 acts as 1. -/
def State.ringTo (s : State) : Nat := 1000 * max 1 (s.rf rKR_TMO 15 0)

/-- The epoch in force (R331). -/
def State.epoch (s : State) : Nat := s.rf rKR_STAT 28 27

/-! ### Frames received (R327, R328) -/

/-- The frame fails: a symbol or length error, an ABT, or its CRC (R328). -/
def Frame.bad (f : Frame) (typ : Nat) : Bool :=
  let b := frameBytes typ f.dir f.dst f.src f.tage.toNat f.len.toNat f.pay.toNat
  f.err || decide (72 < f.len.toNat) || decide (f.len.toNat % 4 ≠ 0)
    || decide (b.drop (8 + f.len.toNat) ≠ [BitVec.ofNat 8 (f.crc.toNat / 256), BitVec.ofNat 8 f.crc.toNat])

/-- A discarded frame is counted. -/
def State.badFrame (s : State) (kb : Bool) : State :=
  let s := if s.portLost kb then { s with ring := { s.ring with cleanAt := some s.time } } else s
  ((s.bump rKR_CNT_A 15 0).setRb rKR_STAT 6 true).bump rKR_PORT (if kb then 15 else 23) (if kb then 8 else 16)

/-- The frame is this device's own, back on the ring it was sent on; a slave removes all of its own (R327). -/
def State.ownFrame (s : State) (f : Frame) : Bool :=
  if s.master then decide (f.src.val = 0) && (f.dir == f.kb || f.dir == s.outRing f.kb) else s.enumd && decide (f.src.val = s.addr)

/-- The frame is addressed to this device alone. -/
def State.forMe (s : State) (f : Frame) : Bool := if s.master then decide (f.dst.val = 0) else s.enumd && decide (f.dst.val = s.addr)

/-- The frame goes on, on the ring the loop-back gives it. -/
def State.passOn (s : State) (typ : Nat) (f : Frame) : State :=
  s.emit (.frame (s.outRing f.kb).toNat (f.len.toNat + 10)
    (ofBytesLE (frameBytes typ f.dir f.dst f.src f.tage.toNat f.len.toNat f.pay.toNat)))

/-- The frame of its own that the device sent last on a ring. -/
def State.lastOwn (s : State) (ring : Nat) : Option Out :=
  s.out.find? (fun o => match o with | .frame r _ v => r == ring && v / 2 ^ 32 % 4096 == s.devAddr | _ => false)

/-- A frame is passed; an EXPRESS frame that meets an own frame in progress (`cut`) ends it with ABT, and the own frame is sent again
whole (R327). Any other waits in the insertion buffer until the own frame has left. -/
def State.passFrame (s : State) (typ : Nat) (f : Frame) : State :=
  let ring := (s.outRing f.kb).toNat
  match (if f.cut && express typ then s.lastOwn ring else none) with
  | some o => (((s.bump rKR_CNT_B 15 8).emit (.abort ring)).passOn typ f).emit o
  | none => s.passOn typ f

/-- A faulty frame is discarded; the device that was passing it ends it with ABT (R328). -/
def State.badPass (s : State) (f : Frame) : State :=
  if s.portLost f.kb || s.ownFrame f || s.forMe f then s.badFrame f.kb else (s.badFrame f.kb).emit (.abort (s.outRing f.kb).toNat)

/-- A slave that an enumeration has not reached reads ENUM = 0: frames of the master have carried another epoch for as long as the
tokens may take (R330). -/
def State.epochSeen (s : State) (f : Frame) : State :=
  if s.master || !s.enumd || f.src.val ≠ 0 then s
  else if f.tage.toNat / 64 = s.epoch then { s with ring := { s.ring with newEpoch := none } }
  else
    match s.ring.newEpoch with
    | none => { s with ring := { s.ring with newEpoch := some s.time } }
    | some t => if t + 64 * s.ringTo ≤ s.time then { s with enumd := false, ring := { s.ring with newEpoch := none } } else s

/-- A frame arrives: discarded, removed, taken (`act`) or passed, or taken and passed (R327, R328). What arrives on a port
that has been lost is not used until its loop-back ends. -/
def State.takeFrame (s : State) (typ : Nat) (f : Frame) (act : State → State) : State :=
  if !s.portsOn then s
  else if f.bad typ then s.badPass f
  else if s.portLost f.kb then s
  else
    let s := s.epochSeen f
    if s.ownFrame f then s
    else if s.forMe f then act s
    else
      let s := s.passFrame typ f
      if f.dst.val = 4095 then act s else s

/-- A frame between neighbours, never passed on (Table 12.3). -/
def State.takeNear (s : State) (typ : Nat) (f : Frame) (act : State → State) : State :=
  if !s.portsOn then s else if f.bad typ then s.badFrame f.kb else if s.portLost f.kb then s else act s

/-- A field of the payload. -/
def Frame.get (f : Frame) (hi lo : Nat) : Nat := fld f.pay hi lo
/-- TAG and EPOCH of TAGE. -/
def Frame.tag (f : Frame) : Nat := f.tage.toNat % 64
def Frame.epoch (f : Frame) : Nat := f.tage.toNat / 64

/-- A stale or late reply is counted (R335). -/
def State.stale (s : State) : State := (s.bump rKR_CNT_A 31 16).setRb rKR_STAT 2 true

/-- The frame's epoch is earlier than the receiver's: by one or two of four (R331, R335). -/
def State.oldEpoch (s : State) (f : Frame) : Bool := let k := (s.epoch + 4 - f.epoch) % 4; k == 1 || k == 2

/-! ### Hop latency (R329) -/

/-- s in 1/16 ns from KR_HOP; unknown: a free value. -/
def State.segment (s : State) : Nat × State :=
  let h := s.rf rKR_HOP 15 0
  if h = 0xFFFF then (let r := s.fresh; (r.1.toNat % 65536, r.2)) else (h - 512, s)

/-- PROBE_SEND: every 1,024 ns on KB_OUT. -/
def State.probeSend (s : State) : State :=
  if s.portsOn && decide (s.time % 1024 = 0) then ({ s with ring := { s.ring with probe := true } }).sendOn true 3 4095 (s.tage 0) 0 0 else s

def execProbeSend (s : State) : Host.Outcome State Fault Refusal := execute State.probeSend s

/-- PROBE on KB_IN: ECHO goes out on KA_OUT. -/
def execProbe (f : Frame) (s : State) : Host.Outcome State Fault Refusal :=
  execute (fun s => s.takeNear 3 f (fun s => if f.kb then s.sendOn false 4 f.src f.tage.toNat 0 0 else s)) s

/-- One measurement of s joins the average (R329). -/
def State.measure (s : State) (x : Nat) : State :=
  let l := (s.ring.probes ++ [x])
  let l := l.drop (l.length - 4096)
  ({ s with ring := { s.ring with probe := false, probes := l } }).setRf rKR_HOP 15 0 (min (roundDiv l.sum l.length + 512) 0xFFFE)

/-- ECHO on KA_IN. -/
def execEcho (f : Frame) (smp : Fin 65536) (s : State) : Host.Outcome State Fault Refusal :=
  execute (fun s => s.takeNear 4 f (fun s => if !f.kb && s.ring.probe then s.measure smp else s)) s

/-! ### Epochs and enumeration (R330, R331) -/

/-- A forwarded command ends at the master with `st`, SOURCE its target; in a broadcast every device that has not replied (R318, R319). -/
def State.forwardEnds (s : State) (c : Cmd) (st : Nat) : State :=
  if c.target = 4095 then
    (below s.devices).foldl (fun s a => if a = 0 || c.replies.any (fun r => r.1 = a) then s else s.reply c.ord a st) s
  else s.finishFrom c c.target s.time st 0

/-- The command is in flight on the ring; a FENCE that still waits has not gone there. -/
def State.forwarded (s : State) (c : Cmd) : Bool :=
  s.master && !c.done && c.ring.isNone && c.started.isSome && !(c.opcode == 2 && c.phase == 0) && (decide (c.target = 4095 ∧ 1 < s.devices) || !s.here c)

/-- The command-buffer entry of the victim an ABORT went to a slave for. -/
def AbortRq.entry (r : AbortRq) : Option Nat := r.fwd.map Prod.fst

/-- The ABORTs that have gone to slaves, with their queue pairs. -/
def State.abortsOut (s : State) : List (Nat × AbortRq) :=
  (below 32).flatMap (fun q => ((s.qp q).aborts.filter (fun r => r.fwd.isSome)).map (fun r => (q, r)))

/-- An ABORT that went to a slave ends without its answer: SOURCE is the slave, and the victim is the one found (R318, R336). -/
def State.abortEnds (s : State) (x : Nat × AbortRq) (st : Nat) : State :=
  match x.2.fwd with
  | some v => s.abortDone x.1 x.2 v.2.2 st v.2.1 true
  | none => s

/-- The epoch advances; every forwarded command completes STALE (R330, R331). -/
def State.advanceEpoch (s : State) : State :=
  let l := s.cmds.filter (fun c => s.forwarded c)
  let s := s.abortsOut.foldl (fun s x => s.abortEnds x 0x41) s
  let s := l.foldl (fun s c => s.forwardEnds c 0x41) s
  ({ s with ring := { s.ring with epochAt := some s.time } }).setRf rKR_STAT 28 27 (s.epoch + 1)

/-- ENUM_A leaves: NEXT, CUM and the master's UID. -/
def State.sendEnumA (s : State) (o : Nat) : State :=
  ({ s with ring := { s.ring with run := some (o, 0, s.time) } }).sendOn false 1 4095 (s.tage 0) 12
    (pack [(15, 0, 1), (47, 16, 6144), (79, 48, s.uid)])

/-- What a KR_ENUMERATE or KR_REJOIN does: a new epoch, then the token, or the opening time (R330, R350). -/
def State.ringBegin (s : State) (c : Cmd) : State :=
  let s := s.advanceEpoch
  if c.opcode = 0xA0 then s.sendEnumA c.ord
  else
    let t := s.time + s.ringTo
    ({ s with ring := { s.ring with run := some (c.ord, 3, s.time), openAt := some t, rejoinAt := some t } }).sendBoth 0x31 4095 (s.tage 0) 8 t

/-- It begins once RING_TO has passed since the last change of epoch (R331). -/
def State.ringTry (s : State) (c : Cmd) : State :=
  match s.ring.epochAt with
  | some t => if s.time < t + s.ringTo then s else s.ringBegin c
  | none => s.ringBegin c

/-- KR_ENUMERATE and KR_REJOIN: refused while either runs (R315). -/
def State.ringRun (s : State) (c : Cmd) : State :=
  match s.ring.run with
  | none => (({ s with ring := { s.ring with run := some (c.ord, 2, s.time) } }).setRb rKR_STAT 26 true).ringTry c
  | some (o, k, _) => if o ≠ c.ord then s.finish c 0x17 (pack [(39, 32, 9)]) else if k = 2 then s.ringTry c else s

def execKrEnumerate (e : Fin 64) (s : State) : Host.Outcome State Fault Refusal := execute (fun s => s.command 0xA0 0xA0 e State.ringRun) s
def execKrRejoin (e : Fin 64) (s : State) : Host.Outcome State Fault Refusal := execute (fun s => s.command 0xA2 0xA2 e State.ringRun) s

/-- Accesses of the epoch before can no longer be answered: their commands see a failed access (R335). -/
def State.dropAccs (s : State) : State :=
  let l := s.ring.accs.filter (fun a => a.tag.isSome)
  let s := l.foldl (fun s a => s.modCmd a.ord (fun c => { c with failed := true })) s
  { s with ring := { s.ring with accs := s.ring.accs.filter (fun a => a.tag.isNone && !l.any (fun b => b.ord = a.ord)) } }

/-- A slave takes ADDR from the KA token (R330 step 3, R352). -/
def State.takeAddr (s : State) (next ep : Nat) : State :=
  let s := if s.epoch ≠ ep then s.dropAccs else s
  let s := if s.addr ≠ 0xFFF ∧ s.addr ≠ next then s.setRb rKR_STAT 7 true else s
  let s := { s with addr := next, enumd := true, ring := { s.ring with
    map := s.rf rKR_CFG 7 0, epochAt := some s.time, newEpoch := none, markA := s.time, missA := 0 } }
  (s.setRf rKR_STAT 28 27 ep).setRb rKR_TIME 29 false

/-- The KA token at a slave. -/
def State.enumASlave (s : State) (f : Frame) : State :=
  let next := f.get 15 0
  let r := s.segment
  let s := if next ≤ 4094 then r.2.takeAddr next f.epoch else r.2
  let d := (f.get 47 16 + 16 * r.1) % 2 ^ 32
  let s := s.setReg rKR_DLY_A (BitVec.ofNat 32 d)
  s.passOn 1 { f with pay := BitVec.ofNat 576 (pack [(15, 0, next + 1), (47, 16, d + 8192), (79, 48, f.get 79 48)]) }

/-- The KA token back at the master: ENUM_B goes out (R330 step 4). -/
def State.enumAMaster (s : State) (f : Frame) : State :=
  match s.ring.run with
  | some (o, 0, _) =>
    if f.epoch ≠ s.epoch then s
    else
      let r := s.segment
      let s := r.2.modCmd o (fun c => { c with result := min (f.get 15 0) 4095 })
      let s := s.setReg rKR_DLY_A (BitVec.ofNat 32 (f.get 47 16 + 16 * r.1))
      ({ s with ring := { s.ring with run := some (o, 1, s.time) } }).sendOn true 2 4095 (s.tage 0) 4 ((6144 + 16 * r.1) % 2 ^ 32)
  | _ => s

/-- A token that is faulty, or comes in where it is not used, goes no further than any frame (R328). -/
def State.badToken (s : State) (f : Frame) (ring : Bool) : State :=
  if s.onRing ring f.kb then s.badFrame f.kb else s.badPass f

/-- ENUM_A; a master discards another master's, on whichever port it comes in (R324). -/
def State.enumA (s : State) (f : Frame) : State :=
  if !s.portsOn then s
  else if f.bad 1 then s.badToken f false
  else if s.portLost f.kb then s
  else if s.master && f.get 79 48 != s.uid % 2 ^ 32 then s.setRb rKR_STAT 3 true
  else if !s.onRing false f.kb then s.passOn 1 f
  else if s.master then s.enumAMaster f
  else s.enumASlave f

def execEnumA (f : Frame) (s : State) : Host.Outcome State Fault Refusal := execute (fun s => s.enumA f) s

/-- The KB token at a slave (R330 step 5). -/
def State.enumBSlave (s : State) (f : Frame) : State :=
  let r := s.segment
  (r.2.setReg rKR_DLY_B (BitVec.ofNat 32 (f.get 31 0))).passOn 2 { f with pay := BitVec.ofNat 576 ((f.get 31 0 + 8192 + 16 * r.1) % 2 ^ 32) }

/-- The KB token back at the master: the command finishes (R315, R330 step 6). -/
def State.enumBMaster (s : State) (f : Frame) : State :=
  match s.ring.run with
  | some (o, 1, _) =>
    if f.epoch ≠ s.epoch then s
    else
      let s := s.setReg rKR_DLY_B (BitVec.ofNat 32 (f.get 31 0))
      match s.cmdOf o with
      | some c =>
        let n := c.result
        let s := ((({ s with ring := { s.ring with run := none } }).setRb rKR_STAT 26 false).setRb rKR_STAT 1 true).setRf rKR_STAT 23 12 n
        s.finish c 0 (pack [(15, 0, n), (31, 16, n - 1), (39, 32, s.epoch), (95, 64, roundDiv (s.reg rKR_DLY_A).toNat 256)])
      | none => { s with ring := { s.ring with run := none } }
  | _ => s

/-- ENUM_B. -/
def State.enumB (s : State) (f : Frame) : State :=
  if !s.portsOn then s
  else if f.bad 2 then s.badToken f true
  else if s.portLost f.kb then s
  else if !s.onRing true f.kb then s.passOn 2 f
  else if s.master then s.enumBMaster f
  else s.enumBSlave f

def execEnumB (f : Frame) (s : State) : Host.Outcome State Fault Refusal := execute (fun s => s.enumB f) s

/-- ENUM_TIMEOUT: a token has not returned within 64 × RING_TO. -/
def State.enumTimeout (s : State) : State :=
  match s.ring.run with
  | some (o, k, t) =>
    if k < 2 ∧ t + 64 * s.ringTo < s.time + 4 then
      let s := ({ s with ring := { s.ring with run := none } }).setRb rKR_STAT 26 false
      match s.cmdOf o with | some c => s.finish c 0x40 0 | none => s
    else s
  | none => s

def execEnumTimeout (s : State) : Host.Outcome State Fault Refusal := execute State.enumTimeout s

/-! ### Commands and completions (R318, R319, R332, R336) -/

/-- The command a CMD frame carries. -/
def Frame.command (f : Frame) (ord ent : Nat) : Cmd :=
  { ord := ord, ent := ent, qp := f.get 4 0, seq := f.get 47 32, tag := f.get 95 80, opcode := f.get 55 48, flags := f.get 63 56
    target := f.get 79 64, ops := BitVec.ofNat 192 (f.get 287 96), ring := some (f.src, f.tage.toNat) }

/-- A slave takes a command; a broadcast once, where the frame is on the ring it was sent on. -/
def State.takeCmd_ (s : State) (f : Frame) : State :=
  if s.master || !s.enumd || (f.dst.val == 4095 && !s.onRing f.dir f.kb) then s
  else { s with nextOrd := s.nextOrd + 1, cmds := s.cmds ++ [f.command s.nextOrd s.freeEntry] }.rewrote 8 (7 * s.freeEntry) 7

def execCmd (f : Frame) (s : State) : Host.Outcome State Fault Refusal := execute (fun s => s.takeFrame 0x10 f (fun s => s.takeCmd_ f)) s

/-- A victim that its slave aborted counts here too (R296, R336). -/
def State.abortCount (s : State) (c : Cmd) (st : Nat) : State :=
  if st % 128 = 2 && s.abortsOut.any (fun x => x.1 == c.qp && x.2.entry == some c.ent) then s.bump (rQP_CNT c.qp) 7 0 else s

/-- A slave's completion finishes the command (R332); NOP's result gains the time since its forwarding (R300). -/
def State.takeCpl (s : State) (c : Cmd) (f : Frame) : State :=
  let st := f.get 31 24
  let s := s.abortCount c st
  if c.target = 4095 then s.reply c.ord f.src (st % 128)
  else if cplDue c.flags (st % 128) then
    let res := if c.opcode = 0 then setFld (BitVec.ofNat 96 (f.get 255 160)) 31 0 (s.time - c.sentAt) else BitVec.ofNat 96 (f.get 255 160)
    (s.modCmd c.ord (fun c => { c with done := true, status := st % 128, result := res.toNat })).postAs
      { qp := c.qp, opcode := c.opcode, status := st, source := f.src, tag := c.tag, seq := c.seq, time := f.get 159 96
        result := res.toNat, irq := c.flags / 4 % 2 = 1, free := (s.qp c.qp).drain, cmd := some c.ord }
  else { s with cmds := s.cmds.filter (fun x => x.ord ≠ c.ord) }

/-- The ABORT's own completion from its slave (R336). -/
def State.takeAbortCpl (s : State) (f : Frame) : State :=
  match s.abortsOut.find? (fun x => x.2.entry == some f.tag) with
  | some (q, r) =>
    (s.abortDrop q r).postAs { qp := q, opcode := 3, status := f.get 31 24, source := f.src, tag := r.tag, seq := r.seq, time := f.get 159 96
                               result := f.get 255 160, irq := r.flags / 4 % 2 = 1, free := (s.qp q).drain }
  | none => s.stale

/-- CPL at the master. -/
def State.cplFrame (s : State) (f : Frame) : State :=
  if !s.master then s
  else if s.oldEpoch f then s.stale
  else if f.get 23 16 = 3 then s.takeAbortCpl f
  else
    match s.cmds.find? (fun c => c.ent = f.tag && s.forwarded c) with
    | some c => s.takeCpl c f
    | none => s.stale

def execCpl (f : Frame) (s : State) : Host.Outcome State Fault Refusal := execute (fun s => s.takeFrame 0x11 f (fun s => s.cplFrame f)) s

/-- ABORT_FWD at a slave. -/
def execAbortFwd (f : Frame) (s : State) : Host.Outcome State Fault Refusal :=
  execute (fun s => s.takeFrame 0x15 f (fun s => if s.master then s
    else { s with ring := { s.ring with aborts := s.ring.aborts ++ [({ tage := f.get 5 0 + 64 * f.epoch, at_ := s.time } : FwdAbort)] } })) s

/-! ### Entries of slaves (R334) -/

/-- Entries of slaves the master holds for forwarding, each of the two of a shot record by itself. -/
def State.heldEntries (s : State) : Nat :=
  ((s.hands.filter (fun h => h.prod = 4)).map (fun h => h.entries.length)).sum + ((below 32).map (fun q => ((s.qp q).wait.filter (fun c => c.source ≠ 0 && c.cmd.isNone && c.opcode ≠ 3)).length)).sum

/-- The master answers a slave's entry with ACK or NACK. -/
def State.answer (s : State) (ok : Bool) (typ : Nat) (f : Frame) : State :=
  s.sendOn false (if ok then 0x13 else 0x14) f.src (s.tage f.tag) 4 (echo typ f.tage.toNat)

/-- An entry's epoch is neither the present one nor the one before (R335). -/
def State.oldEntry (s : State) (f : Frame) : Bool := (s.epoch + 4 - f.epoch) % 4 == 2

/-- ECPL at the master. -/
def State.ecpl (s : State) (f : Frame) : State :=
  let q := f.get 84 80
  if !s.master then s
  else if s.oldEntry f then s.stale
  else if !s.qpEn q || !s.cqRoom q || decide (16 ≤ s.heldEntries) then s.answer false 0x12 f
  else
    let irq := s.ring.irqArms.contains (f.src.val, q, f.get 79 64)
    (s.postAs { qp := q, opcode := f.get 23 16, status := f.get 31 24, source := f.src, tag := f.get 63 48, seq := f.get 79 64
                time := f.get 159 96, result := f.get 255 160, irq := irq }).answer true 0x12 f

def execEcpl (f : Frame) (s : State) : Host.Outcome State Fault Refusal := execute (fun s => s.takeFrame 0x12 f (fun s => s.ecpl f)) s

/-- Record entry `k` of a RECORD frame. -/
def Frame.entry (f : Frame) (k : Nat) : Nat × Nat × Nat × Nat × Nat × Nat :=
  let o := 32 + 256 * k
  (f.get (o + 23) (o + 16), f.get (o + 31) (o + 24), f.get (o + 47) (o + 32), f.get (o + 63) (o + 48), f.get (o + 127) (o + 64), f.get (o + 255) (o + 128))

/-- RECORD at the master. -/
def State.recordFrame (s : State) (f : Frame) : State :=
  let r := f.get 2 0
  let n := (f.len.toNat - 4) / 32
  if !s.master then s
  else if s.oldEntry f then s.stale
  else if s.rsNoRoom r n || decide (16 < s.heldEntries + n) then s.answer false 0x20 f
  else (s.hand { rs := r, prod := 4, at_ := s.time, entries := (below n).map f.entry }).answer true 0x20 f

def execRecord (f : Frame) (s : State) : Host.Outcome State Fault Refusal := execute (fun s => s.takeFrame 0x20 f (fun s => s.recordFrame f)) s

/-- IRQ_NOTE at the master (R408). -/
def State.irqNote (s : State) (f : Frame) : State :=
  if !s.master then s
  else if 16 ≤ s.ring.notices.length then (s.bump rINT_GSTAT 15 0).answer false 0x21 f
  else ({ s with ring := { s.ring with notices := s.ring.notices ++ [(f.src.val, f.get 23 16, f.get 15 0)] } }).answer true 0x21 f

def execIrqNote (f : Frame) (s : State) : Host.Outcome State Fault Refusal := execute (fun s => s.takeFrame 0x21 f (fun s => s.irqNote f)) s

/-! ### Accesses of slaves (R333) -/

/-- The master takes a slave's access; it is issued and answered in arrival order. -/
def State.takeAccess (s : State) (f : Frame) (write : Bool) (len val : Nat) : State :=
  let a : SAcc := { id := s.ring.nextId, src := f.src, tage := f.tage.toNat, write := write, addr := f.get 63 0, len := len, val := val }
  { s with ring := { s.ring with saccs := s.ring.saccs ++ [a], nextId := s.ring.nextId + 1 } }

/-- DMA_RD at the master. -/
def State.dmaRd (s : State) (f : Frame) : State :=
  if s.master then (s.takeAccess f false (f.get 95 64) 0).saccFlush else s

def execDmaRd (f : Frame) (s : State) : Host.Outcome State Fault Refusal := execute (fun s => s.takeFrame 0x18 f (fun s => s.dmaRd f)) s

/-- DMA_WR at the master. -/
def State.dmaWr (s : State) (f : Frame) : State :=
  if s.master then (s.takeAccess f true (f.len.toNat - 8) (f.get 575 64)).saccFlush else s

def execDmaWr (f : Frame) (s : State) : Host.Outcome State Fault Refusal := execute (fun s => s.takeFrame 0x1A f (fun s => s.dmaWr f)) s

/-- RING_TO has passed since the last symbol of an access's frame. -/
def State.accLate (s : State) (a : Acc) : Bool := decide (a.sent + s.ringTo < s.time)

/-- The slave's access that a reply with a TAG answers, as long as it is awaited (R335). -/
def State.accOf (s : State) (tag : Nat) (write : Bool) : Option Acc :=
  s.ring.accs.find? (fun a => a.tag == some tag && a.write == write && !s.accLate a)

/-- The access is over, and the next may be sent. -/
def State.accDone (s : State) (a : Acc) : State := ({ s with ring := { s.ring with accs := s.ring.accs.erase a } }).sendAccs

/-- The access failed: its command sees a failed access, and what it had not sent is dropped. -/
def State.accFail (s : State) (a : Acc) : State :=
  let s := s.modCmd a.ord (fun c => { c with failed := true })
  ({ s with ring := { s.ring with accs := (s.ring.accs.erase a).filter (fun b => b.ord ≠ a.ord || b.tag.isSome) } }).sendAccs

/-- RING_TIMEOUT at the master: no reply for the command in entry `e`, or for the ABORT of it, RING_TO after the last symbol of its
frame (a CMD frame lasts 192 ns, an ABORT_FWD frame 64 ns). -/
def State.ringTimeout (s : State) (e : Nat) : State :=
  let s := match s.abortsOut.find? (fun x => x.2.entry == some e && decide (x.2.at_ + 64 + s.ringTo < s.time + 4)) with
    | some x => s.abortEnds x 0x40
    | none => s
  match s.cmds.find? (fun c => c.ent = e && s.forwarded c) with
  | some c => if c.sentAt + 192 + s.ringTo < s.time + 4 then s.forwardEnds c 0x40 else s
  | none => s

/-- RING_TIMEOUT at a slave: the access with tag `e` has had no answer; it has failed (R328, R332). -/
def State.accTimeout (s : State) (e : Nat) : State :=
  match s.ring.accs.find? (fun a => a.tag == some e && decide (a.sent + s.ringTo < s.time + 4)) with
  | some a => s.accFail a
  | none => s

def execRingTimeout (e : Fin 64) (s : State) : Host.Outcome State Fault Refusal :=
  execute (fun s => if s.master then s.ringTimeout e else s.accTimeout e) s

/-- DMA_DATA at a slave. -/
def State.dmaData (s : State) (f : Frame) : State :=
  if s.master then s
  else if s.oldEpoch f then s.stale
  else
    match s.accOf f.tag false with
    | some a => (s.accDone a).fetchData a.ord a.len f.pay.toNat
    | none => s.stale

def execDmaData (f : Frame) (s : State) : Host.Outcome State Fault Refusal := execute (fun s => s.takeFrame 0x19 f (fun s => s.dmaData f)) s

/-! ### ACK, NACK and sending again (R333, R334, R408) -/

/-- The unanswered frame `k` has been accepted. -/
def State.entryAcked (s : State) (k : Nat) : State :=
  if !s.ring.unans.any (fun u => u.key = k) then s.stale
  else
    let s := { s with ring := { s.ring with unans := s.ring.unans.filter (fun u => u.key ≠ k) } }
    if k = 8 then
      match s.fwd.find? (fun c => c.slot.isSome) with
      | some c => ({ s with fwd := s.fwd.erase c }).cplGone c
      | none => s
    else
      match s.ring.outbox.find? (fun h => h.rs = k) with
      | some h => { s with ring := { s.ring with outbox := s.ring.outbox.erase h } }
      | none => s

/-- The key of an echoed TYPE and TAG: 8 the event completions, else a stream. -/
def entryKey (typ tag : Nat) : Nat := if typ = 0x12 then 8 else tag % 8

/-- The source of the notice with a TAG, where its answer is awaited. -/
def State.noteOf (s : State) (tag : Nat) : Option Nat := ((s.tgt (tag % 16)).sent.find? (fun n => n.1 = tag)).map Prod.snd

/-- The notice with a TAG has been answered; the ones before it never will be. -/
def State.noteGone (s : State) (tag : Nat) : State :=
  let t := s.tgt (tag % 16)
  s.setTgt (tag % 16) { t with sent := (t.sent.dropWhile (fun n => n.1 != tag)).tail }

/-- ACK at a slave; at the master nothing awaits one, so it is stale or late (R335). -/
def State.ack (s : State) (f : Frame) : State :=
  let typ := f.get 7 0
  let tag := f.get 13 8
  if s.master || s.oldEpoch f then s.stale
  else if typ = 0x1A then (match s.accOf tag true with | some a => s.accDone a | none => s.stale)
  else if typ = 0x21 then (match s.noteOf tag with | some i => (s.noteGone tag).takeSource (tag % 16) i | none => s.stale)
  else s.entryAcked (entryKey typ tag)

def execAck (f : Frame) (s : State) : Host.Outcome State Fault Refusal := execute (fun s => s.takeFrame 0x13 f (fun s => s.ack f)) s

/-- NACK at a slave: an entry goes again after 4 µs, a notice may, an access has failed. -/
def State.nack (s : State) (f : Frame) : State :=
  let typ := f.get 7 0
  let tag := f.get 13 8
  if s.master then s
  else if s.oldEpoch f then s.stale
  else
    let s := s.bump rKR_CNT_B 7 0
    if typ = 0x18 ∨ typ = 0x1A then (match s.accOf tag (typ == 0x1A) with | some a => s.accFail a | none => s.stale)
    else if typ = 0x21 then
      (match s.noteOf tag with
       | some i =>
         let s := s.noteGone tag
         if (s.tgt (tag % 16)).await = some i then s.setTgt (tag % 16) { s.tgt (tag % 16) with retry := some (s.time + 4000) } else s
       | none => s.stale)
    else
      let k := entryKey typ tag
      if !s.ring.unans.any (fun u => u.key = k) then s.stale
      else { s with ring := { s.ring with unans := s.ring.unans.map (fun (u : Unans) => if u.key = k then { u with again := some (s.time + 4000) } else u) } }

def execNack (f : Frame) (s : State) : Host.Outcome State Fault Refusal := execute (fun s => s.takeFrame 0x14 f (fun s => s.nack f)) s

/-- The frame of the unanswered entry `k` is sent. -/
def State.sendEntry (s : State) (k : Nat) : State :=
  if k = 8 then
    match s.fwd.find? (fun c => c.slot.isSome) with
    | some c => s.sendTo 0x12 0 (s.tage 8) 32 (c.bytes 0)
    | none => s
  else
    match s.ring.outbox.find? (fun h => h.rs = k) with
    | some h => s.sendRecord k h
    | none => s

/-- FORWARD_RETRY: 4 µs after a NACK, or RING_TO without an answer. -/
def State.forwardRetry (s : State) (k : Nat) : State :=
  match s.ring.unans.find? (fun u => u.key = k) with
  | some u =>
    if (match u.again with | some t => t | none => u.sent + s.ringTo) < s.time + 4 then
      ({ s with ring := { s.ring with unans := s.ring.unans.map (fun (x : Unans) => if x.key = k then { x with sent := s.time, again := none } else x) } }).sendEntry k
    else s
  | none => s

def execForwardRetry (k : Fin 9) (s : State) : Host.Outcome State Fault Refusal := execute (fun s => if s.master then s else s.forwardRetry k) s

/-! ### Heartbeats at a slave (R337) -/

/-- HB: the reference, or the declaration. -/
def State.hbFrame (s : State) (f : Frame) : State :=
  if s.master then s
  else
    let s := { s with poll := { s.poll with hbEn := bit f.pay 0, hbTmo := f.get 31 16 } }
    if bit f.pay 1 then s.slaveLost else { s with poll := { s.poll with ref := s.time } }

def execHb (f : Frame) (s : State) : Host.Outcome State Fault Refusal := execute (fun s => s.takeFrame 7 f (fun s => s.hbFrame f)) s

/-! ### Breaks and rejoin (R348 to R351) -/

/-- A looping device is recorded at the master. -/
def State.noteBreak (s : State) (addr : Nat) (kb : Bool) : State :=
  if s.master then
    let s := s.setRb rKR_STAT 0 true
    if kb then s.setRf rKR_BREAK 27 16 addr else s.setRf rKR_BREAK 11 0 addr
  else s

/-- A port has no signal any more: it no longer decodes, and is not repaired. -/
def State.portDown (s : State) (kb : Bool) : State :=
  let o := if kb then 4 else 0
  ({ (((s.setRb rKR_PORT (31 - o) false).setRb rKR_PORT (30 - o) false).setRb rKR_PORT 24 false) with
    ring := { s.ring with cleanAt := none } })

/-- PORT_LOST: the device loops back and reports; a port lost again while its loop-back stands begins no other. -/
def State.portLoss (s : State) (kb : Bool) : State :=
  if !s.portsOn then s
  else if s.portLost kb then s.portDown kb
  else
    let s := ((s.portDown kb).setRb rKR_PORT (if kb then 25 else 29) true).setRb rKR_STAT 0 true
    let s := (s.bump rKR_CNT_B 31 24).noteBreak s.devAddr kb
    s.sendBoth 0x30 0 (s.tage 0) 4 (pack [(11, 0, s.devAddr), (16, 16, kb.toNat)])

def execPortLost (kb : Bool) (s : State) : Host.Outcome State Fault Refusal := execute (fun s => s.crossPulse (1 + kb.toNat) s.coreAt 48 (fun s => s.portLoss kb)) s

/-- PORT_DECODE_LOCK: a port has signal and decodes; after a loss its FIFOs are brought back (R450). -/
def State.portLock (s : State) (kb : Bool) : State :=
  if !s.portsOn then s
  else
    let o := if kb then 4 else 0
    let s := (s.setRb rKR_PORT (31 - o) true).setRb rKR_PORT (30 - o) true
    if s.portLost kb then ({ s with ring := { s.ring with cleanAt := some s.time } }).bump rXING_CNT 15 8 else s

def execPortDecodeLock (kb : Bool) (s : State) : Host.Outcome State Fault Refusal := execute (fun s => s.crossPulse (3 + kb.toNat) s.coreAt 48 (fun s => s.portLock kb)) s

/-- PORT_REPAIRED: the lost port has decoded without error for 1 ms. -/
def execPortRepaired (s : State) : Host.Outcome State Fault Refusal :=
  execute (fun s => match s.ring.cleanAt with
    | some t => if (s.portLost false || s.portLost true) && decide (t + 1000000 < s.time + 4) then s.setRb rKR_PORT 24 true else s
    | none => s) s

/-- BREAK at the master. -/
def execBreakFrame (f : Frame) (s : State) : Host.Outcome State Fault Refusal :=
  execute (fun s => s.takeFrame 0x30 f (fun s => s.noteBreak (f.get 11 0) (bit f.pay 16))) s

/-- REJOIN at a slave: the opening time. -/
def execRejoin (f : Frame) (s : State) : Host.Outcome State Fault Refusal :=
  execute (fun s => s.takeFrame 0x31 f (fun s => { s with ring := { s.ring with openAt := some (f.get 63 0) } })) s

/-- A loop-back whose port reads REPAIRED ends. -/
def State.loopOpen (s : State) : State :=
  match s.ring.openAt with
  | some t =>
    if t < s.time + 4 then
      let s := { s with ring := { s.ring with openAt := none } }
      if s.rb rKR_PORT 24 then
        (((s.setRb rKR_PORT 29 false).setRb rKR_PORT 25 false).setRb rKR_PORT 24 false) else s
    else s
  | none => s

/-- LOOPBACK_OPEN: the loop-backs open, and at the master the enumeration of a KR_REJOIN begins (R350). -/
def State.loopbackOpen (s : State) : State :=
  let s := s.loopOpen
  match s.ring.run, s.ring.rejoinAt with
  | some (o, 3, _), some t => if t < s.time + 4 then ({ s with ring := { s.ring with rejoinAt := none } }).sendEnumA o else s
  | _, _ => s

def execLoopbackOpen (s : State) : Host.Outcome State Fault Refusal := execute State.loopbackOpen s

/-- A WAKE burst of 100 µs on both ports (R351). -/
def State.wakeBurst (s : State) : State := s.emit (.pulse 3 s.time)

/-- WAKE_FORWARD. -/
def execWakeForward (s : State) : Host.Outcome State Fault Refusal :=
  execute (fun s => if s.ring.wakeFwd && s.rb rKR_CFG 30 && s.portsOn then ({ s with ring := { s.ring with wakeFwd := false } }).wakeBurst else s) s

/-- SEND: a write of 1 to KR_WAKE.SEND. -/
def State.krSend (s : State) : State := if s.master && s.portsOn then s.wakeBurst else s
def execSend (s : State) : Host.Outcome State Fault Refusal := execute State.krSend s

/-! ### Registers (R352) -/

/-- A write of KR_CFG: one that changes ANG_TX on a slave or ANG_MAP on a master is ignored. -/
def State.krCfgWrite (s : State) (v : Word) : State :=
  let v := v &&& 0xCFFFFFFF
  let old := s.reg rKR_CFG
  if s.master then (if fld v 7 0 = fld old 7 0 then s.setReg rKR_CFG v else s)
  else if fld v 27 24 = fld old 27 24 then s.setReg rKR_CFG (setBit v 31 false) else s

/-- KR_CFG and KR_STAT as read. -/
def State.krCfgRead (s : State) : Word := if s.master then s.reg rKR_CFG else setBit (s.reg rKR_CFG) 31 true
def State.krStatRead (s : State) : Word :=
  let st := if !s.portsOn then 0 else if s.portLost false || s.portLost true then 3 else if s.master || s.enumd then 2 else 1
  setFld (s.reg rKR_STAT) 31 29 st
/-- KR_TIME as read: the master reads LOCK. -/
def State.krTimeRead (s : State) : Word := if s.master then setFld (s.reg rKR_TIME) 31 30 2 else s.reg rKR_TIME

/-- KR_STATUS (R315). -/
def State.krStatus (s : State) (c : Cmd) : State :=
  s.finish c 0 (pack [(31, 0, (s.reg rKR_PORT).toNat), (63, 32, roundDiv (s.rf rKR_HOP 15 0) 16), (79, 64, s.rf rKR_CNT_A 31 16), (87, 80, s.epoch)])

def execKrStatus (e : Fin 64) (s : State) : Host.Outcome State Fault Refusal := execute (fun s => s.command 0xA1 0xA1 e State.krStatus) s

end Sys2Proof.Machine
end

