-- ==== Sys2Proof/Machine/PzIsa.lean ====
section
/-! DEFINITION. The Pretzel instruction set (chapter 13, R361, Tables 13.1 and 13.2): instructions, their decoding from a
16-bit word, and the words of the legal ones. -/

namespace Sys2Proof.Machine

/-- A legal instruction of a Pretzel engine, without its TRAIL. COUNT is as encoded: 0 means 32. -/
inductive PzOp where
  | jmp (test : Fin 15) (addr : Fin 64)
  | waitPin (pol : Bool) (index : Fin 32)
  | waitFrame
  | waitTick
  | in_ (src : Fin 7) (count : Fin 32)
  | out (dst : Fin 6) (count : Fin 32)
  | push (wait cond eor : Bool)
  | pull (wait cond : Bool)
  | mov (dst : Fin 6) (src : Fin 8) (fn : Fin 4)
  | set (dst : Fin 4) (data : Fin 256)
  | flag (fop : Fin 3) (index : Fin 32)
  | flagWait (pol : Bool) (index : Fin 32)
  | xfer (src dst : Fin 4) (count : Fin 32)
  | pause (n : Fin 1024)
deriving DecidableEq, Repr

/-- The operation code, bits 15:12 of the word. -/
def PzOp.op : PzOp → Nat
  | .jmp _ _ => 0
  | .waitPin _ _ | .waitFrame | .waitTick => 1
  | .in_ _ _ => 2
  | .out _ _ => 3
  | .push _ _ _ => 4
  | .pull _ _ => 5
  | .mov _ _ _ => 6
  | .set _ _ => 7
  | .flag _ _ | .flagWait _ _ => 8
  | .xfer _ _ _ => 9
  | .pause _ => 10

/-- Bits 9:0 of the word (Table 13.1). -/
def PzOp.operand : PzOp → Nat
  | .jmp t a => t.val * 64 + a.val
  | .waitPin p i => p.toNat * 128 + i.val
  | .waitFrame => 256
  | .waitTick => 512
  | .in_ s c => s.val * 128 + c.val
  | .out d c => d.val * 128 + c.val
  | .push w c e => w.toNat * 512 + c.toNat * 256 + e.toNat * 128
  | .pull w c => w.toNat * 512 + c.toNat * 256
  | .mov d s f => d.val * 128 + s.val * 16 + f.val * 4
  | .set d x => d.val * 256 + x.val
  | .flag f i => f.val * 256 + i.val
  | .flagWait p i => 768 + p.toNat * 128 + i.val
  | .xfer s d c => s.val * 256 + d.val * 64 + c.val
  | .pause n => n.val

/-- The word of an instruction with its TRAIL. -/
def pzEncode (i : PzOp) (trail : Fin 4) : BitVec 16 := BitVec.ofNat 16 (i.op * 4096 + trail.val * 1024 + i.operand)

/-- A value as an index below `n`, if it is one. -/
def index? (n v : Nat) : Option (Fin n) := if h : v < n then some ⟨v, h⟩ else none

/-- JMP. -/
def pzJmp (x : Nat) : Option PzOp := (index? 15 (x / 64)).map (fun t => .jmp t (Fin.ofNat 64 x))

/-- WAIT. -/
def pzWait (x : Nat) : Option PzOp :=
  if x / 32 % 4 ≠ 0 then none
  else if x / 256 = 0 then some (.waitPin (x / 128 % 2 = 1) (Fin.ofNat 32 x))
  else if x = 256 then some .waitFrame
  else if x = 512 then some .waitTick
  else none

/-- IN and OUT. -/
def pzIn (x : Nat) : Option PzOp := if x / 32 % 4 ≠ 0 then none else (index? 7 (x / 128)).map (fun s => .in_ s (Fin.ofNat 32 x))
def pzOut (x : Nat) : Option PzOp := if x / 32 % 4 ≠ 0 then none else (index? 6 (x / 128)).map (fun d => .out d (Fin.ofNat 32 x))

/-- PUSH and PULL. -/
def pzPush (x : Nat) : Option PzOp := if x % 128 ≠ 0 then none else some (.push (x / 512 % 2 = 1) (x / 256 % 2 = 1) (x / 128 % 2 = 1))
def pzPull (x : Nat) : Option PzOp := if x % 256 ≠ 0 then none else some (.pull (x / 512 % 2 = 1) (x / 256 % 2 = 1))

/-- MOV. -/
def pzMov (x : Nat) : Option PzOp :=
  if x % 4 ≠ 0 then none else (index? 6 (x / 128)).map (fun d => .mov d (Fin.ofNat 8 (x / 16)) (Fin.ofNat 4 (x / 4)))

/-- FLAG. -/
def pzFlag (x : Nat) : Option PzOp :=
  if x / 32 % 4 ≠ 0 then none
  else
    match index? 3 (x / 256) with
    | some f => if x / 128 % 2 = 1 then none else some (.flag f (Fin.ofNat 32 x))
    | none => some (.flagWait (x / 128 % 2 = 1) (Fin.ofNat 32 x))

/-- XFER. -/
def pzXfer (x : Nat) : Option PzOp :=
  if x / 32 % 2 ≠ 0 then none else some (.xfer (Fin.ofNat 4 (x / 256)) (Fin.ofNat 4 (x / 64)) (Fin.ofNat 32 x))

/-- The instruction of an operation code and its operand bits; none is illegal (R361). -/
def pzOperation (op x : Nat) : Option PzOp :=
  match op with
  | 0 => pzJmp x
  | 1 => pzWait x
  | 2 => pzIn x
  | 3 => pzOut x
  | 4 => pzPush x
  | 5 => pzPull x
  | 6 => pzMov x
  | 7 => some (.set (Fin.ofNat 4 (x / 256)) (Fin.ofNat 256 x))
  | 8 => pzFlag x
  | 9 => pzXfer x
  | 10 => some (.pause (Fin.ofNat 1024 x))
  | _ => none

/-- The instruction a word holds, and its TRAIL. -/
def pzDecode (w : BitVec 16) : Option (PzOp × Fin 4) :=
  (pzOperation (w.toNat / 4096) (w.toNat % 1024)).map (fun i => (i, Fin.ofNat 4 (w.toNat / 1024)))

end Sys2Proof.Machine
end

