-- ==== Sys2Proof/Machine/Tables.lean ====
section
/-! DEFINITION. LOAD_TABLE and READ_TABLE (R52 to R55, R85, R134 to R136, R187, R188, R302, R303). -/

namespace Sys2Proof.Machine

/-! ### Operand checks (Tables 2.14 and 11.3) -/

/-- Per kind (Table 11.3): objects there are, what BUF_ADDR is a multiple of, bytes of the image per object. -/
def tableLimit (k : Nat) : Nat := match k with | 0 => 1024 | 1 => 1024 | 2 => 64 | 3 => 96 | _ => 64
def tableAlign (k : Nat) : Nat := if k = 2 then 16 else 8
def tableBytes (k : Nat) : Nat := match k with | 0 => 8 | 1 => 8 | 2 => 128 | 3 => 128 | _ => 2

/-- Operand checks: reason 0x08, then 0x01. -/
def tableOperands (c : Cmd) (read : Bool) : Option Nat :=
  let k := c.tKind
  if 4 < k || c.tBuf % tableAlign k != 0 || c.byte 20 / 4 % 4 != 0 || ((k == 2 || k == 3) && c.tIdx != 0) || 2 ≤ c.byte 21 || !c.zeros 28 31
      || (read && (c.tCommit || c.tLen != 0 || c.tZero != 0)) then some 8
  else if tableLimit k ≤ c.tFirst || tableLimit k < c.tFirst + c.tCount || (k == 0 && c.tCommit && (c.tLen < 3 || 1024 < c.tLen)) then some 1
  else none

/-- Result bytes 20 to 31 (R55). -/
def tableResult (n entry reason : Nat) : Nat := pack [(15, 0, n), (31, 16, entry), (39, 32, reason)]

/-- Table commands execute one at a time, in the order in which they start (R303). -/
def State.tableTurn (s : State) (c : Cmd) : Bool :=
  !s.cmds.any (fun x => (x.opcode == 0x12 || x.opcode == 0x13) && x.ord != c.ord && !x.done && s.here x &&
    (match x.started, c.started with | some t, some u => decide (t < u) || (decide (t = u) && decide (x.ord < c.ord)) | _, _ => false))

/-! ### Loads -/

/-- The 40-bit words of an image. -/
def Cmd.image (c : Cmd) (i : Nat) : MemWord := BitVec.ofNat 40 (c.data / 2 ^ (64 * i))

/-- KINDs 0x0 and 0x1 are refused (R55, R344). -/
def State.domBusy (s : State) (d : Nat) : Bool := s.domRing d || !((s.dom d).cur.st == 0 || (s.dom d).cur.st == 4)

/-- The table of ADOM[d] becomes invalid, and row 1 of Table 3.2 acts in the domain's next slot (R53, R83). -/
def State.tableOff (s : State) (d : Nat) : State :=
  s.setDom d { s.dom d with tableValid := false, row1 := some 3 }

/-- The first fault of a tooth table (R52, R55): the entry and the reason of Table 2.15. -/
def State.toothFault (s : State) (d n z : Nat) : Option (Nat × Nat) :=
  let cyc := cycLen (s.dom d).cyc360 / 16
  if cyc ≤ z then some (0xFFFF, 7)
  else (below n).findSome? (fun i =>
    let w := s.tooth d i
    if i = 0 && (teAngle w != 0 || !teSync w || teGap w == 0) then some (i, 2)
    else if 0 < i && teAngle w ≤ teAngle (s.tooth d (i - 1)) then some (i, 3)
    else if cyc ≤ teAngle w then some (i, 4)
    else if teSync w && teGap w == 0 then some (i, 5)
    else if fld w 39 29 != 0 then some (i, 6)
    else none)

/-- KIND 0x0: the entries are written, and with COMMIT validated. -/
def State.loadTooth (s : State) (c : Cmd) : State :=
  let d := c.tIdx
  let n := c.tCount
  let s := if n = 0 then s else
    { s with teeth := (below n).foldl (fun (t : Tab MemWord) i => tabSet 0 t (1024 * d + c.tFirst + i) (c.image i)) s.teeth }.rewrote 1 (1024 * d + c.tFirst) n |>.tableOff d
  if !c.tCommit then s.finish c 0 (tableResult n 0xFFFF 0)
  else match s.toothFault d c.tLen c.tZero with
    | some f => (s.tableOff d).finish c 0x15 (tableResult n f.1 f.2)
    | none =>
      let s := s.setDom d { s.dom d with tableValid := true, tableLen := c.tLen, zeroOfs := c.tZero }
      (({ s with corrs := tabClear (1024 * d) (1024 * d + 1024) s.corrs }.rewrote 2 (1024 * d) 1024).restoreCorr d).finish c 0 (tableResult n 0xFFFF 0)

/-- The fault of a correction word for entry `e` of ADOM[d] (R85). -/
def State.corrFault (s : State) (d e : Nat) (w : MemWord) : Option Nat :=
  let v := sgn 16 (fld w 15 0)
  if fld w 31 16 != 0 then some 6
  else if s.corrBound d e < v.natAbs || (v != 0 && (teSync (s.tooth d e) || decide ((s.dom d).tableLen ≤ e))) then some 9
  else none

/-- KIND 0x1. -/
def State.loadCorr (s : State) (c : Cmd) : State :=
  let d := c.tIdx
  if !(s.dom d).tableValid then s.finish c 0x15 (tableResult 0 0xFFFF 0x0A)
  else match (below c.tCount).findSome? (fun i => (s.corrFault d (c.tFirst + i) (c.image i)).map (fun r => (c.tFirst + i, r))) with
    | some f => s.finish c 0x15 (tableResult 0 f.1 f.2)
    | none => ({ s with corrs := (below c.tCount).foldl (fun (t : Tab MemWord) i => tabSet 0 t (1024 * d + c.tFirst + i) (c.image i)) s.corrs }.rewrote 2
        (1024 * d + c.tFirst) c.tCount).finish c 0
        (tableResult c.tCount 0xFFFF 0)

/-- A profile is named by a slot that is not FREE, or walked by a forced shot (R136); an OUTPUT's walks none (R160). -/
def State.profInUse (s : State) (p : Nat) : Bool :=
  s.slots.any (fun x => x.2.st != 0 && x.2.prof == p) || s.acts.any (fun x => match x.2.shot with | some h => h.forced && h.prof == p && s.cls x.1 != 4 | none => false)

/-- KIND 0x2. -/
def State.loadProf (s : State) (c : Cmd) : State :=
  let get (j i : Nat) : BitVec 128 := BitVec.ofNat 128 (c.data / 2 ^ (1024 * j + 128 * i))
  match (below c.tCount).findSome? (fun j => (profFault (get j)).map (fun f => (8 * (c.tFirst + j) + f.1, f.2))) with
  | some f => s.finish c 0x15 (tableResult 0 f.1 f.2)
  | none => match (below c.tCount).find? (fun j => s.profInUse (c.tFirst + j)) with
    | some j => s.finish c 0x27 (tableResult 0 (c.tFirst + j) 0)
    | none => ({ s with profs := (below (8 * c.tCount)).foldl (fun (t : Tab (BitVec 128)) i =>
        tabSet 0 t (8 * c.tFirst + i) (get (i / 8) (i % 8))) s.profs }.rewrote 6 (24 * c.tFirst) (24 * c.tCount)).finish c 0 (tableResult c.tCount 0xFFFF 0)

/-- KIND 0x3: a load takes effect at once, ahead of words still being learned. -/
def State.loadFb (s : State) (c : Cmd) : State :=
  match (below c.tCount).findSome? (fun j =>
    (fbFault (fun w => c.image (16 * j + w)) (s.rf (rSFB_ACT (c.tFirst + j)) 21 14)).map (fun f => (16 * (c.tFirst + j) + f.1, f.2))) with
  | some f => s.finish c 0x15 (tableResult 0 f.1 f.2)
  | none => ({ (below 4).foldl (fun (s : State) t => s.rewrote 12 (1536 * t + 16 * c.tFirst) (16 * c.tCount)) s with
      fbs := (below (16 * c.tCount)).foldl (fun (t : Tab MemWord) i => tabSet 0 t (16 * c.tFirst + i) (c.image i)) s.fbs
      fbPend := s.fbPend.filter (fun p => p.1 / 16 < c.tFirst || c.tFirst + c.tCount ≤ p.1 / 16) }).finish c 0 (tableResult c.tCount 0xFFFF 0)

/-- Every engine of a Pretzel group is stopped. -/
def State.groupStopped (s : State) (g : Nat) : Bool := (below 4).all (fun k => !(s.pz (4 * g + k)).run)

/-- An instruction is stored; its word is whole again. -/
def State.pzStore (s : State) (g i : Nat) (v : BitVec 16) : State :=
  { s with pzMem := tabSet 0 s.pzMem (64 * g + i) v }.rewrote 10 (32 * g + i / 2) 1

/-- KIND 0x4. -/
def State.loadPz (s : State) (c : Cmd) : State :=
  let g := c.tIdx
  if !s.groupStopped g then s.finish c 0x17 (0x06 * 2 ^ 32)
  else ((below c.tCount).foldl (fun (s : State) i => s.pzStore g (c.tFirst + i) (BitVec.ofNat 16 (c.data / 2 ^ (16 * i)))) s).finish c 0
    (tableResult c.tCount 0xFFFF 0)

/-- A load executes: the image has arrived. -/
def State.loadRun (s : State) (c : Cmd) : State :=
  match c.tKind with
  | 0 => if s.domBusy c.tIdx then s.finish c 0x24 (tableResult 0 0xFFFF 0) else s.loadTooth c
  | 1 => if s.domBusy c.tIdx then s.finish c 0x24 (tableResult 0 0xFFFF 0) else s.loadCorr c
  | 2 => s.loadProf c
  | 3 => s.loadFb c
  | _ => s.loadPz c

/-- LOAD_TABLE: operands, the image, then the load. -/
def State.loadTable (s : State) (c : Cmd) : State :=
  if !s.tableTurn c then s
  else if c.phase = 0 then
    match tableOperands c false with
    | some r => s.finish c 0x15 (tableResult 0 0xFFFF r)
    | none =>
      if c.tCount = 0 then s.loadRun c
      else (s.modCmd c.ord (fun c => { c with phase := 1 })).fetchStart c.ord c.tBuf (tableBytes c.tKind * c.tCount)
  else if c.failed then s.finish c 0x15 (tableResult 0 0xFFFF 8)
  else if c.ready then s.loadRun c else s

def execLoadTable (e : Fin 64) (s : State) : Host.Outcome State Fault Refusal := execute (fun s => s.command 0x12 0x12 e State.loadTable) s

/-! ### Reads (R303) -/

/-- The image of `n` objects from `first`, as one value. -/
def State.tableImage (s : State) (k idx first n : Nat) : Nat :=
  let words (w m : Nat) (get : Nat → Nat) : Nat := (below m).foldr (fun i (a : Nat) => a * 2 ^ w + get i) 0
  match k with
  | 0 => words 64 n (fun i => (s.tooth idx (first + i)).toNat)
  | 1 => words 64 n (fun i => (tabGet 0 s.corrs (1024 * idx + first + i)).toNat)
  | 2 => words 128 (8 * n) (fun i => (tabGet 0 s.profs (8 * first + i)).toNat)
  | 3 => words 64 (16 * n) (fun i => (tabGet 0 s.fbs (16 * first + i)).toNat)
  | _ => words 16 n (fun i => (tabGet 0 s.pzMem (64 * idx + first + i)).toNat)

/-- READ_TABLE's result. -/
def State.readResult (s : State) (c : Cmd) : Nat :=
  let x := s.dom c.tIdx
  if c.tKind = 0 then pack [(15, 0, c.tCount), (31, 16, x.tableLen), (63, 32, x.zeroOfs), (64, 64, x.tableValid.toNat)] else c.tCount

/-- READ_TABLE: the image is written, then the completion. -/
def State.readTable (s : State) (c : Cmd) : State :=
  if !s.tableTurn c then s
  else if c.phase = 0 then
    match tableOperands c true with
    | some r => s.finish c 0x15 (tableResult 0 0xFFFF r)
    | none =>
      if !s.bufReady c.ord then s
      else
        let r := s.readResult c
        let s := (s.modCmd c.ord (fun c => { c with phase := 1, result := r })).bufWrite c.ord c.tBuf (tableBytes c.tKind * c.tCount)
          (s.tableImage c.tKind c.tIdx c.tFirst c.tCount)
        if s.bufReady c.ord then s.finish c 0 r else s
  else if c.failed then s.finish c 0x15 (tableResult 0 0xFFFF 8)
  else if s.bufReady c.ord then s.finish c 0 c.result
  else s

def execReadTable (e : Fin 64) (s : State) : Host.Outcome State Fault Refusal := execute (fun s => s.command 0x13 0x13 e State.readTable) s

end Sys2Proof.Machine
end

