-- ==== Sys2Proof/Machine/Pretzel.lean ====
section
/-! DEFINITION. The Pretzel engines (chapter 13): engine cycles, the eleven operations, queues and data records, shared
flags, control, injection, program memory and the engine registers. Within one core cycle the sender issues the engines in
ascending order, then commands and register writes (R367, R370, log entry 10). -/

namespace Sys2Proof.Machine

/-! ### Settings (R355, R357, R360) -/

/-- D in 256ths of a core cycle (R357). -/
def State.pzDiv (s : State) (p : Nat) : Nat := let n := s.rf (rPZ_CLK p) 31 16; if n = 0 then 256 else n * 256 + s.rf (rPZ_CLK p) 15 8
/-- FULL_LVL: 0 means 32. -/
def State.fullLvl (s : State) (p : Nat) : Nat := let n := s.rf (rPZ_SHIFT p) 26 22; if n = 0 then 32 else n
/-- AUTO bit 0 (load), AUTO bit 1 (store), ORDER. -/
def State.autoLoad (s : State) (p : Nat) : Bool := s.rb (rPZ_SHIFT p) 30
def State.autoStore (s : State) (p : Nat) : Bool := s.rb (rPZ_SHIFT p) 31
def State.order (s : State) (p : Nat) : Bool := s.rb (rPZ_SHIFT p) 29
/-- PINS_LO and WIDTH: above 32 acts as 32. -/
def State.pinsLo (s : State) (p : Nat) : Nat := s.rf (rPZ_PINS p) 31 27
def State.pinsWidth (s : State) (p : Nat) : Nat := min 32 (s.rf (rPZ_PINS p) 26 21)
/-- PZ_EXEC.TPIN, JFLAG and ENTRY. -/
def State.tpin (s : State) (p : Nat) : Nat := s.rf (rPZ_EXEC p) 25 21
def State.jflag (s : State) (p : Nat) : Nat := s.rf (rPZ_EXEC p) 20 16
def State.entryPc (s : State) (p : Nat) : Nat := s.rf (rPZ_EXEC p) 31 26

/-- The group of a pin, if the protection map assigns it to one (R359). -/
def State.pinGroup (s : State) (i : Nat) : Option Nat :=
  if bit s.ownedPins i then some (if i < 16 then s.rf rPM_PZ_GLO (2 * i + 1) (2 * i) else s.rf rPM_PZ_GHI (2 * (i - 16) + 1) (2 * (i - 16))) else none

/-- Engine p may write pin i. -/
def State.pinMine (s : State) (p i : Nat) : Bool := s.pinGroup i == some (p / 4)

/-! ### Pins (R359, R360) -/

/-- The window's pins as a value, zeros above WIDTH. -/
def State.window (s : State) (p : Nat) : Nat :=
  (below (s.pinsWidth p)).foldl (fun v k => if bit s.pinIn ((s.pinsLo p + k) % 32) then v + 2 ^ k else v) 0

/-- The pins that drive their level: those of direction 1 that the protection map assigns to a group (R359, R360). -/
def State.pinDrives (s : State) : BitVec 32 := s.pinDir &&& s.ownedPins

/-- Levels or directions with window bits 0 to `n` − 1 taken from a value, on the pins the engine's group owns. -/
def State.putWindow (s : State) (p n v : Nat) (old : BitVec 32) : BitVec 32 :=
  (below (min n (s.pinsWidth p))).foldl (fun w k =>
    let i := (s.pinsLo p + k) % 32
    if s.pinMine p i then setBit w i (v / 2 ^ k % 2 = 1) else w) old

/-- `n` bits of a value to the window. -/
def State.toWindow (s : State) (p n v : Nat) : State := { s with pinOut := s.putWindow p n v s.pinOut }
/-- `n` bits of a value to the pin directions. -/
def State.toDirs (s : State) (p n v : Nat) : State := { s with pinDir := s.putWindow p n v s.pinDir }

/-! ### Queues and records (R367 to R369) -/

/-- Words of engine p's up queue that closed records hold. -/
def State.recHeld (s : State) (p : Nat) : Nat := ((s.hands.filter (fun h => h.prod = 3 && h.engine == p)).map Hand.words).sum

/-- The words of the open record. -/
def State.openWords (s : State) (p : Nat) : List UqWord := (s.pz p).uq.drop (s.recHeld p)

/-- The stream takes no record now: full on the master, its outbox full on a slave (R287, R334). -/
def State.recFull (s : State) (r : Nat) : Bool := if s.master then s.rsNoRoom r 1 else decide (8 ≤ s.outFill r)

/-- The open record closes with at most four words (R368, R369). -/
def State.recClose (s : State) (p : Nat) (eor : Bool) : State :=
  let e := s.pz p
  let l := (s.openWords p).take 4
  let r := s.rf (rPZ_REC p) 29 27
  if !s.rb (rPZ_REC p) 30 && s.recFull r then
    (s.setPz p { e with uq := e.uq.take (s.recHeld p) ++ e.uq.drop (s.recHeld p + l.length), disc := true }).bumpN (rPZ_CNT p) 31 16 l.length
  else
    let w (k : Nat) : Nat := match l[k]? with | some x => x.val.toNat | none => 0
    let t := match l with | x :: _ => x.time | [] => 0
    (s.setPz p { e with disc := false }).hand
      { rs := r, prod := 3, at_ := s.time
        entries := [(0x40 + p, e.disc.toNat + 2 * eor.toNat, s.devAddr, p + 16 * l.length, t,
          pack [(31, 0, w 0), (63, 32, w 1), (95, 64, w 2), (127, 96, w 3)])] }

/-- While UQ drains into records, every four words close one; UQ holds eight at most. -/
def State.recDrain (s : State) (p : Nat) : State :=
  (below 2).foldl (fun s _ => if s.rb (rPZ_REC p) 31 && decide (4 ≤ (s.openWords p).length) then s.recClose p false else s) s

/-- A word enters UQ; with PZ_REC.EN it may close a record. -/
def State.uqPush (s : State) (p : Nat) (v : BitVec 32) (eor : Bool) : State :=
  let e := s.pz p
  let s := s.setPz p { e with uq := e.uq ++ [({ val := v, time := s.time } : UqWord)] }
  if eor && s.rb (rPZ_REC p) 31 then s.recClose p true else s.recDrain p

/-- The engine's queues are emptied, closed records with them; a DISC mark they carried waits for the next record (R369). -/
def State.uqClear (s : State) (p : Nat) : State :=
  let mine (h : Hand) : Bool := h.prod = 3 && h.engine == p
  let marked := s.hands.any (fun h => mine h && h.entries.any (fun e => e.2.1 % 2 == 1))
  let e := s.pz p
  ({ s with hands := s.hands.filter (fun h => !mine h) }).setPz p { e with dq := [], uq := [], disc := e.disc || marked }

/-! ### Engine cycles (R357, R364 to R366, R373) -/

/-- What an operation does: it is illegal; it repeats, with its STALL cause; or it completes in a new state, with the PC it
writes, if it writes one, and the idle cycles a PAUSE adds. -/
inductive PzDone where
  | illegal
  | stall (cause : Nat)
  | done (s : State) (pc : Option Nat) (idle : Nat)
deriving DecidableEq, Repr

/-- Engine cycle n falls in this core cycle. -/
def State.pzDue (s : State) (p : Nat) : Bool :=
  let e := s.pz p
  e.run && decide (e.startAt + 4 * (e.n * s.pzDiv p / 256) < s.coreAt + 4)

/-- The instruction the engine executes next: the pending injection, else the word at PC; none is illegal (R361, R417). -/
def State.pzFetch (s : State) (p : Nat) : Option (PzOp × Fin 4) :=
  let e := s.pz p
  match e.inj with
  | some w => pzDecode w
  | none => if s.ramBad 10 (32 * (p / 4) + e.pc / 2) then none else pzDecode (tabGet 0 s.pzMem (64 * (p / 4) + e.pc))

/-- The read of the word at PC, if the engine executes it: an error in it is corrected or reported (R416, R417). -/
def State.pzRead (s : State) (p : Nat) : State :=
  if (s.pz p).inj.isSome then s else s.ramRead 10 (32 * (p / 4) + (s.pz p).pc / 2) 0

/-- An illegal instruction stops the engine (R364). -/
def State.pzIllegal (s : State) (p : Nat) : State :=
  (s.setPz p { s.pz p with run := false, idle := 0, stall := 0, n := (s.pz p).n + 1 }).setRb (rPZ_STAT p) 28 true

/-- The instruction repeats (R366). -/
def State.pzStalled (s : State) (p cause : Nat) : State :=
  s.setPz p { s.pz p with stall := cause, idle := 0, n := (s.pz p).n + 1 }

/-- The instruction completes (R365, R373). -/
def State.pzComplete (s : State) (p : Nat) (pc : Option Nat) (idle : Nat) : State :=
  let e := s.pz p
  let next := match pc with
    | some a => a % 64
    | none => if e.inj.isSome then e.pc else (e.pc + 1) % 64
  s.setPz p { e with pc := next, inj := none, stall := 0, idle := idle, n := e.n + 1 }

/-- The outcome of an operation with TRAIL `trail` is taken. -/
def State.pzTake (s : State) (p trail : Nat) : PzDone → State
  | .illegal => s.pzIllegal p
  | .stall k => s.pzStalled p k
  | .done s' pc idle => s'.pzComplete p pc (idle + trail)

/-- One engine cycle of engine p for the operation code `op`: the instruction it executes has that code, or is illegal. -/
def State.pzCycle (s : State) (op p : Nat) (pins : BitVec 32) (f : State → PzOp → PzDone) : State :=
  let s := { s with pinIn := pins }
  if s.pzDue p && ((s.pz p).inj.isSome || decide ((s.pz p).idle = 0)) then
    match s.pzFetch p with
    | none => (s.pzRead p).pzIllegal p
    | some (i, trail) => if i.op = op then (s.pzRead p).pzTake p trail (f (s.pzRead p) i) else s
  else s

/-- ENGINE_IDLE_CYCLE (R365). -/
def State.pzIdle (s : State) (p : Nat) : State :=
  let e := s.pz p
  if s.pzDue p && e.inj.isNone && decide (0 < e.idle) then s.setPz p { e with idle := e.idle - 1, n := e.n + 1 } else s

def execEngineIdleCycle (p : Fin 16) (s : State) : Host.Outcome State Fault Refusal := execute (fun s => s.pzIdle p) s

/-! ### Operands (R361, R362) -/

/-- COUNT: 0 means 32. -/
def cnt (c : Fin 32) : Nat := if c.val = 0 then 32 else c.val

/-- SH with COUNT bits of a value entered at the input end (R362). -/
def shiftIn (order : Bool) (sh : BitVec 32) (c v : Nat) : BitVec 32 :=
  let b := v % 2 ^ c
  BitVec.ofNat 32 (if order then sh.toNat / 2 ^ c + b * 2 ^ (32 - c) else sh.toNat * 2 ^ c + b)

/-- The COUNT bits at the output end of SH. -/
def outBits (order : Bool) (sh : BitVec 32) (c : Nat) : Nat := if order then sh.toNat % 2 ^ c else sh.toNat / 2 ^ (32 - c)

/-- Sources of IN. -/
def State.inSrc (s : State) (p : Nat) (src : Nat) : Nat :=
  let e := s.pz p
  match src with
  | 0 => s.window p
  | 1 => e.x.toNat
  | 2 => e.y.toNat
  | 3 => 0
  | 4 => s.flagsVis.toNat
  | 5 => s.time % 2 ^ 32
  | _ => (bit s.pinIn (s.tpin p)).toNat

/-- Sources of XFER. -/
def State.xferSrc (s : State) (p : Nat) (src : Nat) : Nat :=
  match src with
  | 0 => s.window p
  | 1 => (bit s.pinIn (s.tpin p)).toNat
  | 2 => (s.pz p).x.toNat
  | _ => 0

/-- QSTAT: DQ level, UQ level, MISS. -/
def Pz.qstat (e : Pz) : Nat := pack [(3, 0, e.dq.length), (7, 4, e.uq.length), (8, 8, e.miss.toNat)]

/-- Sources of MOV. -/
def State.movSrc (s : State) (p : Nat) (src : Nat) : BitVec 32 :=
  let e := s.pz p
  match src with
  | 0 => BitVec.ofNat 32 (s.window p)
  | 1 => e.x
  | 2 => e.y
  | 3 => e.sh
  | 4 => 0
  | 5 => BitVec.ofNat 32 s.time
  | 6 => BitVec.ofNat 32 e.lvl
  | _ => BitVec.ofNat 32 e.qstat

/-- FN of MOV. -/
def movFn (fn : Nat) (v : BitVec 32) : BitVec 32 :=
  match fn with | 0 => v | 1 => ~~~v | 2 => v + 1 | _ => v - 1

/-! ### The operations (R362, R363) -/

/-- The test of a JMP (Table 13.2). -/
def State.jmpTest (s : State) (p t : Nat) : Bool :=
  let e := s.pz p
  match t with
  | 0 => true
  | 1 => e.x == 0
  | 2 => e.x != 0
  | 3 => e.y == 0
  | 4 => e.y != 0
  | 5 => e.x == e.y
  | 6 => bit s.pinIn (s.tpin p)
  | 7 => !bit s.pinIn (s.tpin p)
  | 8 => e.lvl == 0
  | 9 => decide (s.fullLvl p ≤ e.lvl)
  | 10 => s.flag (s.jflag p)
  | 11 => !s.flag (s.jflag p)
  | 12 => !e.dq.isEmpty
  | 13 => decide (e.uq.length < s.uqSize p)
  | _ => e.miss

/-- JMP. -/
def State.pzJmp (s : State) (p t a : Nat) : PzDone :=
  if s.jmpTest p t then
    let e := s.pz p
    let e := if t = 2 then { e with x := e.x - 1 } else if t = 4 then { e with y := e.y - 1 } else if t = 14 then { e with miss := false } else e
    .done (s.setPz p e) (some a) 0
  else .done s none 0

/-- WAIT, and FLAG wait. -/
def State.pzWhen (s : State) (b : Bool) : PzDone := if b then .done s none 0 else .stall 3

/-- IN, with its automatic store. -/
def State.pzIn (s : State) (p src c : Nat) : PzDone :=
  let e := s.pz p
  let sh := shiftIn (s.order p) e.sh c (s.inSrc p src)
  let lvl := min 32 (e.lvl + c)
  if s.autoStore p && decide (s.fullLvl p ≤ lvl) then
    if s.uqSize p = 0 then .illegal
    else if s.uqSize p ≤ e.uq.length then .stall 2
    else .done ((s.setPz p { e with sh := 0, lvl := 0 }).uqPush p sh false) none 0
  else .done (s.setPz p { e with sh := sh, lvl := lvl }) none 0

/-- The shift of OUT from a loaded shifter. -/
def State.pzShiftOut (s : State) (p d c : Nat) : PzDone :=
  let e := s.pz p
  let v := outBits (s.order p) e.sh c
  let s := s.setPz p { e with sh := shiftIn (s.order p) e.sh c 0, lvl := e.lvl - c }
  match d with
  | 0 => .done (s.toWindow p c v) none 0
  | 1 => .done (s.setPz p { s.pz p with x := BitVec.ofNat 32 v }) none 0
  | 2 => .done (s.setPz p { s.pz p with y := BitVec.ofNat 32 v }) none 0
  | 4 => .done (s.toDirs p c v) none 0
  | 5 => .done s (some v) 0
  | _ => .done s none 0

/-- OUT, with its automatic load. -/
def State.pzOut (s : State) (p d c : Nat) : PzDone :=
  let e := s.pz p
  if s.autoLoad p && decide (e.lvl = 0) then
    if s.dqSize p = 0 then .illegal
    else
      match e.dq with
      | w :: l => (s.setPz p { e with sh := w, lvl := 32, dq := l }).pzShiftOut p d c
      | [] => .stall 1
  else s.pzShiftOut p d c

/-- PUSH. -/
def State.pzPush (s : State) (p : Nat) (wait cond eor : Bool) : PzDone :=
  let e := s.pz p
  if s.uqSize p = 0 then .illegal
  else if cond && decide (e.lvl < s.fullLvl p) then .done s none 0
  else if e.uq.length < s.uqSize p then .done ((s.setPz p { e with sh := 0, lvl := 0 }).uqPush p e.sh eor) none 0
  else if wait then .stall 2
  else .done ((s.setPz p { e with sh := 0, lvl := 0, miss := true }).bump (rPZ_CNT p) 7 0) none 0

/-- PULL. -/
def State.pzPull (s : State) (p : Nat) (wait cond : Bool) : PzDone :=
  let e := s.pz p
  if s.dqSize p = 0 then .illegal
  else if cond && decide (0 < e.lvl) then .done s none 0
  else
    match e.dq with
    | w :: l => .done (s.setPz p { e with sh := w, lvl := 32, dq := l }) none 0
    | [] => if wait then .stall 1 else .done (s.setPz p { e with miss := true }) none 0

/-- MOV. -/
def State.pzMov (s : State) (p d src fn : Nat) : PzDone :=
  let e := s.pz p
  let v := movFn fn (s.movSrc p src)
  match d with
  | 0 => .done (s.toWindow p 32 v.toNat) none 0
  | 1 => .done (s.setPz p { e with x := v }) none 0
  | 2 => .done (s.setPz p { e with y := v }) none 0
  | 3 => .done (s.setPz p { e with sh := v, lvl := 32 }) none 0
  | 4 => .done s (some v.toNat) 0
  | _ => .done (s.toDirs p 32 v.toNat) none 0

/-- SET. -/
def State.pzSet (s : State) (p d v : Nat) : PzDone :=
  match d with
  | 0 => .done (s.toWindow p 8 v) none 0
  | 1 => .done (s.toDirs p 8 v) none 0
  | 2 => .done (s.setPz p { s.pz p with x := BitVec.ofNat 32 v }) none 0
  | _ => .done (s.setPz p { s.pz p with y := BitVec.ofNat 32 v }) none 0

/-- FLAG set, clear and toggle. -/
def State.pzFlag (s : State) (fop i : Nat) : PzDone := .done { s with flags := applyFlag s.flags (32 * (fop + 1) + i) } none 0

/-- XFER. -/
def State.pzXfer (s : State) (p src d c : Nat) : PzDone :=
  let e := s.pz p
  let v := outBits (s.order p) e.sh c
  let s := s.setPz p { e with sh := shiftIn (s.order p) e.sh c (s.xferSrc p src), lvl := e.lvl - c }
  match d with
  | 0 => .done (s.toWindow p c v) none 0
  | 1 => .done (s.setPz p { s.pz p with x := BitVec.ofNat 32 v }) none 0
  | 2 => .done (s.setPz p { s.pz p with y := BitVec.ofNat 32 v }) none 0
  | _ => .done s none 0

/-- What an instruction does. -/
def State.pzRun (s : State) (p : Nat) : PzOp → PzDone
  | .jmp t a => s.pzJmp p t a
  | .waitPin pol i => s.pzWhen (bit s.pinIn i == pol)
  | .waitFrame => s.pzWhen (decide (s.time % 64 = 0))
  | .waitTick => s.pzWhen (decide (s.time % 16 = 0))
  | .in_ src c => s.pzIn p src (cnt c)
  | .out d c => s.pzOut p d (cnt c)
  | .push w c e => s.pzPush p w c e
  | .pull w c => s.pzPull p w c
  | .mov d src fn => s.pzMov p d src fn
  | .set d v => s.pzSet p d v
  | .flag f i => s.pzFlag f i
  | .flagWait pol i => s.pzWhen (s.flag i == pol)
  | .xfer src d c => s.pzXfer p src d (cnt c)
  | .pause n => .done s none n

def execJmp (p : Fin 16) (pins : BitVec 32) (s : State) : Host.Outcome State Fault Refusal := execute (fun s => s.pzCycle 0 p pins (fun s i => s.pzRun p i)) s
def execWait (p : Fin 16) (pins : BitVec 32) (s : State) : Host.Outcome State Fault Refusal := execute (fun s => s.pzCycle 1 p pins (fun s i => s.pzRun p i)) s
def execIn_ (p : Fin 16) (pins : BitVec 32) (s : State) : Host.Outcome State Fault Refusal := execute (fun s => s.pzCycle 2 p pins (fun s i => s.pzRun p i)) s
def execOut (p : Fin 16) (pins : BitVec 32) (s : State) : Host.Outcome State Fault Refusal := execute (fun s => s.pzCycle 3 p pins (fun s i => s.pzRun p i)) s
def execPush (p : Fin 16) (pins : BitVec 32) (s : State) : Host.Outcome State Fault Refusal := execute (fun s => s.pzCycle 4 p pins (fun s i => s.pzRun p i)) s
def execPull (p : Fin 16) (pins : BitVec 32) (s : State) : Host.Outcome State Fault Refusal := execute (fun s => s.pzCycle 5 p pins (fun s i => s.pzRun p i)) s
def execMov (p : Fin 16) (pins : BitVec 32) (s : State) : Host.Outcome State Fault Refusal := execute (fun s => s.pzCycle 6 p pins (fun s i => s.pzRun p i)) s
def execSet (p : Fin 16) (pins : BitVec 32) (s : State) : Host.Outcome State Fault Refusal := execute (fun s => s.pzCycle 7 p pins (fun s i => s.pzRun p i)) s
def execFlag (p : Fin 16) (pins : BitVec 32) (s : State) : Host.Outcome State Fault Refusal := execute (fun s => s.pzCycle 8 p pins (fun s i => s.pzRun p i)) s
def execXfer (p : Fin 16) (pins : BitVec 32) (s : State) : Host.Outcome State Fault Refusal := execute (fun s => s.pzCycle 9 p pins (fun s i => s.pzRun p i)) s
def execPause (p : Fin 16) (pins : BitVec 32) (s : State) : Host.Outcome State Fault Refusal := execute (fun s => s.pzCycle 10 p pins (fun s i => s.pzRun p i)) s

/-! ### Control (R371 to R374) -/

/-- Engine p starts if it is stopped: its first engine cycle is in the next core cycle. -/
def State.pzStart (s : State) (p : Nat) : State :=
  let e := s.pz p
  if e.run then s else s.setPz p { e with run := true, startAt := s.coreAt + 4, n := 0, idle := 0, stall := 0 }

/-- Engine p is reset. -/
def State.pzReset (s : State) (p : Nat) : State := (s.uqClear p).setPz p { pc := s.entryPc p, disc := ((s.uqClear p).pz p).disc }

/-- A start by PZG_CTRL: ignored in SAFE. -/
def State.pzgStart (s : State) (p : Nat) : State :=
  if (s.pz p).run then s
  else if s.inSafe then s.setRb (rPZG_STAT (p / 4)) 30 true
  else s.pzStart p

def execPzgStart (p : Fin 16) (s : State) : Host.Outcome State Fault Refusal := execute (fun s => s.pzgStart p) s
def execPzgStop (p : Fin 16) (s : State) : Host.Outcome State Fault Refusal := execute (fun s => s.pzStop p) s
def execPzgReset (p : Fin 16) (s : State) : Host.Outcome State Fault Refusal := execute (fun s => s.pzReset p) s

/-- A write of PZG_CTRL: RESET acts, then RUN. -/
def State.pzgCtrlWrite (s : State) (g : Nat) (v : Word) : State :=
  let s := (below 4).foldl (fun s k => if bit v (4 + k) then s.pzReset (4 * g + k) else s) s
  (below 4).foldl (fun s k => if bit v k then s.pzgStart (4 * g + k) else s.pzStop (4 * g + k)) s

/-- PROGRAM_WINDOW_WRITE (R372). -/
def State.windowWrite (s : State) (g i : Nat) (v : Word) : State :=
  if s.groupStopped g then s.pzStore g i (BitVec.ofNat 16 v.toNat) else s.setRb (rPZG_STAT g) 30 true

def execProgramWindowWrite (g : Fin 4) (i : Fin 64) (v : Word) (s : State) : Host.Outcome State Fault Refusal := execute (fun s => s.windowWrite g i v) s

/-- PZ_FLAG_SET and PZ_FLAG_CLR (R370). -/
def execPzFlagSet (v : Word) (s : State) : Host.Outcome State Fault Refusal := execute (fun s => { s with flags := s.flags ||| v }) s
def execPzFlagClr (v : Word) (s : State) : Host.Outcome State Fault Refusal := execute (fun s => { s with flags := s.flags &&& ~~~v }) s

/-! ### Commands (R313, R373) -/

/-- PZ_INJECT. -/
def State.pzInject (s : State) (c : Cmd) : State :=
  let p := c.byte 8
  if s.groupStopped (p / 4) then s.finish c 0x17 (7 * 2 ^ 32)
  else
    let e := s.pz p
    let s := if e.inj.isSome then s.bump (rPZ_CNT p) 15 8 else s
    (s.setPz p { e with inj := some (BitVec.ofNat 16 (c.opnd 10 11)), idle := if e.run then e.idle else 0 }).finish c 0 0

def execPzInject (e : Fin 64) (s : State) : Host.Outcome State Fault Refusal := execute (fun s => s.command 0x80 0x80 e State.pzInject) s

/-- PZ_PUSH: words move into DQ as far as they fit. -/
def State.pzPushCmd (s : State) (c : Cmd) : State :=
  let p := c.byte 8
  let e := s.pz p
  let n := min (c.byte 9) (s.dqSize p - e.dq.length)
  let l := (below n).map (fun k => BitVec.ofNat 32 (c.opnd (12 + 4 * k) (15 + 4 * k)))
  (s.setPz p { e with dq := e.dq ++ l }).finish c 0 (n + 256 * (e.dq.length + n))

def execPzPush (e : Fin 64) (s : State) : Host.Outcome State Fault Refusal := execute (fun s => s.command 0x81 0x81 e State.pzPushCmd) s

/-- PZ_PULL: words move out of UQ, unless it drains into records. -/
def State.pzPullCmd (s : State) (c : Cmd) : State :=
  let p := c.byte 8
  let e := s.pz p
  let held := s.recHeld p
  let n := if s.rb (rPZ_REC p) 31 then 0 else min (c.byte 9) (e.uq.length - held)
  let l := (e.uq.drop held).take n
  let w (k : Nat) : Nat := match l[k]? with | some x => x.val.toNat | none => 0
  (s.setPz p { e with uq := e.uq.take held ++ e.uq.drop (held + n) }).finish c 0
    (pack [(7, 0, n), (15, 8, e.uq.length - n), (63, 32, w 0), (95, 64, w 1)])

def execPzPull (e : Fin 64) (s : State) : Host.Outcome State Fault Refusal := execute (fun s => s.command 0x82 0x82 e State.pzPullCmd) s

/-- PZ_CONTROL. -/
def State.pzControl (s : State) (c : Cmd) : State :=
  let g := c.byte 8
  let l := (below 4).filter (fun k => c.byte 10 / 2 ^ k % 2 = 1)
  if c.byte 9 = 1 ∧ s.inSafe = true then s.finish c 0x26 0
  else
    let s := l.foldl (fun s k => if c.byte 9 = 0 then s.pzStop (4 * g + k) else if c.byte 9 = 1 then s.pzStart (4 * g + k) else s.pzReset (4 * g + k)) s
    s.finish c 0 ((below 4).foldl (fun m k => if (s.pz (4 * g + k)).run then m + 2 ^ k else m) 0)

def execPzControl (e : Fin 64) (s : State) : Host.Outcome State Fault Refusal := execute (fun s => s.command 0x83 0x83 e State.pzControl) s

/-! ### Registers (R376) -/

/-- A write of a setting of engine p: ignored while it runs. -/
def State.pzSetting (s : State) (p addr : Nat) (v : Word) : State := if (s.pz p).run then s.setRb (rPZ_STAT p) 27 true else s.setReg addr v

/-- A write of PZ_REC: words already in UQ drain as well (R368). -/
def State.pzRecWrite (s : State) (p : Nat) (v : Word) : State := (s.pzSetting p (rPZ_REC p) v).recDrain p

/-- A write of PZ_SHIFT: a change of QMODE empties both queues. -/
def State.pzShiftWrite (s : State) (p : Nat) (v : Word) : State :=
  if (s.pz p).run then s.setRb (rPZ_STAT p) 27 true
  else
    let change := fld v 28 27 != s.rf (rPZ_SHIFT p) 28 27
    (if change then s.uqClear p else s).setReg (rPZ_SHIFT p) (v &&& 0xFFC00000)

/-- PZ_STAT, PZG_CTRL and PZG_STAT as read. -/
def State.pzStatRead (s : State) (p : Nat) : Word :=
  let e := s.pz p
  s.reg (rPZ_STAT p) ||| word [(31, 31, e.run.toNat), (30, 29, e.stall), (26, 26, e.inj.isSome.toNat), (25, 25, e.miss.toNat), (23, 20, e.dq.length),
    (19, 16, e.uq.length), (13, 8, e.pc), (5, 0, e.lvl)]
def State.pzgRun (s : State) (g : Nat) : Nat := (below 4).foldl (fun m k => if (s.pz (4 * g + k)).run then m + 2 ^ k else m) 0
def State.pzgStatRead (s : State) (g : Nat) : Word := s.reg (rPZG_STAT g) &&& 0x40000000 ||| word [(31, 31, (s.groupStopped g).toNat), (3, 0, s.pzgRun g)]

end Sys2Proof.Machine
end

