-- ==== Sys2Proof/Machine/Power.lean ====
section
/-! DEFINITION. Supply, resets, clocks, run states and start-up (chapter 17), the always-on watch (R409 to R411), the host
side of SAFE (R463 to R474), and the judgements of the frame start. -/

namespace Sys2Proof.Machine

/-! ### Resets (R439 to R441) -/

/-- A reset cuts a fuse operation (log entry 46): every map word still blank, or the count of seal fuses, is unknown. -/
def State.fuseCut (s : State) : State :=
  match s.fuses.op with
  | some (1, _) => (below 42).foldl (fun (s : State) i =>
      if tabGet 0 s.fuses.words (111 + i) ≠ 0 then s
      else let f := s.fresh; { f.2 with fuses := { f.2.fuses with words := tabSet 0 f.2.fuses.words (111 + i) (f.1.setWidth 52) } }) s
  | some _ => let f := s.fresh; { f.2 with fuses := { f.2.fuses with blown := max f.2.fuses.blown (f.1.toNat % 29) } }
  | none => s

/-- What no reset touches: the queue, the record of outputs, the straps and pins, the nonvolatile array and the fuses. -/
def State.cleared (s : State) : State :=
  let s := s.jrnCut.fuseCut
  { State.reset with
    pending := s.pending, out := s.out, free := s.free, master := s.master, held := s.held
    fuses := { words := s.fuses.words, blown := s.fuses.blown }, jrn := { nv := s.jrn.nv }
    pwr := { safeNLow := s.pwr.safeNLow, brownHeld := s.pwr.brownHeld, overheat := s.pwr.overheat } }

/-- The registers of the AON island (R440). -/
def aonRegs : List Nat := [rAON_WATCH, rAON_CAUSE, rAON_TICKS, rRST_CAUSE, rCLK_CFG]

/-- A reset of the main domain with a bit of RST_CAUSE (Table 17.2). -/
def State.mainReset (s : State) (k : Nat) : State :=
  let b := aonRegs.foldl (fun (b : State) a => b.setReg a (s.reg a)) s.cleared
  ({ b with aon := s.aon }.setRb rKR_CFG 30 (s.rb rKR_CFG 30)).setRb rRST_CAUSE k true

/-- SOFT_RESET: a write of RST_CTRL; only the key resets the device. -/
def State.rstCtrlWrite (s : State) (v : Word) : State := if v = 0x0000D1E5 then s.mainReset 4 else s

def execSoftReset (v : Word) (s : State) : Host.Outcome State Fault Refusal := execute (fun s => s.rstCtrlWrite v) s

/-- POWER_ON_RESET: the AON island is cleared as well. -/
def execPowerOnReset (s : State) : Host.Outcome State Fault Refusal :=
  always (fun s => { s.cleared with held := false, pwr := { safeNLow := s.pwr.safeNLow } }.setReg rRST_CAUSE 1) s

/-- TRST_RESET: it reaches the test access port only. -/
def execTrstReset (s : State) : Host.Outcome State Fault Refusal := .next s

/-- No safe end is in progress: no slot RUNNING or ENDING, no forced shot, no soft shutdown (R466). -/
def State.outputsEnded (s : State) : Bool :=
  s.slots.all (fun p => decide (p.2.st < 4)) && s.acts.all (fun p => p.2.shot.isNone)

/-- BROWNOUT: VSUP stays below 4.2 V for 1 µs (R439). -/
def State.brownout (s : State) : State :=
  if s.held || s.pwr.brownAt.isSome then s
  else
    let s := { s with pwr := { s.pwr with brownAt := some s.time } }
    if s.watch then s else s.latchCause 8

def execBrownout (s : State) : Host.Outcome State Fault Refusal := always State.brownout s

/-- BROWNOUT_RESET: every safe end has finished, or 10 ms have passed; `early`: VGD is below 8.0 V or VSUP below 3.0 V. -/
def State.brownoutReset (s : State) (early : Bool) : State :=
  match s.pwr.brownAt with
  | some t =>
    if early || (s.outputsEnded && !s.safePend) || decide (t + 10000000 ≤ s.time) then
      let s := s.mainReset 1
      { s with held := true, pwr := { s.pwr with brownHeld := true } }
    else s
  | none => s

def execBrownoutReset (early : Bool) (s : State) : Host.Outcome State Fault Refusal := always (fun s => s.brownoutReset early) s

/-- RESET_RELEASE: VSUP has stayed above 5.0 V for 100 µs. -/
def execResetRelease (s : State) : Host.Outcome State Fault Refusal :=
  always (fun s => if s.pwr.brownHeld then { s with held := s.pwr.overheat, pwr := { s.pwr with brownHeld := false } } else s) s

/-! ### Supply rails and the dip (R436 to R438) -/

/-- RAIL_UNDERVOLTAGE: rail 0 VGD, 1 V5A, 2 V3IO, 3 V1P8, 4 VCORE falls below its level. -/
def execRailUndervoltage (r : Fin 5) (s : State) : Host.Outcome State Fault Refusal :=
  anytime (fun s => if s.boot = 0 then s else (s.setRb rPWR_STAT (25 - r) true).bump rPWR_CNT 23 16) s

/-- RAIL_FAILURE: a rail has been below its level for 10 µs. -/
def execRailFailure (r : Fin 5) (s : State) : Host.Outcome State Fault Refusal :=
  anytime (fun s => if s.boot = 0 then s else (s.setRb rPWR_STAT (25 - r) true).mainReset 2) s

/-- WARN in force, 5.0 V to 40.0 V, and HYST, in 100 mV. -/
def State.warnLevel (s : State) : Nat := min (max (fld s.pwr.vsupReg 31 22) 50) 400
def State.warnHyst (s : State) : Nat := fld s.pwr.vsupReg 21 16

/-- VSUP_DIP_BEGIN: VSUP has read at most `v` for `us` µs up to this frame start (R437, R438). A commit that runs drives the
hold switch (R217). -/
def State.dipBegin (s : State) (v us : Nat) : State :=
  if s.time % 64 ≠ 0 ∨ s.dip = true ∨ s.warnLevel ≤ v ∨ us < fld s.pwr.vsupReg 15 12 then s
  else
    let s := { s with dip := true, jrn := { s.jrn with dipFrom := s.time }, holdArm := s.jrn.commit.isSome }
    (s.setRb rPWR_STAT 26 true).bump rPWR_CNT 31 24

def execVsupDipBegin (v : Fin 1024) (us : Fin 64) (s : State) : Host.Outcome State Fault Refusal :=
  execute (fun s => s.dipBegin v us) s

/-- VSUP_DIP_END: VSUP has read at least `v` for `us` µs up to this frame start, the hold switch being off. -/
def State.dipEnd (s : State) (v us : Nat) : State :=
  if s.time % 64 ≠ 0 ∨ s.dip = false ∨ s.holdAt.isSome = true ∨ s.time < s.holdOffAt + 10000 ∨ v < s.warnLevel + s.warnHyst ∨ us < 10 then s
  else { s with dip := false, holdArm := false }.jrnNext

def execVsupDipEnd (v : Fin 1024) (us : Fin 64) (s : State) : Host.Outcome State Fault Refusal :=
  execute (fun s => s.dipEnd v us) s

/-! ### Clock and shell temperature (R443, R446) -/

/-- PLL_UNLOCK: a SAFE cause; no reset follows. -/
def execPllUnlock (s : State) : Host.Outcome State Fault Refusal :=
  anytime (fun s => if s.boot < 2 || !s.rb rCLK_STAT 29 then s
    else (((s.setRb rCLK_STAT 29 false).setRb rCLK_STAT 28 true).bump rPWR_CNT 15 8).latchCause 6) s

/-- PLL_RELOCK. -/
def execPllRelock (s : State) : Host.Outcome State Fault Refusal :=
  anytime (fun s => if s.boot < 2 then s else s.setRb rCLK_STAT 29 true) s

/-- SHELL_TEMP_SAMPLE: the warning, the SAFE cause at 160 °C, the reset at 170 °C held until the die is below 150 °C. -/
def State.shellTemp (s : State) (code : Nat) : State :=
  let tw := s.rf rPWR_TEMP 31 22
  let hot := s.rb rPWR_TEMP 21
  let s := s.setRf rPWR_MEAS 9 0 code
  let s := if tw ≤ code then s.setRb rPWR_TEMP 20 true else if code + 20 < tw then s.setRb rPWR_TEMP 20 false else s
  let s := s.setRb rPWR_TEMP 21 (decide (0x1C0 ≤ code))
  let s := if !hot && decide (0x1C0 ≤ code) then s.latchCause 7 else s
  if 0x1D4 ≤ code then
    let s := s.mainReset 3
    { s with held := true, pwr := { s.pwr with overheat := true } }
  else s

def execShellTempSample (code : Fin 1024) (s : State) : Host.Outcome State Fault Refusal :=
  always (fun s =>
    if s.held then
      (if s.pwr.overheat && decide (code.val < 0x1AC) then { s with held := s.pwr.brownHeld, pwr := { s.pwr with overheat := false } } else s)
    else if s.live then s.shellTemp code else s) s

/-! ### Run-state requests (R34, R445) -/

/-- A write of RUN_CTRL: REQ, and REJ_EV written 1 to clear. -/
def State.runCtrlWrite (s : State) (v : Word) : State :=
  let s := if bit (s.clears rRUN_CTRL v) 26 then s.setRb rRUN_CTRL 26 false else s
  if fld v 31 30 = 0 then s else { s with pwr := { s.pwr with req := fld v 31 30 } }

def execRequestRun (s : State) : Host.Outcome State Fault Refusal := execute (fun s => s.runCtrlWrite 0x40000000) s
def execRequestDoze (s : State) : Host.Outcome State Fault Refusal := execute (fun s => s.runCtrlWrite 0x80000000) s
def execRequestWatch (s : State) : Host.Outcome State Fault Refusal := execute (fun s => s.runCtrlWrite 0xC0000000) s

/-- A watch source is enabled (R410). -/
def State.watchEn (s : State) (c : Nat) : Bool := s.rb rAON_WATCH ([31, 29, 27, 25, 23, 22, 21].getD c 0)

/-- Why a request is refused: the code of Table 17.3, 0 where it is taken, 6 where it has no effect. -/
def State.runJudge (s : State) (req : Nat) : Nat :=
  let started := s.slots.any (fun p => decide (4 ≤ p.2.st))
  let shots := s.acts.any (fun p => p.2.shot.isSome)
  if req = 1 then (if s.inSafe then 4 else if s.run = 1 then 0 else 6)
  else if s.run = 3 ∨ s.run = 4 then 5
  else if req = 2 then
    (if s.run = 1 then 6 else if started || shots then 2 else if s.dip then 3 else if s.inSafe then 4 else 0)
  else
    (if (below 7).all (fun c => !s.watchEn c) then 1 else if s.slots.any (fun p => p.2.st != 0) || shots then 2
     else if s.dip then 3 else if s.inSafe then 4 else 0)

/-- The DOZE sequence: slots block, rails and lanes go off, tray clocks stop. -/
def State.dozeDown (s : State) : State :=
  let s := s.slots.foldl (fun (s : State) p => if p.2.st = 1 ∨ p.2.st = 3 then s.block (p.1 / 8) (p.1 % 8) else s) s
  let s := (below 8).foldl (fun (s : State) r => s.railOff r) s
  let s := (below 96).foldl (fun (s : State) a => (s.cutWatch a).handRecords a) s
  s.lanesDown.setRf rCLK_STAT 25 22 0

/-- Tray clocks start; after 2 µs the FIFOs are reset, then the lanes settle for 20 µs. -/
def State.traysUp (s : State) : State :=
  let s := s.setRf rCLK_STAT 25 22 s.pwr.trays
  { s.lanesUp (s.time + 22000) with pwr := { s.pwr with seqAt := s.time } }

/-- Every object pending joins the crumbs due, as WATCH asks. -/
def State.flushAll (s : State) : State :=
  let new := jrnObjects.filter (fun o => s.differs o.1 o.2 && !s.jrn.due.any (fun d => d.kind == o.1 && d.key == o.2)
    && !(match s.jrn.commit with | some c => c.kind == o.1 && c.key == o.2 | none => false))
  (s.setJrn { s.jrn with due := s.jrn.due ++ new.map (fun o => ({ kind := o.1, key := o.2 } : Due)) }).jrnNext

/-- The request that waits is judged. -/
def State.runRequest (s : State) : State :=
  let req := s.pwr.req
  if req = 0 then s
  else
    let c := s.runJudge req
    let s := { s with pwr := { s.pwr with req := 0 } }
    if c = 6 then s
    else if c ≠ 0 then (s.setRf rRUN_CTRL 29 27 c).setRb rRUN_CTRL 26 true
    else if req = 1 then { s.traysUp with run := 3 }
    else if req = 2 then { s.dozeDown with run := 1 }
    else { (if s.run = 1 then s else s.dozeDown).flushAll with run := 4 }

/-- Records can drain: the master's DMA works, or a slave has a master to send to (R445). -/
def State.drains (s : State) : Bool := if s.master then s.dmaOk else s.enumd

/-- WATCH_ENTRY_DONE: crumbs are committed and records drained while DMA is possible; the main domain powers off and the watch
is armed (R410). -/
def execWatchEntryDone (s : State) : Host.Outcome State Fault Refusal :=
  execute (fun s =>
    if s.run = 4 ∧ s.jrn.commit = none ∧ s.jrn.due = [] ∧ (s.hands = [] ∨ s.drains = false) then
      let b := aonRegs.foldl (fun (b : State) a => b.setReg a (s.reg a)) s.cleared
      { b.setRb rKR_CFG 30 (s.rb rKR_CFG 30) with watch := true, aon := { armed := true, vsAt := s.vsup } }
    else s) s

/-! ### The always-on watch (R409 to R411) -/

/-- The cause a source gives, less one (Table 15.7). -/
def Wake.cause : Wake → Nat
  | .pin one _ _ => one.toNat
  | .motion one => 2 + one.toNat
  | .kringle _ => 4
  | .monitor _ => 5
  | .vsup _ _ => 6

/-- The VSUP level of the watch, 100 mV (R409). -/
def State.wakeLevel (s : State) : Nat := 60 + 20 * s.rf rAON_WATCH 20 17

/-- What an enabled source has seen wakes the device (R409, R410), `ticks` RC periods after arming. -/
def State.wakeOk (s : State) (k : Wake) (ticks : Nat) : Bool :=
  s.watchEn k.cause && (match k with
    | .pin one level n => level == s.rb rAON_WATCH (if one then 28 else 30) && decide (2 ≤ n.val) && decide (n.val ≤ ticks)
    | .motion one => decide (max 1 (s.rf rAON_WATCH 16 13) ≤ (s.aon.motion.getD one.toNat (0, 0)).1)
    | .kringle us => decide (10 ≤ us.val)
    | .monitor n => decide (2 ≤ n.val) && decide (n.val ≤ ticks)
    | .vsup low v => decide (s.wakeLevel ≤ v.val) && (decide (s.aon.vsAt < s.wakeLevel) || decide (low.val + 5 ≤ s.wakeLevel)))

/-- WATCH_WAKE: a source wakes the device, `ticks` RC periods after arming. In WATCH it resets the device; until start-up
completes a further cause only sets its SEEN bit, and its pulse crosses into the main domain, 6 RC periods and 6 core cycles at most
(R449). -/
def State.wake (s : State) (k : Wake) (ticks : Nat) : State :=
  if !s.aon.armed || !s.wakeOk k ticks then s
  else
    let s := s.setRb rAON_CAUSE k.cause true
    if s.watch then ((s.setRf rAON_CAUSE 31 29 (k.cause + 1)).setReg rAON_TICKS (BitVec.ofNat 32 ticks)).mainReset 5
    else s.crossPulse 0 ticks 7 id

def execWatchWake (k : Wake) (ticks : BitVec 32) (s : State) : Host.Outcome State Fault Refusal := always (fun s => s.wake k ticks.toNat) s

/-- The levels of the wake comparator of WHL[w], mV: it switches to active at the first and back at the second (R409, Table 2.1). -/
def State.wakeThr (s : State) (w : Nat) : Int × Int := if s.rb rAON_WATCH (if w = 0 then 26 else 24) then hallThr 0 else (120, 60)

/-- WAKE_MOTION_EDGE: an active edge on the wake comparator of WHL[w], from `low` to `mv`, `t` RC periods after arming. -/
def State.motionEdge (s : State) (w t : Nat) (low mv : Int) : State :=
  if !s.aon.armed || !s.watchEn (2 + w) || decide (mv < (s.wakeThr w).1) || decide ((s.wakeThr w).2 < low) then s
  else
    let m := s.aon.motion.getD w (0, 0)
    let n := if m.1 ≠ 0 ∧ t ≤ m.2 + 8192 then m.1 + 1 else 1
    { s with aon := { s.aon with motion := s.aon.motion.set w (min n 15, t) } }

def execWakeMotionEdge (w : Fin 2) (x : MotionEdge) (s : State) : Host.Outcome State Fault Refusal :=
  always (fun s => s.motionEdge w x.at_.toNat x.low.toInt x.mv.toInt) s

/-! ### Start-up (R442, R452) -/

/-- The reference chosen: 1 the crystal, 2 PE_REFCLK, 0 neither yet. -/
def State.refChoice (s : State) (xtal refclk : Bool) : Nat :=
  match s.rf rCLK_CFG 31 30 with
  | 1 => if xtal then 1 else 0
  | 2 => if refclk then 2 else 0
  | _ => if xtal then 1 else if s.master && refclk then 2 else 0

/-- The last step: READY. A cause that stands or arose during start-up leads to SAFE in this core cycle (R465). -/
def State.ready (s : State) : State :=
  let s := { s with boot := 7, aon := {}, ring := { s.ring with wakeFwd := s.rb rKR_CFG 30 } }
  let s := if s.pwr.safeNLow then s.latchCause 0 else s
  s.wdArm.jrnNext

/-- Start-up stops for vendor test after step 3: TESTMODE was sampled 1 on an unsealed part with DEBUG_LOCK 0 (R480). -/
def State.vendorStop (s : State) : Bool := s.pwr.testmode && !s.sealed && !s.rb rPM_GLOBAL 16

/-- STARTUP_STEP: the ROLE and TESTMODE straps, the clock sources present and the trays that answer are as the pins show. -/
def State.startupStep (s : State) (slave test xtal refclk : Bool) (trays : Nat) : State :=
  match s.boot with
  | 0 => { s with boot := 1, master := !slave, pwr := { s.pwr with testmode := test } }
  | 1 =>
    let r := s.refChoice xtal refclk
    if r = 0 then s
    else { (((s.setRf rCLK_STAT 31 30 r).setRb rCLK_STAT 29 true).setRb rCLK_STAT 27 xtal).setRb rCLK_STAT 26 refclk with boot := 2, time := 0 }
  | 2 => { s.fuseLoad with boot := 3 }
  | 3 => if s.vendorStop then s else { s with boot := 4 }
  | 4 => { s.setRf rCLK_STAT 25 22 trays with boot := 5, pwr := { s.pwr with trays := trays } }
  | 5 => { s.jrnStart with boot := 6 }
  | 6 => s.ready
  | _ => s

def execStartupStep (slave test xtal refclk : Bool) (trays : BitVec 4) (s : State) : Host.Outcome State Fault Refusal :=
  anytime (fun s => s.startupStep slave test xtal refclk trays.toNat) s

/-! ### SAFE from the host's side (R463, R468 to R470) -/

/-- SAFE_CAUSE.ACTIVE. -/
def State.safeActive (s : State) : Nat :=
  pack [(0, 0, s.pwr.safeNLow.toNat), (3, 3, (s.rb rHL_STAT 24 || (!s.master && s.rb rKR_STAT 25)).toNat), (6, 6, (!s.rb rCLK_STAT 29).toNat),
    (7, 7, (s.rb rPWR_TEMP 21).toNat)]

/-- Causes written 1 clear, those that stand stay (R470). -/
def State.clearCauses (s : State) (m : Nat) : State := 
  s.setRf rSAFE_CAUSE 9 0 (s.rf rSAFE_CAUSE 9 0 &&& (1023 - m % 1024 ||| s.safeActive ||| fld (s.justSet rSAFE_CAUSE) 9 0))

/-- A write of SAFE_CAUSE by host software, which from MON_AUTH 0b10 up cannot clear MON_FORCE and WD_EXPIRE. -/
def State.safeCauseWrite (s : State) (v : Word) : State := s.clearCauses (if 2 ≤ s.monAuth then fld v 9 0 &&& 0x3F9 else fld v 9 0)

/-- A write of SAFE_CTRL: entry, exit, or nothing. -/
def State.safeCtrlWrite (s : State) (v : Word) : State :=
  if v = 0x00005AFE then s.latchCause 9
  else if v = 0x0000E417 then { s with pwr := { s.pwr with exitReq := true } }
  else s

def execHostReq (s : State) : Host.Outcome State Fault Refusal := execute (fun s => s.safeCtrlWrite 0x00005AFE) s
def execSafeExitRequest (s : State) : Host.Outcome State Fault Refusal := execute (fun s => s.safeCtrlWrite 0x0000E417) s

/-- SAFE_N_LOW: SAFE_N has read low for 500 ns; with `low` false, it reads high again (R463). -/
def execSafeNLow (low : Bool) (s : State) : Host.Outcome State Fault Refusal :=
  always (fun s =>
    let was := s.pwr.safeNLow
    let s := { s with pwr := { s.pwr with safeNLow := low } }
    if low && !was && !s.watch && !s.held then s.latchCause 0 else s) s

/-- EXIT_REJ: the first condition that fails, 0 where the exit is taken (R468). -/
def State.exitJudge (s : State) : Nat :=
  if !s.inSafe then 1
  else if s.pwr.safeNLow then 2
  else if s.safeActive ≠ 0 then 3
  else if s.rf rSAFE_CAUSE 9 0 ≠ 0 then 4
  else if !s.rb rSAFE_STAT 30 then 5
  else if s.monAuth = 3 && !s.rb rSAFE_STAT 25 then 6
  else 0

/-- The exit request is judged; taken, the device is in RUN from this frame start (R469). -/
def State.exitRequest (s : State) : State :=
  if !s.pwr.exitReq then s
  else
    let c := s.exitJudge
    let s := { s with pwr := { s.pwr with exitReq := false } }
    if c = 0 then { s.setRb rSAFE_STAT 30 false with run := 0 } else s.setRf rSAFE_STAT 28 26 c

/-- SAFE_ACK_N and DONE (R466). -/
def State.safeDone (s : State) : State := if s.inSafe && s.outputsEnded then s.setRb rSAFE_STAT 30 true else s

/-! ### The frame start -/

/-- Trays restart where a SAFE cause waits in DOZE, a request of that frame being discarded (R34), or SAFE was entered with them
stopped (R467). -/
def State.safeTrays (s : State) : State :=
  if s.safePend ∧ s.run = 1 then { s.traysUp with run := 3, pwr := { s.traysUp.pwr with req := 0 } }
  else if s.inSafe ∧ s.rf rCLK_STAT 25 22 = 0 ∧ s.pwr.trays ≠ 0 then s.traysUp.bump rXING_CNT 15 8
  else s

/-- SCHED_PEEK naming no actuator is filled with zero (R124). -/
def State.peekFill (s : State) : State :=
  if !s.peekZero then s
  else { ((s.setReg rSCHED_PEEK_STAT 0).setReg rSCHED_PEEK_END 0).setReg rSCHED_PEEK_START 0 with peekZero := false }

/-- FRAME_START: settings that act at the frame start, the run-state and SAFE judgements, and the locks of the frame (R29). -/
def State.frameStart (s : State) : State :=
  let s := s.fbTick.jrnNote.peekFill
  let s := { s with pwr := { s.pwr with vsupReg := s.reg rPWR_VSUP } }
  let s := s.safeTrays.runRequest.safeDone.exitRequest
  let s := if s.inRun then { s with devLog := { s.devLog with runNs := s.devLog.runNs + 64 } } else s
  s.lockFrame

/-! ### Registers (Table 17.8, Table 18.6) -/

/-- PWR_STAT, PWR_MEAS and SAFE_STAT as read. -/
def State.pwrStatRead (s : State) : Word :=
  s.reg rPWR_STAT ||| word [(31, 31, (decide (7 ≤ s.boot)).toNat), (30, 28, s.run), (27, 27, s.dip.toNat)]
def State.pwrMeasRead (s : State) : Word := setFld (s.reg rPWR_MEAS) 31 22 s.vsup
def State.safeStatRead (s : State) : Word := setBit (s.reg rSAFE_STAT) 31 s.inSafe
def State.safeCauseRead (s : State) : Word := setFld (s.reg rSAFE_CAUSE) 25 16 s.safeActive

/-- A write of AON_CAUSE: SEEN written 1 clears, and FIRST reads zero once none is left (Table 15.7). -/
def State.aonCauseWrite (s : State) (v : Word) : State :=
  let seen := s.rf rAON_CAUSE 6 0 &&& (127 - fld (s.clears rAON_CAUSE v) 6 0)
  let s := s.setRf rAON_CAUSE 6 0 seen
  if seen = 0 then s.setRf rAON_CAUSE 31 29 0 else s

end Sys2Proof.Machine
end

