-- ==== Sys2Proof/Machine/Monitor.lean ====
section
/-! DEFINITION. The monitor port (R456 to R462, R470, R473): SPI transactions, the register file and the sequenced
watchdog. -/

namespace Sys2Proof.Machine

/-! ### The register file (Table 18.5) -/

/-- MON_STAT. -/
def State.monStat (s : State) : MonWord :=
  BitVec.ofNat 16 (pack [(15, 15, s.inSafe.toNat), (14, 14, (s.rb rSAFE_STAT 30).toNat), (13, 13, (!s.pwr.safeNLow).toNat),
    (12, 12, (decide (7 ≤ s.boot)).toNat), (11, 10, s.monAuth), (9, 9, s.wdArmed.toNat), (8, 7, fld (s.monReg 1) 8 7),
    (6, 6, (s.rb rSAFE_STAT 25).toNat), (5, 5, (s.rb rHL_STAT 24 || (!s.master && s.rb rKR_STAT 25)).toNat), (4, 4, s.dip.toNat)])

/-- A monitor register as read; a reserved address reads zero. -/
def State.monRead (s : State) (a : Nat) : MonWord :=
  match a with
  | 0x00 => 0x9202
  | 0x01 => s.monStat
  | 0x02 => BitVec.ofNat 16 (s.rf rSAFE_CAUSE 9 0)
  | 0x04 => s.monReg 4
  | 0x05 => s.monReg 5
  | 0x06 => s.monReg 6
  | 0x07 => s.monReg 7
  | 0x08 => s.monReg 8
  | 0x09 => s.monReg 9
  | 0x10 => s.monReg 0x10
  | 0x11 => setBit (s.monReg 0x11) 15 (decide (2 ≤ s.monAuth) || bit (s.monReg 0x11) 15)
  | 0x13 => BitVec.ofNat 16 (pack [(15, 8, s.monp.next), (2, 0, s.monp.viol)])
  | 0x1C => BitVec.ofNat 16 (pack [(15, 15, (s.tgt 16).await.isSome.toNat), (9, 0, (s.tgt 16).await.getD 1023)])
  | _ => 0

/-- MON_SNAP.TAKE: the snapshot registers are copied in this core cycle (R460). -/
def State.monSnap (s : State) : State :=
  let n := (below 96).foldl (fun n a => n + (s.disabled a).toNat) 0
  let l : List (Nat × Nat) := [(4, s.time), (5, s.time / 2 ^ 16), (6, s.time / 2 ^ 32),
    (7, pack ((below 4).map (fun d => (4 * d + 2, 4 * d, ((s.dom d).vis s.time).st)))),
    (8, pack [(14, 8, fld s.schedStat 6 0), (6, 0, n)]), (9, s.vsup)]
  l.foldl (fun (s : State) p => s.setMon p.1 (BitVec.ofNat 16 p.2)) s

/-- SAFE_ACK_N and MON_IRQ_N are driven low (R407, R466). -/
def State.safeAck (s : State) : Bool := s.live && s.inSafe && s.rb rSAFE_STAT 30
def State.monIrq (s : State) : Bool := s.live && (s.tgt 16).await.isSome

/-! ### The watchdog (R461, R462) -/

/-- VIOL has risen: the warning, a new window, and SAFE at FAILS. -/
def State.wdViolation (s : State) : State :=
  let s := (s.setMon 1 (setBit (s.monReg 1) 8 true)).wdWindow
  let v := s.monp.viol + 1
  if max 1 (fld (s.monReg 0x11) 2 0) ≤ v then { s with monp := { s.monp with viol := 0 } }.latchCause 2
  else { s with monp := { s.monp with viol := v } }

/-- A write of MON_WD_KICK. -/
def State.wdKick (s : State) (v : MonWord) : State :=
  match s.monp.wdOpen with
  | none => s
  | some t =>
    let m := s.monp
    if fld v 15 8 = m.next ∧ fld v 7 0 = 255 - m.next ∧ t + 500000 * m.wdMin ≤ s.time ∧ s.time ≤ t + 500000 * m.wdMax then
      { s with monp := { m with next := (m.next + 1) % 256, viol := m.viol - 1 } }.wdWindow
    else s.wdViolation

/-- WATCHDOG_WINDOW_EXPIRY: MAX has passed without a kick. -/
def execWatchdogWindowExpiry (s : State) : Host.Outcome State Fault Refusal :=
  execute (fun s => match s.monp.wdOpen with
    | some t => if t + 500000 * s.monp.wdMax < s.time then s.wdViolation else s
    | none => s) s

/-! ### Transactions (R457 to R459) -/

/-- A write is refused: the register is RO or reserved, or Table 18.1 forbids it. -/
def State.monRefused (s : State) (a : Nat) (v : MonWord) : Bool :=
  !(([0x01, 0x02, 0x03, 0x10, 0x11, 0x12, 0x18, 0x1D, 0x1E] : List Nat).contains a) || (a == 0x18 && v == 0x5AFE && decide (s.monAuth = 0))

/-- A write that is not refused. -/
def State.monWrite (s : State) (a : Nat) (v : MonWord) : State :=
  match a with
  | 0x01 => s.setMon 1 (s.monReg 1 &&& ~~~(v &&& 0x0180))
  | 0x02 => s.clearCauses (fld v 9 0)
  | 0x03 => if bit v 0 then s.monSnap else s
  | 0x10 => s.setMon 0x10 v
  | 0x11 => (s.setMon 0x11 (v &&& 0x8007)).wdArm
  | 0x12 => s.wdKick v
  | 0x18 =>
    if v = 0x5AFE then s.latchCause 1
    else if v = 0x0E17 ∧ s.inSafe = true then s.setRb rSAFE_STAT 25 true
    else s
  | 0x1D => s.claim 16 (fld v 9 0)
  | 0x1E => s.complete 16 (fld v 9 0)
  | _ => s

/-- STAT, MON_SDO's frame A bits 15:8. -/
def State.monStatByte (s : State) : Nat :=
  pack [(7, 7, s.inSafe.toNat), (6, 6, s.monp.disc.toNat), (5, 5, s.monp.refused.toNat), (4, 4, (bit (s.monReg 1) 8).toNat),
    (3, 3, (s.tgt 16).await.isSome.toNat), (2, 0, s.monp.accepted)]

/-- The three frames driven on MON_SDO for frame A `fa`. -/
def State.monSdo (s : State) (fa : MonWord) : Nat :=
  let hi := 2 ^ 24 * s.monStatByte * 2 ^ 8 + 2 ^ 8 * (s.monRead (fld fa 14 8)).toNat + fld fa 15 8
  2 ^ 8 * hi + crc8 40 hi

/-- The transaction is to be discarded (R459): `fa`, `fb`, `fc` the frames, `full` whether 48 clocks were seen. -/
def monDiscard (full : Bool) (fa fb fc : MonWord) : Bool :=
  !full || crc8 32 (65536 * fa.toNat + fb.toNat) != fld fc 7 0 || fld fa 7 0 != 0 || fld fc 15 8 != 0 || (!fa.msb && fb != 0)

/-- MONITOR_TRANSACTION: it is checked and executed whole when MON_CS_N rises. -/
def State.monTransaction (s : State) (full : Bool) (fa fb fc : MonWord) : State :=
  let s := { s with monp := { s.monp with sdo := s.monSdo fa } }
  if monDiscard full fa fb fc then
    { s.setMon 1 (setBit (s.monReg 1) 7 true) with monp := { s.monp with disc := true } }
  else
    let s := { s with monp := { s.monp with disc := false, accepted := (s.monp.accepted + 1) % 8 } }
    if fa.msb then
      let a := fld fa 14 8
      let no := s.monRefused a fb
      let s := { s with monp := { s.monp with refused := no } }
      if no then s else s.monWrite a fb
    else s

def execMonitorTransaction (full : Bool) (fa fb fc : MonWord) (s : State) : Host.Outcome State Fault Refusal :=
  execute (fun s => s.monTransaction full fa fb fc) s

end Sys2Proof.Machine
end

