-- ==== Sys2Proof/Machine/Shared.lean ====
section
/-! DEFINITION. What the ring shares (chapter 12, R338 to R347): TIME markers and the time state of a slave, the master's
ANGLE_STATE frames and the ring-fed angle domains. -/

namespace Sys2Proof.Machine

/-! ### Ring-fed domains: losing the source (R341, R345) -/

/-- The time state of a slave (Table 12.4): 0 FREE, 1 ACQUIRE, 2 LOCK, 3 HOLDOVER. -/
def State.tstate (s : State) : Nat := s.rf rKR_TIME 31 30

/-- The cycle counter of a domain at `t`: it moves in CRANK_SYNC and FULL_SYNC alone (R67). -/
def State.cycAt (s : State) (d t : Nat) : Nat :=
  let p := (s.dom d).cur
  if p.st = 2 ∨ p.st = 3 then (p.at t).1 else p.cyc

/-- A ring domain goes to UNSYNC with cause 0xB, a sync loss (R344, R345). -/
def State.ringUnsync (s : State) (d : Nat) : State :=
  let c := s.cycAt d s.time
  let s := s.domTo d s.time 0 (some 0xB) ((s.dom d).cur.st != 0) false
  s.setDom d { s.dom d with rxLost := some c }

/-- A ring domain that has its source loses it; one that already waits for another cycle stays in UNSYNC as it is. -/
def State.sourceLost (s : State) (d : Nat) : State :=
  let x := s.dom d
  if s.domEn d && s.domRing d && x.rxHas then
    let s := if x.rxLost.isNone then s.ringUnsync d else s
    (s.setDom d { s.dom d with rxHas := false }).setRb rKR_STAT 5 true
  else s

/-- Every ring domain loses its source. -/
def State.sourcesLost (s : State) : State := (below 4).foldl (fun s d => s.sourceLost d) s

/-- LOSS_TO in ns; 0 acts as 1. -/
def State.lossTo (s : State) : Nat := 100000 * max 1 (s.rf rKR_CFG 15 8)

/-- ANGLE_SOURCE_LOST: in the domain's slot, no frame taken for LOSS_TO. -/
def State.angleLost (s : State) (d : Nat) : State :=
  if domSlotAt d s.time && decide ((s.dom d).rxTime + s.lossTo ≤ s.time) then s.sourceLost d else s

def execAngleSourceLost (d : Fin 4) (s : State) : Host.Outcome State Fault Refusal := execute (fun s => s.angleLost d) s

/-! ### TIME (R338 to R340) -/

/-- MARK_SEND: the master's MARK on both rings, and every 1,048,576 ns TIME_SYNC after it. -/
def State.markSend (s : State) : State :=
  if s.master && s.portsOn && decide (s.time % 1024 = 0) then
    let s := s.emit (.pulse 2 s.time)
    if s.time % 1048576 = 0 then s.sendBoth 5 4095 (s.tage 0) 8 s.time else s
  else s

def execMarkSend (s : State) : Host.Outcome State Fault Refusal := execute State.markSend s

/-- DIR_B: the slave follows KB. -/
def State.dirB (s : State) : Bool := s.rb rKR_TIME 29

/-- D of a ring in 1/16 ns, from KR_DLY_A or KR_DLY_B. -/
def State.delay (s : State) (kb : Bool) : Int := ((s.reg (if kb then rKR_DLY_B else rKR_DLY_A)).toNat / 16 : Nat)

/-- M: the multiple of 1,024 ns nearest to L − D, all in 1/16 ns. -/
def nearMark (x : Int) : Int := (x + 8192) / 16384 * 16384

/-- The time state leaves LOCK (row 4 of Table 12.4): TIME_ALERT, and every ring angle source is lost (R341). -/
def State.leaveLock (s : State) : State :=
  if s.tstate = 2 then ((s.setRf rKR_TIME 31 30 3).setRb rKR_STAT 4 true).sourcesLost else s

/-- The time state at a MARK whose error is `err` (rows 3 and 4). -/
def State.markState (s : State) (err : Int) : State :=
  if s.tstate = 1 then
    let g := if err.natAbs ≤ 16 then s.ring.good + 1 else 0
    let s := { s with ring := { s.ring with good := g } }
    if 64 ≤ g then s.setRf rKR_TIME 31 30 2 else s
  else if 256 < err.natAbs then s.leaveLock else s

/-- A MARK on the ring the slave follows: ERR, and one step of steering (R338). -/
def State.followMark (s : State) (L : Nat) : State :=
  let x : Int := (L : Int) - s.delay s.dirB
  let err := x - nearMark x
  let s := s.setRf rKR_TIME 15 0 (unsgn 16 err)
  let s := { s with ring := { s.ring with markL := L, steer := s.ring.steer + clampI (-2) 2 (-err) } }
  s.markState err

/-- MARK_CAPTURE: the core cycle and the sixteenths of a nanosecond within it. A MARK due on KA every 1,024 ns is missing once half
that has passed without it. -/
def State.markCapture (s : State) (kb : Bool) (sub : Nat) : State :=
  if s.master || s.portLost kb then s
  else
    let s := { s with ring := { s.ring with markAt := s.time } }.setRb rKR_STAT 24 false
    if !s.enumd then s
    else
      let s := if kb then { s with ring := { s.ring with missA := (s.time - s.ring.markA - 512) / 1024 } }
        else { s with ring := { s.ring with markA := s.time, missA := 0 } }
      if kb == s.dirB then s.followMark (16 * s.time + sub) else s

def execMarkCapture (kb : Bool) (sub : Fin 64) (s : State) : Host.Outcome State Fault Refusal := execute (fun s => s.markCapture kb sub) s

/-- MARK_LOSS: no MARK on either ring for 16 µs (row 4); the device is orphaned (R349). -/
def State.markLoss (s : State) : State :=
  if !s.master && s.enumd && !s.rb rKR_STAT 24 && decide (s.ring.markAt + 16000 < s.time + 4) then
    (s.leaveLock.sourcesLost).setRb rKR_STAT 24 true
  else s

def execMarkLoss (s : State) : Host.Outcome State Fault Refusal := execute State.markLoss s

/-- FOLLOW_KB: eight MARKs in a row missing on KA while they arrive on KB (R338). -/
def execFollowKb (s : State) : Host.Outcome State Fault Refusal :=
  execute (fun s => if !s.master && s.enumd && decide (8 ≤ s.ring.missA) then s.setRb rKR_TIME 29 true else s) s

/-- ACQUIRE begins; the PLL takes the ring's clock (R325, R444). -/
def State.acquire (s : State) : State :=
  (({ s with ring := { s.ring with good := 0 } } : State).setRf rKR_TIME 31 30 1).setRf rCLK_STAT 31 30 3

/-- TIME_SYNC at a slave: rows 2 and 5, and a step if |ERR| > 16 ns in ACQUIRE, judged by the copy that comes on the ring followed,
behind its MARK (R338, R340). -/
def State.timeSync (s : State) (f : Frame) : State :=
  if s.master || !s.enumd then s
  else
    let s := if s.tstate = 0 ∨ s.tstate = 3 then s.acquire else s
    let err : Int := (s.ring.markL : Int) - ((16 * f.get 63 0 : Nat) + s.delay s.dirB)
    if s.tstate = 1 ∧ f.kb = s.dirB ∧ 256 < err.natAbs then { s with ring := { s.ring with step := some (-(4 * roundDivI err 64)) } } else s

def execTimeSync (f : Frame) (s : State) : Host.Outcome State Fault Refusal := execute (fun s => s.takeFrame 5 f (fun s => s.timeSync f)) s

/-- A shot is RUNNING or ENDING, or a forced shot runs. -/
def State.anyShot (s : State) : Bool :=
  s.acts.any (fun p => match p.2.shot with | some h => decide (h.st ≤ 1) | none => false)

/-- A moment kept as a TIME, moved with a step so that as many core cycles lie between. -/
def stepped (k : Int) (t : Nat) : Nat := ((t : Int) + k).toNat

/-- TIME moves by `k`; what counts core cycles goes on as it was (R340, R357, R389): the ring's and the watch's references, flag
actions and marks of the present core cycle. -/
def State.moveTime (s : State) (k : Int) (upTo : Nat) : State :=
  { s with
    time := upTo, skew := s.skew + k
    flagQ := s.flagQ.map (fun q => (stepped k q.1, q.2)), actMarks := s.actMarks.map (fun m => (stepped k m.1, m.2))
    poll := { s.poll with ref := stepped k s.poll.ref }
    ring := { s.ring with
      step := none, good := 0, markAt := stepped k s.ring.markAt, markA := stepped k s.ring.markA
      epochAt := s.ring.epochAt.map (stepped k), newEpoch := s.ring.newEpoch.map (stepped k), cleanAt := s.ring.cleanAt.map (stepped k)
      accs := s.ring.accs.map (fun (a : Acc) => { a with sent := stepped k a.sent })
      unans := s.ring.unans.map (fun (u : Unans) => { u with sent := stepped k u.sent, again := u.again.map (stepped k) }) } }

/-- TIME_STEP: TIME steps in one core cycle, once no shot runs (R340, R389). -/
def State.timeStep (s : State) : State :=
  match s.ring.step with
  | some k =>
    if s.tstate ≠ 1 then { s with ring := { s.ring with step := none } }
    else if s.anyShot then s
    else
      let upTo := stepped k s.time % 2 ^ 64
      ((s.tmrTimeStep upTo).moveTime k upTo).bump rKR_CNT_B 23 16
  | none => s

def execTimeStep (s : State) : Host.Outcome State Fault Refusal := execute State.timeStep s

/-! ### The master's frames (R343, Table 12.5) -/

/-- The payload of an ANGLE_STATE frame of domain `d`. -/
def anglePayload (d : Nat) (p : Pub) (rev refresh : Bool) (seq : Nat) : Nat :=
  let c := cycLen p.cyc360
  pack [(1, 0, d), (4, 2, p.st), (6, 6, rev.toNat), (7, 7, refresh.toNat), (15, 8, seq), (25, 16, p.entry), (55, 32, p.theta),
    (87, 64, (p.theta + p.fence) % c), (159, 96, p.tk), (191, 160, p.om), (231, 192, unsgn 40 p.a), (232, 232, p.cyc360.toNat),
    (255, 240, p.cyc), (287, 256, unsgn 32 p.al)]

/-- The master broadcasts ADOM[d]. -/
def State.angTx (s : State) (d : Nat) : Bool := s.master && s.portsOn && s.rb rKR_CFG (24 + d)

/-- One ANGLE_STATE frame leaves on both rings, its ASEQ one above the last. -/
def State.sendAngle (s : State) (d : Nat) (refresh : Bool) : State :=
  let x := s.dom d
  let q := (x.txSeq + 1) % 256
  let s := s.setDom d { x with txDue := false, txRev := false, txSeq := q, txTime := s.time }
  s.sendBoth 6 4095 (s.tage 0) 36 (anglePayload d x.cur (x.txRev && !refresh) refresh q)

/-- A state published in this slot is sent. -/
def State.angleTx (s : State) (d : Nat) : State :=
  let x := s.dom d
  if x.txDue && s.angTx d then s.sendAngle d false
  else if x.txDue || x.txRev then s.setDom d { x with txDue := false, txRev := false } else s

/-- ANGLE_REFRESH: REFRESH without any other frame. -/
def State.angleRefresh (s : State) (d : Nat) : State :=
  if s.angTx d && decide ((s.dom d).txTime + 100000 * max 1 (s.rf rKR_CFG 23 16) < s.time + 4) then s.sendAngle d true else s

def execAngleRefresh (d : Fin 4) (s : State) : Host.Outcome State Fault Refusal := execute (fun s => s.angleRefresh d) s

/-! ### A ring-fed domain (R344) -/

/-- The state a frame carries. -/
def Frame.pub (f : Frame) : Pub :=
  let c360 := bit f.pay 232
  let c := cycLen c360
  let st := f.get 4 2
  { st := st, entry := f.get 25 16, theta := f.get 55 32, hasAngle := decide (2 ≤ st ∧ st ≤ 4), tk := f.get 159 96, om := f.get 191 160
    al := sgn 32 (f.get 287 256), a := sgn 40 (f.get 231 192), fence := (f.get 87 64 + c - f.get 55 32 % c) % c, cyc := f.get 255 240, cyc360 := c360 }

/-- ANGLE_STATE: the frame waits for the slot of every ring domain that follows its master domain. -/
def State.angleFrame (s : State) (f : Frame) : State :=
  if s.master then s
  else (below 4).foldl (fun s d =>
    if s.domEn d && s.domRing d && decide (s.ring.map / 4 ^ d % 4 = f.get 1 0) then
      s.setDom d { s.dom d with rxQ := (s.dom d).rxQ ++ [(f.get 15 8, bit f.pay 6, f.pub)] } else s) s

def execAngleState (f : Frame) (s : State) : Host.Outcome State Fault Refusal := execute (fun s => s.takeFrame 6 f (fun s => s.angleFrame f)) s

/-- A change from state `a` to state `b` that Table 3.2 marks a sync loss for every actuator. -/
def lossRow (a b : Nat) : Bool :=
  match b with
  | 0 | 1 => a == 2 || a == 3
  | 4 => a == 1 || a == 2 || a == 3
  | 5 => a != 0 && a != 5
  | _ => false

/-- A ring-fed domain takes its cycle length from the frames, and ADOM_CFG.CYC follows it (R344). -/
def State.ringCycle (s : State) (d : Nat) (p : Pub) : State :=
  (s.setDom d { s.dom d with cyc360 := p.cyc360 }).setRb (rADOM_CFG d) 30 p.cyc360

/-- A frame's state is published (R62, R344); a change of state reaches the scheduler as R66 and R98 say. -/
def State.ringPublish (s : State) (d : Nat) (p : Pub) : State :=
  let x := s.dom d
  let a := x.cur
  let s := if a.st ≠ p.st then s.domEvent d 0 else s
  let s := (s.ringCycle d p).publish d s.time p
  let s := if a.st = 2 ∧ p.st = 3 ∧ a.tk = p.tk ∧ p.theta = (a.theta + halfCyc) % cycLen p.cyc360 then s.moveTargets d s.time else s
  if lossRow a.st p.st then s.domLoss d p.st false
  else if a.st = 3 ∧ p.st = 2 then s.domLoss d 2 true
  else s

/-- A reverse indication from the ring (R81, R344); the domain's own count stays at zero. -/
def State.ringReverse (s : State) (d : Nat) (p : Pub) : State :=
  let st := (s.dom d).cur.st
  let s := ((s.ringCycle d p).domEvent d 6).domTo d s.time 5 (some 0xA) (st != 0 && st != 5) true
  let x := s.dom d
  s.setDom d { x with cur := { x.cur with entry := p.entry, cyc := p.cyc, cyc360 := p.cyc360 } }

/-- A frame that is not a duplicate is used, in LOCK, unless the source was lost in the cycle it carries (R344, R345). -/
def State.ringUse (s : State) (d : Nat) (rev : Bool) (p : Pub) : State :=
  let x := s.dom d
  if s.tstate ≠ 2 ∨ x.rxLost = some p.cyc then s
  else
    let s := s.setDom d { x with rxLost := none }
    if x.cur.st ≠ 0 ∧ p.cyc360 ≠ x.cyc360 then (s.ringUnsync d).ringCycle d p
    else if rev then s.ringReverse d p
    else s.ringPublish d p

/-- One frame in the slot: a duplicate is ignored. -/
def State.ringFrame (s : State) (d : Nat) (q : Nat) (rev : Bool) (p : Pub) : State :=
  let x := s.dom d
  let k := match x.rxSeq with | some q0 => (q + 256 - q0) % 256 | none => 1
  if k = 0 ∨ 128 ≤ k then s
  else (s.setDom d { x with rxSeq := some q, rxTime := s.time, rxHas := x.rxHas || s.tstate = 2 }).ringUse d rev p

/-- The slot of a ring-fed domain. -/
def State.ringSlot (s : State) (d : Nat) : State :=
  let s := (s.takeSnap d).row1 d
  let l := (s.dom d).rxQ
  let s := s.setDom d { s.dom d with rxQ := [] }
  if s.domEn d then l.foldl (fun s e => s.ringFrame d e.1 e.2.1 e.2.2) s else s

/-! ### The slots and deadlines of every domain -/

/-- DOMAIN_SLOT. -/
def execDomainSlot (d : Fin 4) (s : State) : Host.Outcome State Fault Refusal :=
  execute (fun s => if domSlotAt d s.time then (if s.domRing d then s.ringSlot d else s.wheelSlot d).angleTx d else s) s

def execMissedTooth (d : Fin 4) (s : State) : Host.Outcome State Fault Refusal := execute (fun s => (s.missedTooth d).angleTx d) s
def execStall (d : Fin 4) (s : State) : Host.Outcome State Fault Refusal := execute (fun s => (s.stallCmd d).angleTx d) s
def execCamSpanDecision (d : Fin 4) (s : State) : Host.Outcome State Fault Refusal := execute (fun s => (s.camDecide d).angleTx d) s

end Sys2Proof.Machine
end

