-- ==== Sys2Proof/Machine/RegFile.lean ====
section
/-! DEFINITION. Register access (R258 to R260, R301): what a read of each setup register returns, and what a write of it
does, by its address in BAR0. -/

namespace Sys2Proof.Machine

/-! ### Reads -/

/-- The number of a register in an array at `base` with a stride, and its offset. -/
def arr (a base stride : Nat) : Nat × Nat := ((a - base) / stride, (a - base) % stride)

/-- A register whose other bits a chapter computes: their mask and value. -/
def State.over (s : State) (a : Nat) (m : Word × Word) : Word := (s.reg a &&& ~~~m.1) ||| (m.2 &&& m.1)

/-- Identity and fuse summary (Table 9.3), SAFE (Table 18.6). -/
def State.readId (s : State) (a : Nat) : Word :=
  if a = rID_ADDR then word [(31, 31, s.master.toNat), (30, 30, (s.master || s.enumd).toNat), (11, 0, if s.master then 0 else s.addr)]
  else if a = rID_UID_LO then BitVec.ofNat 32 s.uid
  else if a = rID_RES then word [(31, 24, ((below 192).filter (fun n => s.laneEn n)).length), (23, 20, if 5 ≤ s.boot then s.pwr.trays else 15)]
  else if a = rFUSE_SUM then s.fuseSumRead
  else if a = rSAFE_STAT then s.safeStatRead
  else if a = rSAFE_CAUSE then s.safeCauseRead
  else s.reg a

/-- Clocks and power (Table 17.8). -/
def State.readPwr (s : State) (a : Nat) : Word :=
  if a = rPWR_STAT then s.pwrStatRead else if a = rPWR_MEAS then s.pwrMeasRead else s.reg a

/-- Record streams, mailboxes and the queue engine (Table 10.12); a slave reads after-reset values (R296). -/
def State.readStream (s : State) (a : Nat) : Word :=
  if !s.master then resetOf a
  else if a < 0x0940 then
    let i := arr a 0x0840 0x20
    if i.2 = 0x0C then setBit (s.reg a) 31 (s.rsFull i.1) else if i.2 = 0x10 then s.rsSeqRead i.1 else s.reg a
  else if a = rQE_STAT then s.qeStatRead
  else if a = rQE_STALL then s.qeStallRead
  else s.reg a

/-- Queue pairs (Table 10.11). -/
def State.readQp (s : State) (a : Nat) : Word :=
  let i := arr a 0x1000 0x40
  if 0x20 ≤ i.2 ∧ i.2 < 0x2C then s.qpOwnRead i.1 ((i.2 - 0x20) / 4)
  else if !s.master then (if i.2 = 4 then setBit 0 27 (s.fullQp i.1) else resetOf a)
  else if i.2 = 4 then s.qpStatRead i.1
  else if i.2 = 0x18 then s.qpCseqRead i.1
  else s.reg a

/-- The interrupt controller and the watch (Table 15.7). -/
def State.readInt (s : State) (a : Nat) : Word :=
  if a < 0x1D00 then s.intSrcRead ((a - 0x1800) / 4)
  else if a < 0x1E40 then
    let i := arr a 0x1D00 0x10
    if i.2 = 4 ∧ i.1 < 17 then s.intTstatRead i.1 else s.reg a
  else if a = rINT_RNPOP then s.rnpop
  else if a = rINT_GSTAT then s.intGstatRead
  else s.reg a

/-- Kringle (Table 12.9). -/
def State.readKr (s : State) (a : Nat) : Word :=
  if a = rKR_CFG then s.krCfgRead else if a = rKR_STAT then s.krStatRead else if a = rKR_TIME then s.krTimeRead else s.reg a

/-- Wheel inputs (Table 2.11). -/
def State.readWhl (s : State) (a : Nat) : Word :=
  let i := arr a 0x2400 0x40
  if i.2 = 0x18 then s.over a (s.whlStat i.1)
  else if i.2 = 0x24 then BitVec.ofNat 32 (s.wheel i.1).lastTs
  else if i.2 = 0x28 then BitVec.ofNat 32 (s.wheel i.1).tsShadow
  else s.reg a

/-- Angle domains (Tables 3.15 and 3.16). -/
def State.readAdom (s : State) (a : Nat) : Word :=
  let i := arr a 0x2800 0x100
  if i.2 = 0x14 then s.over a (s.adomStat i.1)
  else if 0x24 ≤ i.2 ∧ i.2 ≤ 0x38 then (s.dom i.1).snap.word ((i.2 - 0x20) / 4)
  else s.reg a

/-- Actuators, banks and profiles (Tables 5.13 to 5.17). -/
def State.readAct (s : State) (a : Nat) : Word :=
  if a < 0x3600 then
    let i := arr a 0x3000 0x10
    if i.2 = 4 then setFld (s.reg a) 30 28 (s.cls i.1) else if i.2 = 0xC then s.actStat i.1 else s.reg a
  else if a = rPROF_VALID_LO then s.profValidWord 0
  else if a = rPROF_VALID_HI then s.profValidWord 1
  else if a = rBANK_INUSE then s.bankInUseWord
  else s.reg a

/-- Trays, lanes and shot feedback (Tables 6.10 to 6.14). -/
def State.readLane (s : State) (a : Nat) : Word :=
  if a < 0x3D00 ∧ a % 8 = 0 then s.laneCfgRead ((a - 0x3700) / 8) else s.reg a

/-- Boost rails (Table 7.7). -/
def State.readBst (s : State) (a : Nat) : Word :=
  if a < 0x4200 then
    let i := arr a 0x4000 0x40
    match i.2 with
    | 0x04 => s.bstSetRead i.1
    | 0x10 => s.bstStatRead i.1
    | 0x14 => s.bstMeasRead i.1
    | _ => s.reg a
  else if a = rBST_GSTAT then s.bstGstatRead else s.reg a

/-- Timers (Table 14.7). -/
def State.readTmr (s : State) (a : Nat) : Word :=
  if a < 0x4600 then
    let i := arr a 0x4400 0x10
    if i.2 = 0 then s.tmrCfgRead i.1 else if i.2 = 0xC then BitVec.ofNat 32 (s.tmr i.1).count else s.reg a
  else if a = rTMR_RUN then s.tmrRunRead
  else if a = rTMR_GSTAT then s.tmrGstatRead
  else s.reg a

/-- Pretzel control (Tables 13.8 and 13.9). -/
def State.readPz (s : State) (a : Nat) : Word :=
  if a < 0x4C00 then
    let i := arr a 0x4800 0x40
    match i.2 with
    | 0x14 => s.pzStatRead i.1
    | 0x18 => (s.pz i.1).x
    | 0x1C => (s.pz i.1).y
    | 0x20 => (s.pz i.1).sh
    | _ => s.reg a
  else if a < 0x4C40 then
    let i := arr a 0x4C00 0x10
    if i.2 = 0 then BitVec.ofNat 32 (s.pzgRun i.1) else if i.2 = 4 then s.pzgStatRead i.1 else s.reg a
  else if a = rPZ_FLAGS then s.flagsVis
  else if a = rPZ_PIN_IN then s.pinIn
  else if a = rPZ_OWN_EN then s.ownedPins
  else if a = rPZ_OWN_GLO then (if s.mapBlank then 0 else s.reg rPM_PZ_GLO)
  else if a = rPZ_OWN_GHI then (if s.mapBlank then 0 else s.reg rPM_PZ_GHI)
  else s.reg a

/-- The program window (R372): an instruction in bits 15:0. -/
def State.readWindow (s : State) (a : Nat) : Word :=
  if a < 0x5400 then (tabGet 0 s.pzMem ((a - 0x5000) / 4)).setWidth 32 else 0

/-- The journal (Table 16.10). -/
def State.readJrn (s : State) (a : Nat) : Word :=
  if a = rJRN_STAT then s.jrnStatRead
  else if a = rJRN_FILL then s.jrnFillRead
  else if a = rJRN_GEN then BitVec.ofNat 32 s.jrn.gen
  else if a = rJRN_SEQ then BitVec.ofNat 32 s.jrn.topSeq
  else s.reg a

/-- The map shadow and the fuses (Table 16.10). -/
def State.readMap (s : State) (a : Nat) : Word :=
  if a = rFUSE_STAT then s.fuseStatRead else if a = rFUSE_RD_LO then s.fuseRdLo else if a = rFUSE_RD_HI then s.fuseRdHi else s.reg a

/-- Diagnostics and memory errors (Tables 8.7 and 8.8). -/
def State.readDiag (s : State) (a : Nat) : Word :=
  if a = rDIAG_FIFO then BitVec.ofNat 32 s.fifoFill
  else if a = rDIAG_GSTAT then setBit (s.reg a) 29 s.summary.isSome
  else s.reg a

/-- The dword a read of the register at `a` returns (R258): the block of Table 9.2, zero at a reserved address. -/
def State.regRead (s : State) (a : Nat) : Word :=
  if a < 0x0400 then s.readId a
  else if a < 0x0800 then s.readPwr a
  else if a < 0x0840 then (if s.master then s.reg a else 0)
  else if a < 0x1000 then s.readStream a
  else if a < 0x1800 then s.readQp a
  else if a < 0x2000 then s.readInt a
  else if a < 0x2400 then s.readKr a
  else if a < 0x2800 then s.readWhl a
  else if a < 0x2C00 then s.readAdom a
  else if a < 0x3000 then (if a = rSCHED_STAT then s.schedStat else s.reg a)
  else if a < 0x3700 then s.readAct a
  else if a < 0x4000 then s.readLane a
  else if a < 0x4400 then s.readBst a
  else if a < 0x4800 then s.readTmr a
  else if a < 0x5000 then s.readPz a
  else if a < 0x6000 then s.readWindow a
  else if a < 0x7000 then s.readJrn a
  else if a < 0x7800 then s.readMap a
  else if a < 0x8000 then s.readDiag a
  else 0

/-- What a read does beside returning its dword: the shadows of R42 and R261, and INT_RNPOP (R408). -/
def State.readEffect (s : State) (a : Nat) : State :=
  if a = rID_UID_LO then s.uidRead
  else if a = rINT_RNPOP then { s with ring := { s.ring with notices := s.ring.notices.tail } }
  else if 0x2400 ≤ a ∧ a < 0x2800 ∧ a % 0x40 = 0x24 then s.lastTsRead ((a - 0x2400) / 0x40)
  else s

/-! ### Writes -/

/-- A write under the access codes of R15, a device update of the same core cycle winning over a write of 1 that clears; a reserved
address ignores it (R258). -/
def State.plainWrite (s : State) (a : Nat) (v : Word) : State :=
  match rowOf a with
  | some r => s.setReg a (rowWrite r (s.reg a) (v &&& ~~~(BitVec.ofNat 32 r.w1c &&& s.justSet a)))
  | none => s

/-- The bits a write of the register at `a` may store. -/
def rwMask (a : Nat) : Word := match rowOf a with | some r => BitVec.ofNat 32 r.rw | none => 0

/-- Identity to host link. -/
def State.writeLow (s : State) (a : Nat) (v : Word) : State :=
  if a = rSAFE_CAUSE then s.safeCauseWrite v
  else if a = rSAFE_CTRL then s.safeCtrlWrite v
  else if a = rRUN_CTRL then s.runCtrlWrite v
  else if a = rRST_CTRL then s.rstCtrlWrite v
  else if a < 0x0800 then s.plainWrite a v
  else if !s.master then s
  else if a = rDB_BASE_LO ∨ a = rDB_BASE_HI then s.dbBaseWrite a (rwMask a) v
  else if a = rDB_POLL then s.dbPollWrite v
  else if a = rHL_LIVE then s.hlLiveWrite v
  else s.plainWrite a v

/-- Record streams and mailboxes. -/
def State.writeStream (s : State) (a : Nat) (v : Word) : State :=
  if !s.master then s
  else if a < 0x0940 then
    let i := arr a 0x0840 0x20
    match i.2 with
    | 0 => s.rsCfgWrite i.1 v
    | 4 => s.rsBaseWrite i.1 a (rwMask a) v
    | 8 => s.rsBaseWrite i.1 a (rwMask a) v
    | _ => s.plainWrite a v
  else if a = rMBX_BASE_LO ∨ a = rMBX_BASE_HI then s.mbxBaseWrite a (rwMask a) v
  else s.plainWrite a v

/-- Queue pairs. -/
def State.writeQp (s : State) (a : Nat) (v : Word) : State :=
  let i := arr a 0x1000 0x40
  if !s.master then s
  else if i.2 = 0 then s.qpCfgWrite i.1 v
  else if 8 ≤ i.2 ∧ i.2 < 0x18 then s.qpAddrWrite i.1 a (rwMask a) v
  else s.plainWrite a v

/-- The interrupt controller and the watch. -/
def State.writeInt (s : State) (a : Nat) (v : Word) : State :=
  if a < 0x1D00 then s.intSrcWrite ((a - 0x1800) / 4) v
  else if a = rIE_TGT then s.ieTgtWrite v
  else if a = rINT_RCPL then s.rcplWrite v
  else if a = rAON_CAUSE then s.aonCauseWrite v
  else s.plainWrite a v

/-- Kringle. -/
def State.writeKr (s : State) (a : Nat) (v : Word) : State :=
  if a = rKR_CFG then s.krCfgWrite v
  else if a = rKR_WAKE then (if bit v 0 then s.krSend else s)
  else s.plainWrite a v

/-- Wheel inputs. -/
def State.writeWhl (s : State) (a : Nat) (v : Word) : State :=
  let i := arr a 0x2400 0x40
  match i.2 with
  | 0x00 => s.whlCfgWrite i.1 v
  | 0x04 => s.whlSetWrite i.1 a v
  | 0x08 => s.whlSetWrite i.1 a v
  | 0x10 => s.whlSetWrite i.1 a v
  | _ => s.plainWrite a v

/-- Angle domains. -/
def State.writeAdom (s : State) (a : Nat) (v : Word) : State :=
  let i := arr a 0x2800 0x100
  match i.2 with
  | 0x00 => s.adomCfgWrite i.1 v
  | 0x10 => s.adomLogWrite i.1 v
  | 0x20 => if bit v 0 then s.takeCmd i.1 else s
  | _ => s.plainWrite a v

/-- Actuators and banks. -/
def State.writeAct (s : State) (a : Nat) (v : Word) : State :=
  if a < 0x3600 then
    let i := arr a 0x3000 0x10
    match i.2 with
    | 0x0 => s.actFixedWrite i.1 a (rwMask a) v
    | 0x4 => s.actCfgWrite i.1 v
    | 0x8 => s.actFixedWrite i.1 a (rwMask a) v
    | _ => s.plainWrite a v
  else if a < 0x3680 then s.bankCfgWrite ((a - 0x3600) / 4) v
  else s.plainWrite a v

/-- Trays, lanes and shot feedback. -/
def State.writeLane (s : State) (a : Nat) (v : Word) : State :=
  if a < 0x3D00 then (if a % 8 = 0 then s.laneCfgWrite ((a - 0x3700) / 8) v else s.plainWrite a v)
  else if a < 0x3E00 ∧ a % 0x40 = 0x10 then s.trayPeekWrite ((a - 0x3D00) / 0x40) v
  else if 0x3F80 ≤ a ∧ a < 0x3F8C then s.unfreezeWord ((a - 0x3F80) / 4) v
  else s.plainWrite a v

/-- Boost rails. -/
def State.writeBst (s : State) (a : Nat) (v : Word) : State :=
  if a < 0x4200 then
    let i := arr a 0x4000 0x40
    match i.2 with
    | 0x00 => s.bstCfgWrite i.1 v
    | 0x04 => s.bstPointWrite i.1 false v
    | 0x08 => s.bstPointWrite i.1 true v
    | 0x10 => s.bstStatWrite i.1 v
    | _ => s.plainWrite a v
  else if a = rBST_HOLD then s.bstHoldWrite v
  else s.plainWrite a v

/-- Timers. -/
def State.writeTmr (s : State) (a : Nat) (v : Word) : State :=
  if a < 0x4600 then
    let i := arr a 0x4400 0x10
    match i.2 with
    | 0x0 => s.tmrCfgWrite i.1 v
    | 0x4 => s.tmrAuxWrite i.1 v
    | 0x8 => s.tmrCmpWrite i.1 v
    | _ => s.tmrCountWrite i.1 v
  else if a = rTMR_START then s.eachBit v State.startTmr
  else if a = rTMR_STOP then s.eachBit v State.stopTmr
  else if a = rTMR_ARM then s.eachBit v State.armTmr
  else s.plainWrite a v

/-- Pretzel control. -/
def State.writePz (s : State) (a : Nat) (v : Word) : State :=
  if a < 0x4C00 then
    let i := arr a 0x4800 0x40
    match i.2 with
    | 0x00 => s.pzSetting i.1 a (v &&& rwMask a)
    | 0x04 => s.pzSetting i.1 a (v &&& rwMask a)
    | 0x08 => s.pzShiftWrite i.1 v
    | 0x0C => s.pzRecWrite i.1 (v &&& rwMask a)
    | 0x10 => s.pzSetting i.1 a (v &&& rwMask a)
    | _ => s.plainWrite a v
  else if a < 0x4C40 ∧ a % 0x10 = 0 then s.pzgCtrlWrite ((a - 0x4C00) / 0x10) v
  else if a = rPZ_FLAG_SET then { s with flags := s.flags ||| v }
  else if a = rPZ_FLAG_CLR then { s with flags := s.flags &&& ~~~v }
  else s.plainWrite a v

/-- The map shadow and the fuses. -/
def State.writeMap (s : State) (a : Nat) (v : Word) : State :=
  if a < 0x7200 then (if (rowOf a).isSome then s.shadowWrite ((a - 0x7000) / 4) v else s)
  else if a = rFUSE_CTRL then (match fld v 1 0 with | 1 => s.burnMap | 2 => s.seal_ | _ => s)
  else if a = rFUSE_KEY then s.fuseKey v
  else s.plainWrite a v

/-- Diagnostics and memory errors. -/
def State.writeDiag (s : State) (a : Nat) (v : Word) : State :=
  if a < 0x7E00 ∧ a % 0x10 = 0xC then s.dutyWrite ((a - 0x7800) / 0x10) v
  else if 0x7FA0 ≤ a ∧ a < 0x7FAC then s.reenableWord ((a - 0x7FA0) / 4) v
  else s.plainWrite a v

/-- A write of the register at `a` (R258). -/
def State.regWrite (s : State) (a : Nat) (v : Word) : State :=
  if a < 0x0840 then s.writeLow a v
  else if a < 0x1000 then s.writeStream a v
  else if a < 0x1800 then s.writeQp a v
  else if a < 0x2000 then s.writeInt a v
  else if a < 0x2400 then s.writeKr a v
  else if a < 0x2800 then s.writeWhl a v
  else if a < 0x2C00 then s.writeAdom a v
  else if a < 0x3000 then (if a = rSCHED_PEEK then s.peekWrite v else s.plainWrite a v)
  else if a < 0x3700 then s.writeAct a v
  else if a < 0x4000 then s.writeLane a v
  else if a < 0x4400 then s.writeBst a v
  else if a < 0x4800 then s.writeTmr a v
  else if a < 0x5000 then s.writePz a v
  else if a < 0x5400 then s.windowWrite ((a - 0x5000) / 0x100) ((a - 0x5000) % 0x100 / 4) v
  else if a < 0x7000 then s.plainWrite a v
  else if a < 0x7800 then s.writeMap a v
  else if a < 0x8000 then s.writeDiag a v
  else s

/-- A write through BAR0 waits behind one that waits (R451). -/
def State.barPut (s : State) (a : Nat) (v : Word) : State :=
  if s.barWait.isEmpty && !s.trayWait a then s.regWrite a v else { s with barWait := s.barWait ++ [(a, v)] }

/-- The writes that wait are taken in their order once the clocks run again (R451). -/
def State.barDrain (s : State) : State :=
  if s.barWait.any (fun p => s.trayWait p.1) then s
  else s.barWait.foldl (fun (s : State) p => s.regWrite p.1 p.2) { s with barWait := [] }

/-- DOZE_EXIT_DONE: at the first frame start after settling RUN is in force, or SAFE where a cause waits (R467); accesses that
waited for the tray clocks are made. -/
def execDozeExitDone (s : State) : Host.Outcome State Fault Refusal :=
  execute (fun s => if s.run = 3 ∧ s.time % 64 = 0 ∧ s.pwr.seqAt + 22000 ≤ s.time then ({ s with run := 0 }.bump rXING_CNT 15 8).barDrain else s) s

/-- FRAME_START. -/
def execFrameStart (s : State) : Host.Outcome State Fault Refusal := execute (fun s => if s.time % 64 = 0 then s.frameStart.barDrain else s) s

/-- REGISTER_WRITE: a write of one dword. Through BAR0 it needs the decoding of R251, and one whose byte enables are not all set is
discarded (R258); a slave is reached by REG_WRITE alone (R260). -/
def execRegisterWrite (a : Fin 0x4000) (v : Word) (p : WritePath) (s : State) : Host.Outcome State Fault Refusal :=
  execute (fun s =>
    if p.bar && !s.barOk then s.unsupported
    else if p.be ≠ 15 then s.partialWrite
    else if p.bar then s.barPut (4 * a) v
    else s.trayWrite (4 * a) v (fun s => s.regWrite (4 * a) v)) s

/-- A read of a register through BAR0 waits, for its clock or behind a write that waits (R451). -/
def State.barHeld (s : State) (a : Nat) : Bool := !s.barWait.isEmpty || s.trayWait a

/-- What a host read of a dword at `addr` returns, once it does not wait; none is an Unsupported Request (R251). -/
def State.barRead (s : State) (addr : Nat) : Option Word :=
  if !s.barOk then none
  else if s.link.bar0 ≤ addr ∧ addr < s.link.bar0 + 0x10000 then some (s.regRead (addr - s.link.bar0))
  else if s.link.bar2 ≤ addr ∧ addr < s.link.bar2 + 0x1000 then some (s.bar2Read ((addr - s.link.bar2) / 4))
  else none

end Sys2Proof.Machine
end

