-- ==== Sys2Proof/Machine/Opcodes.lean ====
section
/-! DEFINITION. The commands of chapter 11 that act on domains, actuators, rails, timers, streams and registers (R301, R308
to R312, R316). -/

namespace Sys2Proof.Machine

/-! ### Setup access (R301) -/

/-- REG_WRITE: the result is the dword read once the write is in force. -/
def State.regWriteCmd (s : State) (c : Cmd) : State :=
  let a := c.opnd 8 11
  if s.trayWait a then s
  else
    let s := s.regWrite a (BitVec.ofNat 32 (c.opnd 12 15))
    if s.live then s.finish c 0 (s.regRead a).toNat else s

def execRegWrite (e : Fin 64) (s : State) : Host.Outcome State Fault Refusal := execute (fun s => s.command 0x10 0x10 e State.regWriteCmd) s

/-- REG_READ. -/
def State.regReadCmd (s : State) (c : Cmd) : State :=
  let a := c.opnd 8 11
  if s.trayWait a then s else (s.readEffect a).finish c 0 (s.regRead a).toNat

def execRegRead (e : Fin 64) (s : State) : Host.Outcome State Fault Refusal := execute (fun s => s.command 0x11 0x11 e State.regReadCmd) s

/-! ### Angle domains (R61, R93, R308, R309) -/

/-- A command that acts in the domain's first slot after its start: `f` acts in that slot. -/
def State.inSlot (s : State) (c : Cmd) (f : State → State) : State :=
  if c.phase = 0 then s.modCmd c.ord (fun c => { c with phase := 1 })
  else if domSlotAt (c.byte 8) s.time && c.started != some s.time then f s
  else s

/-- SYNC_RESET: row 1 of Table 3.2 acts at the start of this slot. -/
def State.syncReset (s : State) (c : Cmd) : State :=
  s.inSlot c (fun s => (s.setDom (c.byte 8) { s.dom (c.byte 8) with row1 := some 2 }).finish c 0 0)

def execSyncReset (e : Fin 64) (s : State) : Host.Outcome State Fault Refusal := execute (fun s => s.command 0x40 0x40 e State.syncReset) s

/-- The cycle length is set: the table is invalid, the corrections are zero, the cycle counter is 0 (R61). -/
def State.cycleSet (s : State) (d : Nat) (short : Bool) : State :=
  let s := (s.tableOff d).setRb (rADOM_CFG d) 30 short
  let x := s.dom d
  let s := s.setDom d { x with cyc360 := short, cur := { x.cur with cyc := 0, cyc360 := short }, old := { x.old with cyc := 0, cyc360 := short } }
  { s with corrs := tabClear (1024 * d) (1024 * d + 1024) s.corrs }.rewrote 2 (1024 * d) 1024

/-- SET_CYCLE. -/
def State.setCycle (s : State) (c : Cmd) : State :=
  s.inSlot c (fun s => if s.domBusy (c.byte 8) then s.finish c 0x24 0 else (s.cycleSet (c.byte 8) (c.byte 9 == 1)).finish c 0 0)

def execSetCycle (e : Fin 64) (s : State) : Host.Outcome State Fault Refusal := execute (fun s => s.command 0x41 0x41 e State.setCycle) s

/-- The result of READ_ANGLE, and the snapshot it writes (Table 11.5). -/
def Snap.result (x : Snap) : Nat := pack [(31, 0, (x.word 1).toNat), (63, 32, x.om), (79, 64, x.cyc)]
def Snap.image (x : Snap) : Nat :=
  pack [(63, 0, x.time), (95, 64, (x.word 1).toNat), (127, 96, x.om), (159, 128, unsgn 32 x.al), (175, 160, x.cyc), (185, 176, x.entry), (255, 192, x.tk)]

/-- The snapshot of a READ_ANGLE goes to its buffer once it can be written, and the completion follows; TIME is the slot's. -/
def State.angleWrite (s : State) (c : Cmd) : State :=
  let done (s : State) := s.finishAt c c.sentAt 0 c.result
  if c.phase = 3 then
    (if c.failed then s.finishAt c c.sentAt 0x16 0 else if s.bufReady c.ord then done s else s)
  else if s.bufReady c.ord then
    (if s.master then done (s.bufWrite c.ord (c.opnd 16 23) 32 c.data)
     else (s.modCmd c.ord (fun c => { c with phase := 3 })).bufWrite c.ord (c.opnd 16 23) 32 c.data)
  else s

/-- READ_ANGLE: the snapshot of the domain's first slot after the start; with a buffer it is written before the completion. -/
def State.readAngle (s : State) (c : Cmd) : State :=
  if 2 ≤ c.phase then s.angleWrite c
  else s.inSlot c (fun s =>
    let r := s.snapAt (c.byte 8) s.time
    if c.opnd 16 23 = 0 then r.2.finish c 0 r.1.result
    else
      let f (c : Cmd) : Cmd := { c with phase := 2, result := r.1.result, data := r.1.image, sentAt := r.1.time }
      (r.2.modCmd c.ord f).angleWrite (f c))

def execReadAngle (e : Fin 64) (s : State) : Host.Outcome State Fault Refusal := execute (fun s => s.command 0x42 0x42 e State.readAngle) s

/-! ### Actuators (R310) -/

/-- ACT_READ: in the LS lane's first slot after its start; at once without an LS lane. -/
def State.actRead (s : State) (c : Cmd) : State :=
  let a := c.byte 8
  let head := (s.actStat a).toNat + 2 ^ 32 * (s.reg (rDIAG_AST a)).toNat
  if 192 ≤ s.lsLane a then s.finish c 0 head
  else if c.phase = 0 then s.modCmd c.ord (fun c => { c with phase := 1 })
  else if s.lsSlot a && c.started != some s.time then s.finish c 0 (head + 2 ^ 64 * (s.lane (s.lsLane a)).peekWord.toNat)
  else s

def execActRead (e : Fin 64) (s : State) : Host.Outcome State Fault Refusal := execute (fun s => s.command 0x50 0x50 e State.actRead) s

/-- A mask of actuators as a number. -/
def maskOf (l : List Nat) : Nat := l.foldl (fun n a => n + 2 ^ a) 0

/-- ACT_REENABLE. -/
def State.actReenable (s : State) (c : Cmd) : State :=
  let off := c.mask.filter (fun a => s.disabled a)
  let no := off.filter (fun a => s.reenRefused a)
  let s := off.foldl (fun (s : State) a => s.reenable a) s
  s.finish c (if no.isEmpty then 0 else 0x17) (maskOf (off.filter (fun a => !no.contains a)))

def execActReenable (e : Fin 64) (s : State) : Host.Outcome State Fault Refusal := execute (fun s => s.command 0x51 0x51 e State.actReenable) s

/-- ACT_UNFREEZE. -/
def State.actUnfreeze (s : State) (c : Cmd) : State :=
  let was := c.mask.filter (fun a => s.rb (rSFB_FROZEN (a / 32)) (a % 32))
  let s := c.mask.foldl (fun (s : State) a => s.unfreeze a) s
  s.finish c 0 (maskOf was)

def execActUnfreeze (e : Fin 64) (s : State) : Host.Outcome State Fault Refusal := execute (fun s => s.command 0x52 0x52 e State.actUnfreeze) s

/-! ### Boost (R311) -/

/-- BST_SETPOINT: the result is read after the controller's next slot. -/
def State.bstSetpoint (s : State) (c : Cmd) : State :=
  let r := c.byte 8
  if c.phase = 0 then
    let v := setBit (s.reg (rBST_ADAPT r)) 30 (c.byte 9 % 2 == 1)
    let v := if 2 ≤ c.byte 9 then setFld v 19 10 (c.opnd 12 13) else v
    ((s.bstPointWrite r false (BitVec.ofNat 32 (c.opnd 10 11))).bstPointWrite r true v).modCmd c.ord (fun c => { c with phase := 1 })
  else if s.time % 64 = 0 ∧ s.inDoze = false ∧ c.started ≠ some s.time then
    s.finish c 0 (pack [(15, 0, (s.rail r).setAct), (16, 16, fld (s.bstStatRead r) 21 21)])
  else s

def execBstSetpoint (e : Fin 64) (s : State) : Host.Outcome State Fault Refusal := execute (fun s => s.command 0x60 0x60 e State.bstSetpoint) s

/-- BST_ENABLE. -/
def State.bstEnable (s : State) (c : Cmd) : State :=
  let on := c.byte 9 % 2 == 1
  if on && s.inSafe then s.finish c 0x26 0
  else
    let s := (below 8).foldl (fun (s : State) r => if c.byte 8 / 2 ^ r % 2 = 1 then s.setRb (rBST_CFG r) 31 on else s) s
    s.finish c 0 (maskOf ((below 8).filter (fun r => s.rb (rBST_CFG r) 31)))

def execBstEnable (e : Fin 64) (s : State) : Host.Outcome State Fault Refusal := execute (fun s => s.command 0x61 0x61 e State.bstEnable) s

/-! ### Timers (R312, R387, R388) -/

/-- The count a timer command returns: a pair's both halves, else the named timer's. -/
def State.countOf (s : State) (t : Nat) (pair : Bool) : Nat :=
  if pair then (s.tmr (evenOf t)).count + 2 ^ 32 * (s.tmr (evenOf t + 1)).count else (s.tmr t).count

/-- TIMER_START. -/
def execTimerStart (e : Fin 64) (s : State) : Host.Outcome State Fault Refusal :=
  execute (fun s => s.command 0x70 0x70 e (fun s c => (s.startTmr (c.byte 8)).finish c 0 0)) s

/-- TIMER_STOP_ARM. -/
def State.timerStopArm (s : State) (c : Cmd) : State :=
  let t := c.byte 8
  let s := s.stopTmr t
  let n := s.countOf t (2 ≤ c.byte 9)
  (if c.byte 9 % 2 = 1 then s.armTmr t else s).finish c 0 n

def execTimerStopArm (e : Fin 64) (s : State) : Host.Outcome State Fault Refusal := execute (fun s => s.command 0x71 0x71 e State.timerStopArm) s

/-- TIMER_CAPTURE. -/
def execTimerCapture (e : Fin 64) (s : State) : Host.Outcome State Fault Refusal :=
  execute (fun s => s.command 0x72 0x72 e (fun s c =>
    s.finish c 0 (s.countOf (c.byte 8) (2 ≤ c.byte 9) + 2 ^ 64 * (decide ((s.tmr (c.byte 8)).st = 1)).toNat))) s

/-- The IDLE timers named start together; a privileged one starts too (R388). -/
def State.globalStart (s : State) (c : Cmd) : State :=
  let l := (below 4).filter (fun i => c.byte 8 / 2 ^ i % 2 = 1)
  let idle := l.filter (fun i => decide ((s.tmr (28 + i)).st = 0))
  let s := idle.foldl (fun (s : State) i => s.startGroup (28 + i)) s
  s.finish c 0 (maskOf idle)

/-- GLOBAL_START: at once, or at AT_TIME, which must not have passed. -/
def State.globalStartCmd (s : State) (c : Cmd) : State :=
  let at_ := c.opnd 16 23
  if c.phase ≠ 0 then s
  else if at_ = 0 ∨ at_ = s.time then s.globalStart c
  else if at_ < s.time then s.finish c 0x21 0
  else s.modCmd c.ord (fun c => { c with phase := 1 })

def execGlobalStart (e : Fin 64) (s : State) : Host.Outcome State Fault Refusal := execute (fun s => s.command 0x73 0x73 e State.globalStartCmd) s

/-- GLOBAL_START_AT_TIME: the core cycle that begins at or after AT_TIME. -/
def execGlobalStartAtTime (e : Fin 64) (s : State) : Host.Outcome State Fault Refusal :=
  execute (fun s => s.command 0x73 0x73 e (fun s c => if c.phase = 1 ∧ c.opnd 16 23 ≤ s.time then s.globalStart c else s)) s

/-! ### Record streams and diagnostics (R316) -/

/-- RS_STATUS. -/
def execRsStatus (e : Fin 64) (s : State) : Host.Outcome State Fault Refusal :=
  execute (fun s => s.command 0xB0 0xB0 e (fun s c => s.finish c 0 (s.rsLine (c.byte 8)))) s

/-- LOG_CLOSE. -/
def execLogClose (e : Fin 64) (s : State) : Host.Outcome State Fault Refusal :=
  execute (fun s => s.command 0xB1 0xB1 e (fun s c => (s.logClose (c.byte 8)).finish c 0 (s.dom (c.byte 8)).logOpen.isSome.toNat)) s

/-- FIFO_STATUS. -/
def execFifoStatus (e : Fin 64) (s : State) : Host.Outcome State Fault Refusal :=
  execute (fun s => s.command 0xB2 0xB2 e (fun s c =>
    s.finish c 0 (pack [(7, 0, s.fifoFill), (8, 8, s.summary.isSome.toNat), (31, 16, s.rf rDIAG_LOST 15 0)]))) s

end Sys2Proof.Machine
end

