-- ==== Sys2Proof/Machine/Dispatch.lean ====
section
/-! DEFINITION. One arm per command: each arm is one call of the command's meaning. -/

namespace Sys2Proof.Machine

/-- The effect of a command on everything but the queue. -/
def exec (i : Instr) (s : State) : Host.Outcome State Fault Refusal :=
  match i with
  | .comparatorTransition n x => Sys2Proof.Machine.execComparatorTransition n x s
  | .edgeQualified n => Sys2Proof.Machine.execEdgeQualified n s
  | .vrArm n mv => Sys2Proof.Machine.execVrArm n mv s
  | .peakDecay n => Sys2Proof.Machine.execPeakDecay n s
  | .dirMaxExceeded n => Sys2Proof.Machine.execDirMaxExceeded n s
  | .domainSlot d => Sys2Proof.Machine.execDomainSlot d s
  | .missedTooth d => Sys2Proof.Machine.execMissedTooth d s
  | .stall d => Sys2Proof.Machine.execStall d s
  | .camSpanDecision d => Sys2Proof.Machine.execCamSpanDecision d s
  | .solverSlot a => Sys2Proof.Machine.execSolverSlot a s
  | .frameStart => Sys2Proof.Machine.execFrameStart s
  | .startFire a k x => Sys2Proof.Machine.execStartFire a k x s
  | .endEdge a k x => Sys2Proof.Machine.execEndEdge a k x s
  | .laneSlot n code above bel => Sys2Proof.Machine.execLaneSlot n code above bel s
  | .phaseTimeExit a x => Sys2Proof.Machine.execPhaseTimeExit a x s
  | .phaseTminEnd a x => Sys2Proof.Machine.execPhaseTminEnd a x s
  | .phaseTmaxTimeout a x => Sys2Proof.Machine.execPhaseTmaxTimeout a x s
  | .regulationCrossing a rise ofs => Sys2Proof.Machine.execRegulationCrossing a rise ofs s
  | .exitCrossing a ofs => Sys2Proof.Machine.execExitCrossing a ofs s
  | .turnOffTimeout a => Sys2Proof.Machine.execTurnOffTimeout a s
  | .overCurrentTrip n x => Sys2Proof.Machine.execOverCurrentTrip n x s
  | .ocBlankEnd n x => Sys2Proof.Machine.execOcBlankEnd n x s
  | .bootstrapUndervoltage n => Sys2Proof.Machine.execBootstrapUndervoltage n s
  | .desatFault a => Sys2Proof.Machine.execDesatFault a s
  | .openLoadCheck a => Sys2Proof.Machine.execOpenLoadCheck a s
  | .idleFault a => Sys2Proof.Machine.execIdleFault a s
  | .openWatchEnd a => Sys2Proof.Machine.execOpenWatchEnd a s
  | .closeWatchTimeout a => Sys2Proof.Machine.execCloseWatchTimeout a s
  | .softShutdownEnd a => Sys2Proof.Machine.execSoftShutdownEnd a s
  | .coilTailEnd a => Sys2Proof.Machine.execCoilTailEnd a s
  | .laneSettled n => Sys2Proof.Machine.execLaneSettled n s
  | .boostSlot r vb vr vs => Sys2Proof.Machine.execBoostSlot r vb vr vs s
  | .switchingPeriodStart r => Sys2Proof.Machine.execSwitchingPeriodStart r s
  | .ipkCrossing r x => Sys2Proof.Machine.execIpkCrossing r x s
  | .startQuietEnd r => Sys2Proof.Machine.execStartQuietEnd r s
  | .startTimeout r => Sys2Proof.Machine.execStartTimeout r s
  | .holdSwitchTimeout => Sys2Proof.Machine.execHoldSwitchTimeout s
  | .subwindowChange a => Sys2Proof.Machine.execSubwindowChange a s
  | .trayTempSample t code => Sys2Proof.Machine.execTrayTempSample t code s
  | .doorbellPoll => Sys2Proof.Machine.execDoorbellPoll s
  | .pollData d => Sys2Proof.Machine.execPollData d s
  | .hostLost => Sys2Proof.Machine.execHostLost s
  | .pcieReset k => Sys2Proof.Machine.execPcieReset k s
  | .configSpaceWrite w => Sys2Proof.Machine.execConfigSpaceWrite w s
  | .descriptorFetch q d => Sys2Proof.Machine.execDescriptorFetch q d s
  | .completionWrite q => Sys2Proof.Machine.execCompletionWrite q s
  | .recordWrite r => Sys2Proof.Machine.execRecordWrite r s
  | .abortDecision q => Sys2Proof.Machine.execAbortDecision q s
  | .cancelDecision e => Sys2Proof.Machine.execCancelDecision e s
  | .nop e => Sys2Proof.Machine.execNop e s
  | .resync q => Sys2Proof.Machine.execResync q s
  | .fence e => Sys2Proof.Machine.execFence e s
  | .abort q => Sys2Proof.Machine.execAbort q s
  | .regWrite e => Sys2Proof.Machine.execRegWrite e s
  | .regRead e => Sys2Proof.Machine.execRegRead e s
  | .loadTable e => Sys2Proof.Machine.execLoadTable e s
  | .readTable e => Sys2Proof.Machine.execReadTable e s
  | .armEvent e => Sys2Proof.Machine.execArmEvent e s
  | .armBatch e => Sys2Proof.Machine.execArmBatch e s
  | .cancelEvent e => Sys2Proof.Machine.execCancelEvent e s
  | .forceOn e x => Sys2Proof.Machine.execForceOn e x s
  | .forceOff e => Sys2Proof.Machine.execForceOff e s
  | .syncReset e => Sys2Proof.Machine.execSyncReset e s
  | .setCycle e => Sys2Proof.Machine.execSetCycle e s
  | .readAngle e => Sys2Proof.Machine.execReadAngle e s
  | .actRead e => Sys2Proof.Machine.execActRead e s
  | .actReenable e => Sys2Proof.Machine.execActReenable e s
  | .actUnfreeze e => Sys2Proof.Machine.execActUnfreeze e s
  | .bstSetpoint e => Sys2Proof.Machine.execBstSetpoint e s
  | .bstEnable e => Sys2Proof.Machine.execBstEnable e s
  | .timerStart e => Sys2Proof.Machine.execTimerStart e s
  | .timerStopArm e => Sys2Proof.Machine.execTimerStopArm e s
  | .timerCapture e => Sys2Proof.Machine.execTimerCapture e s
  | .globalStart e => Sys2Proof.Machine.execGlobalStart e s
  | .globalStartAtTime e => Sys2Proof.Machine.execGlobalStartAtTime e s
  | .pzInject e => Sys2Proof.Machine.execPzInject e s
  | .pzPush e => Sys2Proof.Machine.execPzPush e s
  | .pzPull e => Sys2Proof.Machine.execPzPull e s
  | .pzControl e => Sys2Proof.Machine.execPzControl e s
  | .jrnFlush e => Sys2Proof.Machine.execJrnFlush e s
  | .jrnRead e => Sys2Proof.Machine.execJrnRead e s
  | .jrnWrite e => Sys2Proof.Machine.execJrnWrite e s
  | .jrnCompact e => Sys2Proof.Machine.execJrnCompact e s
  | .krEnumerate e => Sys2Proof.Machine.execKrEnumerate e s
  | .krStatus e => Sys2Proof.Machine.execKrStatus e s
  | .krRejoin e => Sys2Proof.Machine.execKrRejoin e s
  | .rsStatus e => Sys2Proof.Machine.execRsStatus e s
  | .logClose e => Sys2Proof.Machine.execLogClose e s
  | .fifoStatus e => Sys2Proof.Machine.execFifoStatus e s
  | .vendorTest e => Sys2Proof.Machine.execVendorTest e s
  | .enumA f => Sys2Proof.Machine.execEnumA f s
  | .enumB f => Sys2Proof.Machine.execEnumB f s
  | .probe f => Sys2Proof.Machine.execProbe f s
  | .echo f smp => Sys2Proof.Machine.execEcho f smp s
  | .timeSync f => Sys2Proof.Machine.execTimeSync f s
  | .angleState f => Sys2Proof.Machine.execAngleState f s
  | .hb f => Sys2Proof.Machine.execHb f s
  | .cmd f => Sys2Proof.Machine.execCmd f s
  | .cpl f => Sys2Proof.Machine.execCpl f s
  | .ecpl f => Sys2Proof.Machine.execEcpl f s
  | .ack f => Sys2Proof.Machine.execAck f s
  | .nack f => Sys2Proof.Machine.execNack f s
  | .abortFwd f => Sys2Proof.Machine.execAbortFwd f s
  | .dmaRd f => Sys2Proof.Machine.execDmaRd f s
  | .dmaData f => Sys2Proof.Machine.execDmaData f s
  | .dmaWr f => Sys2Proof.Machine.execDmaWr f s
  | .record f => Sys2Proof.Machine.execRecord f s
  | .irqNote f => Sys2Proof.Machine.execIrqNote f s
  | .breakFrame f => Sys2Proof.Machine.execBreakFrame f s
  | .rejoin f => Sys2Proof.Machine.execRejoin f s
  | .markSend => Sys2Proof.Machine.execMarkSend s
  | .markCapture kb sub => Sys2Proof.Machine.execMarkCapture kb sub s
  | .markLoss => Sys2Proof.Machine.execMarkLoss s
  | .followKb => Sys2Proof.Machine.execFollowKb s
  | .timeStep => Sys2Proof.Machine.execTimeStep s
  | .probeSend => Sys2Proof.Machine.execProbeSend s
  | .ringTimeout e => Sys2Proof.Machine.execRingTimeout e s
  | .enumTimeout => Sys2Proof.Machine.execEnumTimeout s
  | .forwardRetry k => Sys2Proof.Machine.execForwardRetry k s
  | .irqNoteRetry g => Sys2Proof.Machine.execIrqNoteRetry g s
  | .hbSend => Sys2Proof.Machine.execHbSend s
  | .slaveHostLost => Sys2Proof.Machine.execSlaveHostLost s
  | .angleRefresh d => Sys2Proof.Machine.execAngleRefresh d s
  | .angleSourceLost d => Sys2Proof.Machine.execAngleSourceLost d s
  | .portLost kb => Sys2Proof.Machine.execPortLost kb s
  | .portRepaired => Sys2Proof.Machine.execPortRepaired s
  | .loopbackOpen => Sys2Proof.Machine.execLoopbackOpen s
  | .wakeForward => Sys2Proof.Machine.execWakeForward s
  | .jmp p pins => Sys2Proof.Machine.execJmp p pins s
  | .wait p pins => Sys2Proof.Machine.execWait p pins s
  | .in_ p pins => Sys2Proof.Machine.execIn_ p pins s
  | .out p pins => Sys2Proof.Machine.execOut p pins s
  | .push p pins => Sys2Proof.Machine.execPush p pins s
  | .pull p pins => Sys2Proof.Machine.execPull p pins s
  | .mov p pins => Sys2Proof.Machine.execMov p pins s
  | .set p pins => Sys2Proof.Machine.execSet p pins s
  | .flag p pins => Sys2Proof.Machine.execFlag p pins s
  | .xfer p pins => Sys2Proof.Machine.execXfer p pins s
  | .pause p pins => Sys2Proof.Machine.execPause p pins s
  | .timerIncrement t pins => Sys2Proof.Machine.execTimerIncrement t pins s
  | .timerTrigger t => Sys2Proof.Machine.execTimerTrigger t s
  | .hostTargetArbitration g => Sys2Proof.Machine.execHostTargetArbitration g s
  | .monitorTargetArbitration => Sys2Proof.Machine.execMonitorTargetArbitration s
  | .watchWake k ticks => Sys2Proof.Machine.execWatchWake k ticks s
  | .crumbDue kind key => Sys2Proof.Machine.execCrumbDue kind key s
  | .crumbWordWritten ok => Sys2Proof.Machine.execCrumbWordWritten ok s
  | .sectorEraseDone => Sys2Proof.Machine.execSectorEraseDone s
  | .scrubVisit x => Sys2Proof.Machine.execScrubVisit x s
  | .fuseKey v => Sys2Proof.Machine.execFuseKey v s
  | .burnMap => Sys2Proof.Machine.execBurnMap s
  | .seal => Sys2Proof.Machine.execSeal s
  | .fuseOpDone n bad => Sys2Proof.Machine.execFuseOpDone n bad s
  | .shadowWrite x v => Sys2Proof.Machine.execShadowWrite x v s
  | .vsupDipBegin v us => Sys2Proof.Machine.execVsupDipBegin v us s
  | .vsupDipEnd v us => Sys2Proof.Machine.execVsupDipEnd v us s
  | .brownout => Sys2Proof.Machine.execBrownout s
  | .brownoutReset early => Sys2Proof.Machine.execBrownoutReset early s
  | .resetRelease => Sys2Proof.Machine.execResetRelease s
  | .railUndervoltage r => Sys2Proof.Machine.execRailUndervoltage r s
  | .railFailure r => Sys2Proof.Machine.execRailFailure r s
  | .powerOnReset => Sys2Proof.Machine.execPowerOnReset s
  | .softReset v => Sys2Proof.Machine.execSoftReset v s
  | .trstReset => Sys2Proof.Machine.execTrstReset s
  | .pllUnlock => Sys2Proof.Machine.execPllUnlock s
  | .pllRelock => Sys2Proof.Machine.execPllRelock s
  | .shellTempSample code => Sys2Proof.Machine.execShellTempSample code s
  | .requestRun => Sys2Proof.Machine.execRequestRun s
  | .requestDoze => Sys2Proof.Machine.execRequestDoze s
  | .requestWatch => Sys2Proof.Machine.execRequestWatch s
  | .dozeExitDone => Sys2Proof.Machine.execDozeExitDone s
  | .watchEntryDone => Sys2Proof.Machine.execWatchEntryDone s
  | .startupStep slave test xtal refclk trays => Sys2Proof.Machine.execStartupStep slave test xtal refclk trays s
  | .safeNLow low => Sys2Proof.Machine.execSafeNLow low s
  | .hostReq => Sys2Proof.Machine.execHostReq s
  | .safeExitRequest => Sys2Proof.Machine.execSafeExitRequest s
  | .monitorTransaction full fa fb fc => Sys2Proof.Machine.execMonitorTransaction full fa fb fc s
  | .watchdogWindowExpiry => Sys2Proof.Machine.execWatchdogWindowExpiry s
  | .registerWrite a v p => Sys2Proof.Machine.execRegisterWrite a v p s
  | .whlLastTsLoRead n => Sys2Proof.Machine.execWhlLastTsLoRead n s
  | .idUidLoRead => Sys2Proof.Machine.execIdUidLoRead s
  | .whlCfgWrite n v => Sys2Proof.Machine.execWhlCfgWrite n v s
  | .adomCfgWrite d v => Sys2Proof.Machine.execAdomCfgWrite d v s
  | .take d => Sys2Proof.Machine.execTake d s
  | .schedPeekWrite v => Sys2Proof.Machine.execSchedPeekWrite v s
  | .actCfgWrite a v => Sys2Proof.Machine.execActCfgWrite a v s
  | .bankCfgWrite b v => Sys2Proof.Machine.execBankCfgWrite b v s
  | .laneCfgWrite n v => Sys2Proof.Machine.execLaneCfgWrite n v s
  | .feedbackUnfreeze m v => Sys2Proof.Machine.execFeedbackUnfreeze m v s
  | .actuatorReenable m v => Sys2Proof.Machine.execActuatorReenable m v s
  | .boostSetpointWrite r adapt v => Sys2Proof.Machine.execBoostSetpointWrite r adapt v s
  | .bstHoldWrite v => Sys2Proof.Machine.execBstHoldWrite v s
  | .dbPollWrite v => Sys2Proof.Machine.execDbPollWrite v s
  | .hlLiveWrite v => Sys2Proof.Machine.execHlLiveWrite v s
  | .qpCfgWrite q v => Sys2Proof.Machine.execQpCfgWrite q v s
  | .rsCfgWrite r v => Sys2Proof.Machine.execRsCfgWrite r v s
  | .ieTgtWrite v => Sys2Proof.Machine.execIeTgtWrite v s
  | .intRnpopRead => Sys2Proof.Machine.execIntRnpopRead s
  | .intRcplWrite v => Sys2Proof.Machine.execIntRcplWrite v s
  | .tmrStart v => Sys2Proof.Machine.execTmrStart v s
  | .tmrStop v => Sys2Proof.Machine.execTmrStop v s
  | .tmrArm v => Sys2Proof.Machine.execTmrArm v s
  | .tmrCmpWrite t v => Sys2Proof.Machine.execTmrCmpWrite t v s
  | .pzgStart p => Sys2Proof.Machine.execPzgStart p s
  | .pzgStop p => Sys2Proof.Machine.execPzgStop p s
  | .pzgReset p => Sys2Proof.Machine.execPzgReset p s
  | .programWindowWrite g x v => Sys2Proof.Machine.execProgramWindowWrite g x v s
  | .pzFlagSet v => Sys2Proof.Machine.execPzFlagSet v s
  | .pzFlagClr v => Sys2Proof.Machine.execPzFlagClr v s
  | .send => Sys2Proof.Machine.execSend s
  | .comparatorReturn n x => Sys2Proof.Machine.execComparatorReturn n x s
  | .chopTminExpiry a => Sys2Proof.Machine.execChopTminExpiry a s
  | .switchingDutyLimit r => Sys2Proof.Machine.execSwitchingDutyLimit r s
  | .linkUp speed width => Sys2Proof.Machine.execLinkUp speed width s
  | .portDecodeLock kb => Sys2Proof.Machine.execPortDecodeLock kb s
  | .dmaReadCompletion t st d => Sys2Proof.Machine.execDmaReadCompletion t st d s
  | .completionTimeout t => Sys2Proof.Machine.execCompletionTimeout t s
  | .engineIdleCycle p => Sys2Proof.Machine.execEngineIdleCycle p s
  | .wakeMotionEdge w x => Sys2Proof.Machine.execWakeMotionEdge w x s
  | .msixTableWrite x v => Sys2Proof.Machine.execMsixTableWrite x v s

end Sys2Proof.Machine
end

