-- ==== Sys2Proof/Machine/Step.lean ====
section
/-! DEFINITION. One step of the block: the command at the front of the queue, or one core cycle on an empty queue. -/

namespace Sys2Proof.Machine

/-- A core cycle passes (R8, R20): timers take it, by the flags visible in it, and flag actions, and TIME advances; in WATCH, while reset is held and before
the PLL locks nothing counts (R32, R443; log entry 1). -/
def State.tick (s : State) : State :=
  if s.watch || s.held then s
  else
    let s := if s.live then s.tmrTick.flagsTick else s
    let s := { s with setNow := [] }
    if 2 ≤ s.boot then { s with time := (s.time + 4) % 2 ^ 64 } else s

/-- The command at the front of the queue runs; on an empty queue a core cycle passes (log entry 1). -/
def step (s : State) : Host.Outcome State Fault Refusal :=
  match s.pending with
  | [] => .next s.tick
  | c :: rest => exec c { s with pending := rest }

/-- The state with the command a table word spells at the front of its queue; the table gives no row any bits (log entry 18). -/
def State.withFetchWord (s : State) (nbits w : Nat) : State :=
  match decodeTableWord nbits w with
  | some c => { s with pending := c :: s.pending }
  | none => s

end Sys2Proof.Machine
end

