-- ==== Sys2Proof/Safety.lean ====
section
/-! DEFINITION. What counts as a good state and a safe run, in the terms the statements use. -/

namespace Sys2Proof.Machine

/-- The main domain runs and no SAFE cause waits to act. -/
abbrev State.quiet (s : State) : Prop := s.live = true ∧ s.safePend = false

/-- Every SAFE cause seen so far has acted, unless the device is in DOZE or leaving it (R464, R467). -/
def State.Settled (s : State) : Prop := s.live = true → s.inDoze = false → s.safePend = false

/-- Entry `e` of the command buffer holds `c`, of opcode `op`, for this device alone; it has not started, nothing holds it back
(R278), and neither ownership nor its operands refuse it (R290, R298). -/
def State.begins (s : State) (op e : Nat) (c : Cmd) : Prop :=
  s.live = true ∧ s.cmdAt e = some c ∧ c.opcode = op ∧ c.started = none ∧ c.target = 0 ∧ s.startable c = true ∧ s.refusal c = none

/-- Entry `e` holds `c`, of opcode `op`, for this device alone, which has started in an earlier core cycle. -/
def State.runsOn (s : State) (op e : Nat) (c : Cmd) : Prop :=
  s.live = true ∧ s.cmdAt e = some c ∧ c.opcode = op ∧ (∃ t, c.started = some t ∧ t ≠ s.time) ∧ c.target = 0 ∧ c.replies = []

/-- A good frame addressed to this device alone comes in on a port in use (R326, R327, R328); `u` is the device once it has seen the
frame's epoch (R330). -/
def State.takes (s u : State) (typ : Nat) (f : Frame) : Prop :=
  s.live = true ∧ s.portsOn = true ∧ s.portLost f.kb = false ∧ f.bad typ = false ∧ u = s.epochSeen f ∧ u.ownFrame f = false ∧ u.forMe f = true

/-- A good broadcast frame that is not the device's own comes in on a port in use (R327); `v` is the device once it has passed it. -/
def State.hears (s v : State) (typ : Nat) (f : Frame) : Prop :=
  s.live = true ∧ s.portsOn = true ∧ s.portLost f.kb = false ∧ f.bad typ = false ∧ v = (s.epochSeen f).passFrame typ f ∧
    (s.epochSeen f).ownFrame f = false ∧ (s.epochSeen f).forMe f = false ∧ f.dst.val = 4095

/-- A good frame that only neighbours exchange comes in on a port in use (Table 12.3). -/
def State.meets (s : State) (typ : Nat) (f : Frame) : Prop :=
  s.live = true ∧ s.portsOn = true ∧ s.portLost f.kb = false ∧ f.bad typ = false

/-- The instruction engine p executes in this core cycle, its engine cycle having come, is `i` with TRAIL `trail` (R357, R361); `r` is
the state once the word has been read (R416). -/
def State.executes (s r : State) (p : Nat) (i : PzOp) (trail : Fin 4) : Prop :=
  s.live = true ∧ s.pzDue p = true ∧ ((s.pz p).inj.isSome = true ∨ (s.pz p).idle = 0) ∧ s.pzFetch p = some (i, trail) ∧ r = s.pzRead p

end Sys2Proof.Machine
end

