-- ==== Sys2Proof/Certificates/Slice0/Obligations.lean ====
section
/-! DEFINITION. The statements about the block: one `def Obligations.<Name> : Prop` each. Every right-hand side names the model's own
operations, and where an operation is itself the rule (a judgement, a computation) a clause says what it gives. -/

open Sys2Proof Sys2Proof.Machine

/-! ### The block as a whole -/

/-- A step with a command at the front of the queue is that command's effect on the state with the queue's rest. -/
def Obligations.StepRunsFrontCommand : Prop :=
  ∀ (c : Instr) (rest : List Instr) (s : State), s.pending = c :: rest → step s = exec c { s with pending := rest }

/-- On an empty queue a core cycle passes: TIME advances by 4 modulo 2^64 once the PLL has locked, flag actions and timer prescalers
take the cycle while the main domain runs, what the device set in the cycle before no longer holds off a write (R15), and in WATCH or a
held reset nothing changes (the model's choice, log entry 1; R8, R20). -/
def Obligations.IdleStepIsOneCoreCycle : Prop :=
  ∀ (s : State), s.pending = [] →
    (s.watch = true ∨ s.held = true → step s = .next s) ∧
    (s.watch = false → s.held = false → s.boot < 2 → step s = .next { s with setNow := [] }) ∧
    (s.watch = false → s.held = false → 2 ≤ s.boot → ∃ t, step s = .next t ∧ t.time = (s.time + 4) % 2 ^ 64 ∧ t.regs = s.regs ∧ t.pending = [] ∧
      t.setNow = [] ∧ (s.boot < 7 → t = { s with time := (s.time + 4) % 2 ^ 64, setNow := [] }) ∧ (7 ≤ s.boot → t.flagsVis = t.flags))

/-- After power-on reset: every register reads its reset value, TIME is 0, start-up has not begun, nothing waits, every table, queue and
memory is empty, and the free-value counter and the straps have the model's choices (log entries 3, 5 and 7; R440, R452). -/
def Obligations.ResetLeavesTheStatedValues : Prop :=
  (∀ a, a ≠ rRST_CAUSE → State.reset.reg a = resetOf a) ∧ State.reset.time = 0 ∧ State.reset.boot = 0 ∧ State.reset.run = 0 ∧ State.reset.pending = [] ∧
  State.reset.cmds = [] ∧ State.reset.hands = [] ∧ State.reset.slots = [] ∧ State.reset.profs = [] ∧ State.reset.flags = 0 ∧
  State.reset.watch = false ∧ State.reset.live = false ∧ State.reset.reg rRST_CAUSE = 1 ∧ State.reset.reg rID_DEV = 0x01921FB2 ∧
  State.reset.reg rPWR_VSUP = 0x118A2000

/-- Every command but VENDOR_TEST answers a next state in every state, whatever its operands: none faults, and nothing but a vendor test
of an unlocked part is refused (R258, R298, R317). -/
def Obligations.EveryCommandAnswersANextState : Prop :=
  ∀ (c : Instr) (s : State), (∀ e, c ≠ .vendorTest e) → ∃ t, exec c s = .next t

/-- While the main domain does not run (start-up, WATCH, a held reset) only the commands of resets, supply, clocks, wake sources and
start-up act: every other command leaves the state as it is (the model's choice, log entry 2; R32, R439, R452). -/
def Obligations.NothingElseActsWhileTheDomainIsDown : Prop :=
  ∀ (c : Instr) (s : State), s.live = false →
    c ∉ [.powerOnReset, .trstReset, .brownout, .resetRelease, .pllUnlock, .pllRelock] → (∀ b, c ≠ .brownoutReset b) → (∀ r, c ≠ .railUndervoltage r) →
    (∀ r, c ≠ .railFailure r) → (∀ x, c ≠ .shellTempSample x) → (∀ x t, c ≠ .watchWake x t) → (∀ w x, c ≠ .wakeMotionEdge w x) →
    (∀ a b d e f, c ≠ .startupStep a b d e f) → (∀ l, c ≠ .safeNLow l) → exec c s = .next s

/-- The invariant of SAFE causes: whenever the main domain runs outside DOZE, no cause that has been seen still waits to act; every step
keeps it, so SAFE is entered in the step in which its cause is seen (R464, R467). -/
def Obligations.EveryStepLeavesNoSafeCauseWaiting : Prop :=
  ∀ s t : State, s.Settled → step s = .next t → t.Settled

/-- The invariant of SAFE causes holds at reset. -/
def Obligations.NoSafeCauseWaitsAtReset : Prop :=
  State.reset.Settled

/-- Entry to SAFE, from any state but SAFE: the run state is SAFE, the WATCH and DOZE sequences are abandoned, no request of a run state
waits, every rail is OFF and begins no switching period, every Pretzel engine is stopped, and the entry is counted (R371, R464, R467).
SAFE causes from the host's side: SAFE_N read low, and 0x5AFE to SAFE_CTRL, latch their cause and enter SAFE; 0xE417 asks for exit at the
next frame start, which is taken only when every condition of R468 holds and else records the first that fails; SAFE entered from
RUN stops rails and engines, clears DONE and counts (R463, R464, R468, R469). -/
def Obligations.SafeIsEnteredActedOnAndLeft : Prop :=
  (∀ s : State, s.inSafe = false →
     s.enterSafe.run = 2 ∧ s.enterSafe.safePend = false ∧ s.enterSafe.watch = false ∧ s.enterSafe.pwr.req = 0 ∧
     s.enterSafe.devLog.safes = s.devLog.safes + 1 ∧ s.enterSafe.time = s.time ∧ s.enterSafe.cmds = s.cmds ∧
     (∀ r < 8, (s.enterSafe.rail r).st = 0 ∧ (s.enterSafe.rail r).enable = false) ∧ (∀ p < 16, (s.enterSafe.pz p).run = false)) ∧
  (∀ (s : State),
     (s.live = true → exec .hostReq s = .next (s.latchCause 9).settle ∧
       exec .safeExitRequest s = .next ({ s with pwr := { s.pwr with exitReq := true } } : State).settle) ∧
     (∀ u, u = { s with pwr := { s.pwr with safeNLow := true } } →
       (s.pwr.safeNLow = false → s.watch = false → s.held = false → exec (.safeNLow true) s = .next (u.latchCause 0).settle) ∧
       (s.pwr.safeNLow = true ∨ s.watch = true ∨ s.held = true → exec (.safeNLow true) s = .next u.settle)) ∧
     exec (.safeNLow false) s = .next ({ s with pwr := { s.pwr with safeNLow := false } } : State).settle ∧
     (s.pwr.exitReq = true → ∀ u, u = { s with pwr := { s.pwr with exitReq := false } } →
       (s.exitJudge = 0 → s.exitRequest = { u.setRb rSAFE_STAT 30 false with run := 0 }) ∧
       (s.exitJudge ≠ 0 → s.exitRequest = u.setRf rSAFE_STAT 28 26 s.exitJudge)) ∧
     (s.inSafe = false → s.exitJudge = 1) ∧
     (s.inSafe = true → s.pwr.safeNLow = false → s.safeActive = 0 → s.rf rSAFE_CAUSE 9 0 = 0 → s.rb rSAFE_STAT 30 = true → s.monAuth ≠ 3 → s.exitJudge = 0) ∧
     (∀ k, s.live = true → s.run = 0 → s.safePend = false → (s.latchCause k).settle = (s.latchCause k).enterSafe))

/-! ### Wheel inputs and angle domains (chapters 2 and 3) -/

/-- A comparator that reaches its active level (R37: past zero by more than ZC_HYST; R38: past a Hall threshold) starts a filter hold with
the filter time in force (R39; a VR input only while armed, R37); going back within that time drops the pulse and counts a glitch. A
hold that has lasted its filter time qualifies the edge: without direction decoding the edge leaves the chain with the TIME of the
transition less TS_COMP, or, too close to the edge before, is counted in HOLDOFF; with it a pulse begins (R39 to R41, R43). An edge that
leaves the chain is counted and stamped; it is presented to its domain where the input is active and the domain takes wheel edges (R42,
R45, R46). -/
def Obligations.WheelPulsesAreFilteredAndDelivered : Prop :=
  (∀ (s : State) (n : Fin 16) (ofs : Fin 4) (mv : BitVec 16), s.live = true → s.whlEn n = true →
     let w := s.wheel n
     let t := s.time + ofs.val
     (w.raw = false → s.mvActive n mv.toInt = true →
       (s.whlHall n = false → w.armed = false →
         exec (.comparatorTransition n ⟨ofs, mv⟩) s = .next (s.setWheel n { w with raw := true }).settle) ∧
       (s.whlHall n = true ∨ w.armed = true →
         (w.trail = none → exec (.comparatorTransition n ⟨ofs, mv⟩) s =
           .next (s.setWheel n { w with raw := true, hold := some (t, s.whlFilt n) }).settle) ∧
         (∀ t0 f0, w.trail = some (t0, f0) →
           (t < t0 + f0 → exec (.comparatorTransition n ⟨ofs, mv⟩) s =
             .next ((s.setWheel n { w with raw := true, trail := none }).bump (rWHL_CNT_REJ n) 7 0).settle) ∧
           (t0 + f0 ≤ t → ∀ u, u = s.whlReturned n t0 f0 → exec (.comparatorTransition n ⟨ofs, mv⟩) s =
             .next (u.setWheel n { u.wheel n with raw := true, hold := some (t, u.whlFilt n) }).settle)))) ∧
     (w.raw = true → s.mvInactive n mv.toInt = true →
       (∀ t0 f0, w.hold = some (t0, f0) →
         (t < t0 + f0 → exec (.comparatorReturn n ⟨ofs, mv⟩) s =
           .next ((s.setWheel n { w with raw := false, hold := none }).bump (rWHL_CNT_REJ n) 7 0).settle) ∧
         (t0 + f0 ≤ t → ∀ u, u = s.whlQualify n t0 f0 → exec (.comparatorReturn n ⟨ofs, mv⟩) s =
           .next (u.setWheel n { u.wheel n with raw := false, trail := some (t, u.whlFilt n) }).settle)) ∧
       (w.hold = none → exec (.comparatorReturn n ⟨ofs, mv⟩) s =
         .next (s.setWheel n { w with raw := false, trail := if w.act then some (t, s.whlFilt n) else w.trail }).settle)) ∧
     (w.raw = true ∨ s.mvActive n mv.toInt = false → exec (.comparatorTransition n ⟨ofs, mv⟩) s = .next s.settle) ∧
     (w.raw = false ∨ s.mvInactive n mv.toInt = false → exec (.comparatorReturn n ⟨ofs, mv⟩) s = .next s.settle) ∧
     (∀ a f, w.hold = some (a, f) → a + f < s.time + 4 → exec (.edgeQualified n) s = .next (s.whlQualify n a f).settle) ∧
     (∀ a f, w.hold = none → w.trail = some (a, f) → a + f < s.time + 4 → exec (.edgeQualified n) s = .next (s.whlReturned n a f).settle) ∧
     s.whlFilt n = (let f := s.rf (rWHL_FILT n) 3 0; if f = 0 then 0 else if f ≤ 12 then 2 ^ (f + 3) else 32768)) ∧
  (∀ (s : State) (n : Nat) (mv : Int),
     (s.whlHall n = true → s.whlPol n = true → (s.mvActive n mv = true ↔ (hallThr (s.rf (rWHL_HALL n) 1 0)).1 ≤ mv)) ∧
     (s.whlHall n = true → s.whlPol n = false → (s.mvActive n mv = true ↔ mv ≤ (hallThr (s.rf (rWHL_HALL n) 1 0)).2)) ∧
     (s.whlHall n = false → s.whlPol n = true → (s.mvActive n mv = true ↔ zcHyst (s.rf (rWHL_VR n) 11 10) < mv)) ∧
     (s.whlHall n = false → s.whlPol n = false → (s.mvActive n mv = true ↔ mv < -zcHyst (s.rf (rWHL_VR n) 11 10))) ∧
     (hallThr 0 = (2000, 1200) ∧ hallThr 1 = (3200, 2400) ∧ hallThr 2 = (1400, 900) ∧ hallThr 3 = (2000, 1200)) ∧
     (zcHyst 0 = 0 ∧ zcHyst 1 = 10 ∧ zcHyst 2 = 20 ∧ zcHyst 3 = 40)) ∧
  (∀ (s : State) (n t f : Nat),
     let ts := (t + 2 ^ 64 - s.rf (rWHL_FILT n) 13 4) % 2 ^ 64
     let w0 : Wheel := { s.wheel n with hold := none, act := true }
     let w := if s.whlHall n then w0 else vrQualified w0 (t + f)
     (s.whlDirdec n = false → s.whlQualify n t f =
       (if s.inBlank n ts = true ∨ closeQual w (t + f) = true then (s.setWheel n w).bump (rWHL_CNT_REJ n) 15 8
        else (s.setWheel n { w with blankRef := some ts }).whlDeliver n ts (t + f) 0)) ∧
     (s.whlDirdec n = true → s.whlQualify n t f =
       (if s.inBlank n ts = true then (s.setWheel n w).bump (rWHL_CNT_REJ n) 15 8
        else s.setWheel n { w with blankRef := some ts, pulse := some (t, f) }))) ∧
  (∀ (s : State) (n ts q dir : Nat),
     let u := (s.setWheel n { s.wheel n with lastTs := ts, lastOut := some q }).setReg (rWHL_CNT_EDGE n) (s.reg (rWHL_CNT_EDGE n) + 1)
     s.whlDeliver n ts q dir =
       if s.whlActive n = true ∧ s.rb (rADOM_CFG (s.whlDom n)) 31 = true ∧ s.rb (rADOM_CFG (s.whlDom n)) 29 = false then
         u.setDom (s.whlDom n) { s.dom (s.whlDom n) with
           inbox := (s.dom (s.whlDom n)).inbox ++ [{ inp := n, role := s.whlRole n, ts := ts, pres := ceilTo 4 q, dir := dir }] }
       else u)

/-- VR arming and decay (R37): an excursion above the floor and above (ARM_FRAC + 1)/16 of PEAK arms a disarmed input, and an armed one
keeps its largest; PEAK halves when a decay time passes without arming. The end of a pulse gives its edge the direction of its width, a
pulse too short or too long being counted in DIRERR; one still running at DIR_MAX ends as an invalid edge (R43). -/
def Obligations.VrArmingDecayAndOverlongPulses : Prop :=
  (∀ (s : State) (n : Fin 16) (mv : Fin 4096), s.live = true → s.whlEn n = true → s.whlHall n = false →
     ((s.wheel n).armed = false → exec (.vrArm n mv) s = .next
       (if s.rf (rWHL_VR n) 9 3 * 10 < mv.val ∧
           (s.rf (rWHL_VR n) 2 0 + 1) * (s.wheel n).peak < 16 * mv.val * 2 ^ (s.wheel n).halvings then
         s.setWheel n { s.wheel n with armed := true, exc := mv.val } else s).settle) ∧
     ((s.wheel n).armed = true → exec (.vrArm n mv) s = .next (s.setWheel n { s.wheel n with exc := max (s.wheel n).exc mv.val }).settle) ∧
     (∀ q, (s.wheel n).armed = false → (s.wheel n).lastQual = some q → (s.wheel n).quals = 2 → 0 < (s.wheel n).interval →
       q + ((s.wheel n).halvings + 1) * min (2 * (s.wheel n).interval) 1000000000 < s.time + 4 →
       exec (.peakDecay n) s = .next (s.setWheel n { s.wheel n with halvings := (s.wheel n).halvings + 1 }).settle)) ∧
  (∀ (s : State) (n : Fin 16) (t f : Nat), s.live = true → s.whlEn n = true → (s.wheel n).pulse = some (t, f) →
     let q := t + f + s.rf (rWHL_DIR n) 9 0 * 256
     (∀ t2 f2, (s.wheel n).trail = some (t2, f2) → q < t2 + f2) → q < s.time + 4 →
     exec (.dirMaxExceeded n) s = .next
       (((s.setWheel n { s.wheel n with pulse := none }).bump (rWHL_CNT_REJ n) 31 24).dirDeliver n
         ((t + 2 ^ 64 - s.rf (rWHL_FILT n) 13 4) % 2 ^ 64) q 3).settle) ∧
  (∀ (s : State) (n t f : Nat),
     let u := s.setWheel n { s.wheel n with trail := none, act := false, pulse := none }
     ((s.wheel n).pulse = none → s.whlReturned n t f = u) ∧
     (∀ t0 f0, (s.wheel n).pulse = some (t0, f0) → ∀ dir, dir = s.pulseDir n (t + f - (t0 + f0)) →
       let ts := (t0 + 2 ^ 64 - s.rf (rWHL_FILT n) 13 4) % 2 ^ 64
       (dir = 0 → s.whlReturned n t f = u.bump (rWHL_CNT_REJ n) 31 24) ∧
       (dir = 3 → s.whlReturned n t f = (u.bump (rWHL_CNT_REJ n) 31 24).dirDeliver n ts (t + f) 3) ∧
       (dir = 1 ∨ dir = 2 → s.whlReturned n t f = u.dirDeliver n ts (t + f) dir)) ∧
     (∀ w, w < s.rf (rWHL_DIR n) 29 20 * 256 → s.pulseDir n w = 0) ∧
     (∀ w, s.rf (rWHL_DIR n) 29 20 * 256 ≤ w → w < s.rf (rWHL_DIR n) 19 10 * 256 → s.pulseDir n w = if s.rb (rWHL_DIR n) 31 then 2 else 1) ∧
     (∀ w, s.rf (rWHL_DIR n) 29 20 * 256 ≤ w → s.rf (rWHL_DIR n) 19 10 * 256 ≤ w → w ≤ s.rf (rWHL_DIR n) 9 0 * 256 →
       s.pulseDir n w = if s.rb (rWHL_DIR n) 31 then 1 else 2))

/-- Wheel registers: a read of LAST_TS_LO freezes the upper half; while EN reads 1 a write of WHL_CFG applies only to EN, any other
change setting CFG_REJ; EN is refused with direction decoding outside its conditions, and setting it clears the input's counters (R42,
R43, R47). The angle settings: SRC stays while EN reads 1 and CFG_REJ is set; clearing EN asks for UNSYNC with cause 1, setting it
clears the counters; TAKE asks for a snapshot (R90, R91). -/
def Obligations.WheelAndDomainRegisters : Prop :=
  (∀ (s : State) (n : Fin 16) (v : Word), s.live = true →
     let w := s.wheel n
     let off : Wheel := { lastTs := w.lastTs, tsShadow := w.tsShadow, dirLast := w.dirLast }
     exec (.whlLastTsLoRead n) s = .next (s.setWheel n { w with tsShadow := w.lastTs / 2 ^ 32 }).settle ∧
     (s.whlEn n = true →
       let u := if (v &&& 0x07F80000) = (s.reg (rWHL_CFG n) &&& 0x07F80000) then s else s.setRb (rWHL_STAT n) 25 true
       (bit v 31 = true → exec (.whlCfgWrite n v) s = .next u.settle) ∧
       (bit v 31 = false → exec (.whlCfgWrite n v) s = .next ((u.setRb (rWHL_CFG n) 31 false).setWheel n off).settle)) ∧
     (s.whlEn n = false →
       (bit v 31 = true → s.dirOk n v = false → exec (.whlCfgWrite n v) s = .next (s.setRb (rWHL_STAT n) 25 true).settle) ∧
       (bit v 31 = true → s.dirOk n v = true → exec (.whlCfgWrite n v) s = .next
         ((((s.setReg (rWHL_CFG n) (v &&& 0x87F80000)).setReg (rWHL_CNT_REJ n) 0).setReg (rWHL_CNT_EDGE n) 0).setWheel n off).settle) ∧
       (bit v 31 = false → exec (.whlCfgWrite n v) s = .next (s.setReg (rWHL_CFG n) (v &&& 0x87F80000)).settle)) ∧
     (s.dirOk n v = true ↔ bit v 19 = false ∨ (bit v 21 = true ∧ s.rf (rWHL_DIR n) 29 20 < s.rf (rWHL_DIR n) 19 10 ∧
       s.rf (rWHL_DIR n) 19 10 ≤ s.rf (rWHL_DIR n) 9 0))) ∧
  (∀ (s : State) (d : Fin 4) (v : Word), s.live = true →
     let nv := setBit (v &&& 0xBFE0FFFF) 30 (s.rb (rADOM_CFG d) 30)
     exec (.take d) s = .next (s.setDom d { s.dom d with take := true }).settle ∧
     (s.rb (rADOM_CFG d) 31 = false →
       (bit v 31 = false → exec (.adomCfgWrite d v) s = .next (s.setReg (rADOM_CFG d) nv).settle) ∧
       (bit v 31 = true → exec (.adomCfgWrite d v) s = .next
         ((((s.setReg (rADOM_CFG d) nv).setReg (rADOM_CNT_SYNC d) 0).setReg (rADOM_CNT_TOOTH d) 0).setDom d
           { s.dom d with rxQ := [], rxLost := none, rxSeq := none, rxTime := s.time }).settle)) ∧
     (s.rb (rADOM_CFG d) 31 = true → ∀ u,
       (bit v 29 = s.rb (rADOM_CFG d) 29 → u = s.setReg (rADOM_CFG d) nv) →
       (bit v 29 = !s.rb (rADOM_CFG d) 29 →
         u = (s.setRb (rADOM_STAT d) 25 true).setReg (rADOM_CFG d) (setBit nv 29 (s.rb (rADOM_CFG d) 29))) →
       (bit v 31 = true → exec (.adomCfgWrite d v) s = .next u.settle) ∧
       (bit v 31 = false → exec (.adomCfgWrite d v) s = .next (u.setDom d { s.dom d with row1 := some 1, inbox := [] }).settle)))

/-- In its slot an enabled domain takes the snapshot asked for, the corrections learned and the change of row 1, then, fed by its wheels,
the presented edges: a reverse indication alone, which holds it in REVERSE_HOLD, else all in the order of their timestamps (R64, R65, R81,
R91); the first crank edge of an UNSYNC domain with a valid table begins the search (Table 3.2 row 15). Fed by the ring it takes the
frames that came (R344). Outside its slot nothing happens (R24). A due span that fits the first cam hypothesis alone takes the domain from
CRANK_SYNC to FULL_SYNC, its angle kept; one that fits the second alone does so with every angle half a cycle on; one that fits neither
begins both anew and counts (R71). In FULL_SYNC the second failed cycle in a row goes back to CRANK_SYNC with cause 8 (R72). -/
def Obligations.DomainSlotTakesEdgesAndCamSpans : Prop :=
  (∀ (s : State) (d : Fin 4), s.live = true →
     (s.time % 16 ≠ 4 * d.val → exec (.domainSlot d) s = .next s.settle) ∧
     (s.time % 16 = 4 * d.val →
       (s.domRing d = false → ∀ u, u = ((s.takeSnap d).lrnApply d).row1 d →
         exec (.domainSlot d) s = .next ((if u.domEn d then u.takeEdges d else u).angleTx d).settle) ∧
       (s.domRing d = true → ∀ u v, u = (s.takeSnap d).row1 d → v = u.setDom d { u.dom d with rxQ := [] } →
         exec (.domainSlot d) s = .next
           ((if v.domEn d then (u.dom d).rxQ.foldl (fun x e => x.ringFrame d e.1 e.2.1 e.2.2) v else v).angleTx d).settle)) ∧
     (∀ e : WEdge, s.time % 16 = 4 * d.val → s.domRing d = false → s.domEn d = true → (s.dom d).take = false →
       (s.dom d).lrnPend = [] → (s.dom d).row1 = none → (s.dom d).inbox = [e] → e.pres ≤ s.time → e.role = 1 →
       let u := s.setDom d { s.dom d with inbox := [] }
       (e.dir < 2 → (u.dom d).cur.st = 0 → (u.dom d).tableValid = true →
         exec (.domainSlot d) s = .next ((u.domSeek d s.time none [e.ts]).angleTx d).settle) ∧
       (2 ≤ e.dir → exec (.domainSlot d) s = .next ((u.domReverse d s.time).angleTx d).settle))) ∧
  (∀ (s : State) (d : Nat),
     let now := (s.dom d).inbox.filter (fun e => e.pres ≤ s.time)
     let u := s.setDom d { s.dom d with inbox := (s.dom d).inbox.filter (fun e => s.time < e.pres) }
     ((∃ e ∈ now, 2 ≤ e.dir) → s.takeEdges d = u.domReverse d s.time) ∧
     ((∀ e ∈ now, e.dir < 2) → s.takeEdges d = (sortBy (fun e => 2 * e.ts + (if e.role = 1 then 1 else 0)) now).foldl
       (fun x e => if e.role = 1 then x.crankEdge d s.time e else x.camEdge d e) u)) ∧
  (∀ (s : State) (d : Fin 4), s.live = true → s.time % 16 = 4 * d.val → s.domEn d = true → s.domRing d = false →
     exec (.camSpanDecision d) s = .next ((s.camSpans d s.time (s.dom d).spans.length).angleTx d).settle) ∧
  (∀ (s : State) (d t n : Nat) (y : Span) (l : List Span), (s.dom d).spans = y :: l →
     (y.due ≤ t → s.camSpans d t (n + 1) = (s.camSpan d t y).camSpans d t n) ∧ (t < y.due → s.camSpans d t (n + 1) = s) ∧
     (∀ cams whole u, cams = ((s.dom d).camEdges.filter (fun e => y.start < e.1 && e.1 ≤ y.fin)).map (fun e => e.2) →
       whole = decide ((s.dom d).obsFrom ≤ y.start) →
       u = s.setDom d { s.dom d with camEdges := (s.dom d).camEdges.filter (fun e => y.fin < e.1), spans := l } →
       ((s.dom d).cur.st = 2 → u.camInputs d ≠ [] → ∀ h0 h1, h0 = ((s.dom d).hyp0 && u.camOk d y.entry cams whole) →
         h1 = ((s.dom d).hyp1 && (match u.partner d y.entry with | some i => u.camOk d i cams whole | none => false)) →
         (h0 = true → h1 = true → s.camSpan d t y = u) ∧
         (h0 = true → h1 = false → s.camSpan d t y = u.setSync d t 3) ∧
         (h0 = false → h1 = true → s.camSpan d t y = (u.setSync d t 3).moveHalf d t) ∧
         (h0 = false → h1 = false →
           s.camSpan d t y = (u.setDom d { u.dom d with hyp0 := true, hyp1 := true, obsFrom := y.fin }).camError d)) ∧
       ((s.dom d).cur.st = 2 → u.camInputs d = [] → s.camSpan d t y = u) ∧
       ((s.dom d).cur.st = 3 → u.camOk d y.entry cams whole = false → (s.dom d).camFail = false → 1 ≤ (s.dom d).camRun →
         ∀ v, v = (u.setDom d { u.dom d with camFail := true, camRun := (s.dom d).camRun + 1 }).camError d →
           s.camSpan d t y = ((v.setDom d { v.dom d with lastCause := 8, obsFrom := y.fin }).setSync d t 2).domLoss d 2 true)))

/-- A missed tooth is inserted where MT_ACT, INS_OK and half a cycle of distance allow it, else the domain goes to SEEK as a sync loss
(R76, R77); in a KEEP_POS restart it goes to SEEK with the edges of the restart (R80). The stall timeout takes a domain to HALTED, a sync
loss with cause 9, a tie with the missed tooth included; from CRANK_SYNC and FULL_SYNC it holds the angle and cycle reached at the
deadline (R80). -/
def Obligations.MissedTeethAndStalls : Prop :=
  (∀ (s : State) (d : Fin 4) (m : Nat), s.live = true → s.time % 16 = 4 * d.val → s.domEn d = true → s.domRing d = false →
     s.missAt d = some m → m + s.crankFilt d ≤ s.time → (∀ a, s.stallAt d = some a → m < a) → s.edgeBefore d m = false →
     let u := (s.bump (rADOM_CNT_TOOTH d) 31 24).domEvent d 2
     let x := u.dom d
     let n := u.nextE d x.cur.entry
     let far := match x.sinceIns with | some y => decide (halfCyc ≤ y + u.spanTo d n) | none => true
     (x.cur.st ≠ 4 → exec (.missedTooth d) s = .next
       ((if u.rb (rADOM_CFG d) 28 && teInsOk (u.tooth d n) && far then u.insertTooth d s.time
         else u.domDrop d s.time (if u.rb (rADOM_CFG d) 28 then 6 else 5) x.cur.tk).angleTx d).settle) ∧
     (x.cur.st = 4 → exec (.missedTooth d) s = .next
       ((u.domSeek d s.time (some (if u.rb (rADOM_CFG d) 28 then 6 else 5)) x.restart).angleTx d).settle)) ∧
  (∀ (s : State) (d : Fin 4) (a : Nat), s.live = true → s.time % 16 = 4 * d.val → s.domEn d = true → s.domRing d = false →
     s.stallAt d = some a → a + s.crankFilt d ≤ s.time → (∀ m, s.missAt d = some m → a ≤ m) → s.edgeBefore d a = false →
     let p := (s.dom d).cur
     let u := s.domTo d s.time 4 (some 9) true false
     let v := u.setDom d { u.dom d with held := some (p.st, p.entry, p.theta, p.cyc) }
     ((s.dom d).cur.st = 1 → exec (.stall d) s = .next (u.angleTx d).settle) ∧
     ((s.dom d).cur.st = 2 ∨ (s.dom d).cur.st = 3 → exec (.stall d) s = .next
       ((v.publish d s.time { (v.dom d).cur with theta := (p.at a).2, hasAngle := true, cyc := (p.at a).1 }).angleTx d).settle) ∧
     (∃ t, (if (s.dom d).cur.st = 1 then (s.dom d).lastAcc else some (s.dom d).cur.tk) = some t ∧
       a = t + max (s.rf (rADOM_TMO d) 31 16) 1 * 100000))

/-- A domain entered or left through Table 3.2 shows its new state one tick after the slot, with the cause in LAST_CAUSE and no moving
angle (R25, R62, R67). -/
def Obligations.DomainTransitionPublishesNextTick : Prop :=
  ∀ (s : State) (d t new cause : Nat), (s.dom d).cur.st ≠ new →
    let u := s.domTo d t new (some cause) false false
    let q := u.dom d
    q.cur.st = new ∧ q.cur.entry = (s.dom d).cur.entry ∧ q.lastCause = cause ∧ q.validAt = t + 16 ∧ q.cur.om = 0 ∧
      ((s.dom d).validAt ≠ t + 16 → q.vis (t + 15) = (s.dom d).cur) ∧ q.vis (t + 16) = q.cur

/-! ### Event scheduling (chapter 4) -/

/-- In its solver slot an actuator's slots are permitted or blocked and solved in ascending order, the ends that lie before the frame's end
lock, and the starts that are due are judged by start time, then by slot (R22, R101, R107, R113); an ARMED event whose start lies beyond
the present frame only has its times computed anew, a WAITING start that is locked only its end (R101, R104, R111); outside the slot
nothing happens. A write of SCHED_PEEK asks for the named slot at its actuator's solver slot, or for zeros where it names none (R124). -/
def Obligations.SolverSlotComputesAndPeeks : Prop :=
  (∀ (s : State) (a : Fin 96), s.live = true →
     (s.time % 64 ≠ 4 * (a.val % 16) → exec (.solverSlot a) s = .next s.settle) ∧
     (s.time % 64 = 4 * (a.val % 16) → ∀ r u v : State, r = (below 8).foldl (fun (x : State) k => (x.permit a k).solve a k) s →
       u = r.lockEnds a (r.time + 4) →
       v = (sortBy (fun k => (u.slot a k).tS.toNat) ((below 8).filter (fun k => u.isDue a k))).foldl (fun (x : State) k => x.judge a k false) u →
       ((v.act a).peek = true ∧ v.rf rSCHED_PEEK 14 8 = a.val → exec (.solverSlot a) s =
         .next ((v.setAct a { v.act a with peek := false }).fillPeek a (v.rf rSCHED_PEEK 2 0)).settle) ∧
       ((v.act a).peek = false ∨ v.rf rSCHED_PEEK 14 8 ≠ a.val → exec (.solverSlot a) s = .next v.settle))) ∧
  (∀ (s : State) (a k : Nat),
     let x := s.slot a k
     let y := s.compute a x
     (s.time % 4 = 0 → x.st = 1 → x.locked = none → x.fire = none → y.passed = false →
       (y.inForce = true → ((frameOf s.time + 64 : Nat) : Int) ≤ y.tS) →
       s.solve a k = s.setSlot a k { y with st := 1, bankWait := false, locked := none }) ∧
     (x.st = 3 → x.locked ≠ none → x.fire = none → s.solve a k = s.setSlot a k { s.moved x with passed := y.passed, tE := y.tE }) ∧
     (x.st = 0 ∨ x.st = 2 ∨ 5 ≤ x.st → s.solve a k = s)) ∧
  (∀ (s : State) (v : Word), s.live = true →
     ∀ u, u = s.setReg rSCHED_PEEK (v &&& 0x00007F07) →
       (fld v 14 8 ≤ 95 → exec (.schedPeekWrite v) s = .next
         ({ u.setAct (fld v 14 8) { s.act (fld v 14 8) with peek := true } with peekZero := false } : State).settle) ∧
       (95 < fld v 14 8 → exec (.schedPeekWrite v) s = .next ({ u with peekZero := true } : State).settle))

/-- A start whose checks have passed fires at its time: a FLAG_ONLY event by itself, a lane event as a shot of its own on an idle
actuator; into a running shot it merges where the duty check allows the extension, with what is left where it must be cut, and else goes
FREE with DUTY_REFUSED; one whose shot can take no merge waits (R104, R110, R113, R114). A locked end is carried out: a FLAG_ONLY event
ends by itself; a shot, neither capped nor cancelled nor cut by DMAX, turns off as its last phase says, an OUTPUT and a coil as their
class says (R107, R110, R153). -/
def Obligations.StartsAndEndsAreCarriedOut : Prop :=
  (∀ (s : State) (a : Fin 96) (k : Fin 8) (i : Fin 1024) (t : Nat), s.live = true → (s.slot a k).fire = some t → t < s.time + 4 →
     let u := if (s.slot a k).late then s.bump rSCHED_CNT_A 15 0 else s
     ((s.slot a k).flagOnly = true →
       exec (.startFire a k i) s = .next ((u.fireFlag a k t).lockEnds a (s.time + 4)).settle) ∧
     ((s.slot a k).flagOnly = false → (s.act a).shot = none →
       exec (.startFire a k i) s = .next ((u.fireShot a k t i).lockEnds a (s.time + 4)).settle) ∧
     (∀ h, (s.slot a k).flagOnly = false → (s.act a).shot = some h →
       (h.st ≠ 0 ∨ h.forced = true ∨ s.cls a = 3 ∨ (s.shotEnd a).getD 0 ≤ t → exec (.startFire a k i) s = .next (s.wait a k false).settle) ∧
       (h.st = 0 → h.forced = false → s.cls a ≠ 3 → t < (s.shotEnd a).getD 0 → ∀ y, y = s.computeEnd (s.slot a k) →
         (s.dutyMerge a ((s.shotEnd a).getD 0) y.mergeEnd = none →
           exec (.startFire a k i) s = .next ((s.freeSlot a k 0x22).bump rDIAG_GSTAT 15 8).settle) ∧
         (∀ cap, s.dutyMerge a ((s.shotEnd a).getD 0) y.mergeEnd = some cap → exec (.startFire a k i) s = .next
           (((s.setSlot a k { y with trunc := cap.isSome, cap := cap }).fireMerge a k t).lockEnds a (s.time + 4)).settle)))) ∧
  (∀ (s : State) (a : Fin 96) (i : Fin 1024) (e : Nat), s.live = true → e < s.time + 4 →
     (∀ k : Fin 9, k.val < 8 → (s.slot a k).endLock = some e → (s.slot a k).st = 4 → (s.slot a k).flagOnly = true →
       exec (.endEdge a k i) s = .next (s.endFlagOnly a k e (if (s.slot a k).cancelEnd = none then 0 else 2)).settle) ∧
     (∀ (h : Shot), (s.act a).shot = some h → h.st = 0 → h.endLock = some e →
       exec (.endEdge a 8 i) s = .next (s.normalEnd a e i h).settle ∧
       (∀ k, h.forced = false → s.runningSlots a = [k] → (s.slot a k).safeOwn = false → (s.slot a k).dmaxCutNow = false →
         exec (.endEdge a 8 i) s = .next
           (s.placeEnd a e (if s.cls a = 4 then 5 else if s.cls a = 3 then 3 else min (phOff (s.phaseOf a h)) 2) false none i).settle)))

/-- ARM_EVENT in its solver slot: a refused event arms nothing and says which actuator and reason; one found too late is counted; else
the slot takes the event and its computed times (R96, R98, Table 4.6). ARM_BATCH: in SAFE it is refused; ill-formed operands are
BAD_EVENT 6; else its entries are fetched, and at the first frame start after they have come they are judged together, each in the
state the ones before it leave: all that are not too late are armed, or, where one fails checks 1 to 7, none; either way every entry
found too late is shown and counted (R100, R124). -/
def Obligations.ArmCommandsFinish : Prop :=
  (∀ (s : State) (e : Fin 64) (c : Cmd), s.runsOn 0x20 e c → s.time % 64 = 4 * (c.byte 8 % 16) →
     exec (.armEvent e) s = .next (match s.judgeArm c.armer c.ops 0 0 (s.time + 4) with
       | .refused st r => (s.finish c st (pack [(7, 0, c.byte 8), (71, 64, r)])).settle
       | .late k x => ((s.bump rSCHED_CNT_A 31 16).finish c 0x21 (pack [(7, 0, c.byte 8), (10, 8, k), (31, 16, x.cyc)])).settle
       | .ok k x => (((s.setSlot (c.byte 8) k x).rewrote 4 (32 * c.byte 8 + 4 * k) 4).finish c 0 (armResult (c.byte 8) k x)).settle) ∧
     (s.inSafe = true → s.judgeArm c.armer c.ops 0 0 (s.time + 4) = .refused 0x26 0) ∧
     (s.inSafe = false → c.byte 8 ≤ 95 → (s.act (c.byte 8)).bound = true → s.owns c.qp (c.byte 8) = false →
       s.judgeArm c.armer c.ops 0 0 (s.time + 4) = .refused 0x12 0)) ∧
  (∀ (s : State) (e : Fin 64) (c : Cmd), s.begins 0x21 e c → c.phase = 0 →
     (s.inSafe = true → exec (.armBatch e) s = .next ((s.start c).finish (s.go c) 0x26 (pack [(31, 24, 0xFF)])).settle) ∧
     (s.inSafe = false → c.opnd 8 15 % 32 ≠ 0 ∨ c.byte 16 = 0 ∨ 16 < c.byte 16 ∨ c.zeros 17 31 = false →
       exec (.armBatch e) s = .next ((s.start c).finish (s.go c) 0x25 (pack [(31, 24, 0xFF), (39, 32, 6)])).settle) ∧
     (s.inSafe = false → c.opnd 8 15 % 32 = 0 → 1 ≤ c.byte 16 → c.byte 16 ≤ 16 → c.zeros 17 31 = true →
       exec (.armBatch e) s = .next (((s.start c).modCmd c.ord (fun x => { x with phase := 1 })).fetchStart c.ord (c.opnd 8 15) (32 * c.byte 16)).settle)) ∧
  (∀ (s : State) (e : Fin 64) (c : Cmd), s.runsOn 0x21 e c → c.phase = 1 →
     (c.failed = true → exec (.armBatch e) s = .next (s.finish c 0x25 (pack [(31, 24, 0xFF), (39, 32, 6)])).settle) ∧
     (c.failed = false → c.ready = true → s.time % 64 = 0 → c.sentAt < s.time → s.inSafe = false →
       ∀ b, b = (below (c.byte 16)).foldl (fun (b : Batch) i => b.entry c.armer c.data i) { st := s } →
       ∀ n, n = ((below 16).filter (fun i => b.late / 2 ^ i % 2 = 1)).length →
         (b.bad = none → exec (.armBatch e) s = .next
           ((b.st.bumpN rSCHED_CNT_A 31 16 n).finish c 0 (pack [(15, 0, b.late), (23, 16, b.armed), (31, 24, 0xFF)])).settle) ∧
         (∀ i st r, b.bad = some (i, st, r) → exec (.armBatch e) s = .next
           ((s.bumpN rSCHED_CNT_A 31 16 n).finish c st (pack [(15, 0, b.late), (31, 24, i), (39, 32, r)])).settle))) ∧
  (∀ (b : Batch) (w : Armer) (data i : Nat), ∀ x : Operands, x = BitVec.ofNat 192 (data / 2 ^ (256 * i) / 2 ^ 64) → ∀ a, a = evField x 8 8 →
     ∀ j, j = b.st.judgeArm w x i (data / 2 ^ (256 * i) % 2 ^ 64) (b.st.time + 4 * (a % 16) + 4) →
     (∀ st r, j = .refused st r → b.bad = none → b.entry w data i = { b with bad := some (i, st, r) }) ∧
     (∀ st r, j = .refused st r → b.bad ≠ none → b.entry w data i = b) ∧
     (∀ k x, j = .late k x → b.entry w data i = { b with late := b.late + 2 ^ i }) ∧
     (∀ k x, j = .ok k x → b.entry w data i = { b with st := (b.st.setSlot a k x).rewrote 4 (32 * a + 4 * k) 4, armed := b.armed + 1 }))

/-- CANCEL_EVENT is taken in the solver slot; at the frame start after, every matching slot that has not started goes FREE with ABORTED, a
running one whose end is not locked ends at its DMIN, and the command says which; a cancel that ends none completes as
COMPLETED_BEFORE_ABORT (R121, R122). FORCE_ON at the frame start: a failed check finishes it with that status and reasons and starts
nothing; else a forced shot begins, cut where the duty budget ends it. FORCE_OFF ends the shot of one actuator, or of every one its queue
pair owns, with FLUSH frees the slots that wait, and says which (R305 to R307). -/
def Obligations.CancelAndForceCommandsFinish : Prop :=
  (∀ (s : State) (e : Fin 64) (c : Cmd), s.runsOn 0x22 e c →
     (c.phase = 0 → s.time % 64 = 4 * (c.byte 8 % 16) →
       exec (.cancelEvent e) s = .next (s.modCmd c.ord (fun x => { x with phase := 1, committed := true, sentAt := s.time })).settle) ∧
     (c.phase = 1 → s.time % 64 = 0 → c.sentAt < s.time →
       ∀ r : State × Nat × Nat, r = (below 8).foldl (fun (x : State × Nat × Nat) k =>
         ((x.1.cancelSlot c k).1, x.2.1 + (x.1.cancelSlot c k).2.1, x.2.2 + (x.1.cancelSlot c k).2.2)) (s, 0, 0) →
       (r.2.1 = 0 → exec (.cancelDecision e) s = .next (r.1.finish c 3 (pack [(7, 0, c.byte 8), (15, 8, 0), (23, 16, r.2.2)])).settle) ∧
       (r.2.1 ≠ 0 → exec (.cancelDecision e) s = .next ((r.1.bumpN rSCHED_CNT_B 15 0 (maskCount r.2.1)).finish c 2
         (pack [(7, 0, c.byte 8), (15, 8, r.2.1), (23, 16, r.2.2)])).settle)) ∧
     (∀ k, (s.cancelMatch c k = false → s.cancelSlot c k = (s, 0, 0)) ∧
       (s.cancelMatch c k = true →
         ((s.slot (c.byte 8) k).st ≤ 3 → s.cancelSlot c k = (s.freeSlot (c.byte 8) k 2, 2 ^ k, 0)) ∧
         ((s.slot (c.byte 8) k).st = 4 → s.endLocked (c.byte 8) (s.slot (c.byte 8) k) = false → s.cancelSlot c k =
           (s.setSlot (c.byte 8) k { s.slot (c.byte 8) k with
             cancelEnd := some (max s.time ((s.slot (c.byte 8) k).tAct + (s.slot (c.byte 8) k).dmin)) }, 2 ^ k, 0)) ∧
         ((s.slot (c.byte 8) k).st = 4 → s.endLocked (c.byte 8) (s.slot (c.byte 8) k) = true → s.cancelSlot c k = (s, 0, 2 ^ k)) ∧
         (5 ≤ (s.slot (c.byte 8) k).st → s.cancelSlot c k = (s, 0, 2 ^ k))))) ∧
  (∀ (s : State) (e : Fin 64) (i : Fin 1024) (c : Cmd), s.time % 64 = 0 →
     (s.runsOn 0x23 e c →
       let r := s.forceCheck (c.byte 8) (c.byte 10) (c.opnd 12 15)
       (r.2.1 ≠ 0 → exec (.forceOn e i) s = .next
         ((if r.2.1 = 0x22 then s.bump rDIAG_GSTAT 15 8 else if r.2.1 = 0x23 then s.bump rACT_GSTAT 23 12 else s).finish c r.2.1
           (pack [(7, 0, c.byte 8), (39, 32, r.2.2.1), (71, 64, r.2.2.2)])).settle) ∧
       (r.2.1 = 0 → r.1 = none → exec (.forceOn e i) s =
         .next (((s.beginShot (c.byte 8) s.time i { forced := true, forcedEnd := if c.opnd 12 15 = 0 then none else some (s.time + c.opnd 12 15)
                                                    prof := c.byte 10, dur := c.opnd 12 15 }).lockEnds (c.byte 8) s.time).finish c 0
           (pack [(7, 0, c.byte 8), (63, 32, c.opnd 12 15)])).settle) ∧
       (∀ x, r.2.1 = 0 → r.1 = some x → exec (.forceOn e i) s =
         .next ((((s.bump rDIAG_GSTAT 7 0).beginShot (c.byte 8) s.time i
           { forced := true, forcedEnd := if c.opnd 12 15 = 0 then none else some (s.time + c.opnd 12 15), forcedCap := some x, prof := c.byte 10
             dur := c.opnd 12 15, truncated := true }).lockEnds (c.byte 8) s.time).finish c 0
           (pack [(7, 0, c.byte 8), (8, 8, 1), (63, 32, x - s.time)])).settle)) ∧
     (s.runsOn 0x24 e c → ∀ flush, flush = decide (c.byte 9 % 2 = 1) →
       (c.byte 8 ≠ 255 → ∀ r, r = s.forceOffAct (c.byte 8) flush → exec (.forceOff e) s =
         .next (r.1.finish c 0 (pack [(7, 0, c.byte 8), (15, 8, r.2.1), (23, 16, r.2.2.1), (24, 24, r.2.2.2.toNat)])).settle) ∧
       (c.byte 8 = 255 → ∀ r : State × Nat × Nat, r = ((below 96).filter (fun a => s.owns c.qp a)).foldl (fun (x : State × Nat × Nat) a =>
           ((x.1.forceOffAct a flush).1,
             x.2.1 + (match (x.1.act a).shot with | some h => decide (h.st = 0) | none => false).toNat,
             x.2.2 + maskCount (x.1.forceOffAct a flush).2.2.1)) (s, 0, 0) →
         exec (.forceOff e) s = .next (r.1.finish c 0 (pack [(7, 0, 255), (23, 8, r.2.1), (39, 24, r.2.2)])).settle))) ∧
  (∀ (s : State) (a : Nat),
     ((s.act a).shot = none → s.forceOffAct a false = (s.overrideEnd a s.time 2, 0, 0, false)) ∧
     (∀ h flush, (s.act a).shot = some h → h.st = 0 → ∀ u free, u = s.overrideEnd a s.time 2 →
       free = (if flush = true then (below 8).filter (fun k => 1 ≤ (u.slot a k).st && (u.slot a k).st ≤ 3) else []) →
       s.forceOffAct a flush = (free.foldl (fun (x : State) k => x.freeSlot a k 2) u, (s.runningSlots a).foldl (fun n k => n + 2 ^ k) 0,
         free.foldl (fun n k => n + 2 ^ k) 0, h.forced)))

/-! ### Actuators, lanes and boost (chapters 5 to 8) -/

/-- In the LS lane's slot a TIME phase ends once T_MAX has passed, and a phase whose exit was met early once T_MIN has; another phase at
T_MAX is a peak timeout or sets PH_TMO, and the next phase follows (R141 to R143), of a shot that another fault ended in this slot too
(R232). What moving to the next phase does: the new phase is in force 4 ns after the slot began, unless the shot ends at or before that
or a strict duty budget is spent at the way into the hold phase (R144, R239). -/
def Obligations.PhasesMoveOn : Prop :=
  (∀ (s : State) (a : Fin 96) (i : Fin 1024) (h : Shot), s.live = true → (s.act a).shot = some h → s.lsSlot a = true →
     let x := s.phaseOf a h
     (s.walking a = true → phExit x = 1 → h.entry + 64 * phTmax x ≤ s.time → exec (.phaseTimeExit a i) s = .next (s.nextPhase a i).settle) ∧
     (s.walking a = true → h.early = true → h.entry + 64 * phTmin x ≤ s.time → exec (.phaseTminEnd a i) s = .next (s.nextPhase a i).settle) ∧
     (s.judged h = true → s.cls a ≠ 4 → phLast x = false → h.entry ≤ s.time → phExit x = 0 ∨ phExit x = 2 → h.met = false →
       h.entry + 64 * phTmax x ≤ s.time → (∀ e, h.endLock = some e → s.time + 4 < e) → exec (.phaseTmaxTimeout a i) s = .next
         ((if phPeak x then s.peakTimeout a h else s.modShot a (fun g => { g with sflags := setBit g.sflags 1 true })).nextPhase a i).settle)) ∧
  (∀ (s : State) (a i : Nat) (h : Shot), (s.act a).shot = some h → h.st = 0 →
     ((∀ e, h.endLock = some e → s.time + 4 < e) →
       s.nextPhase a i = if phLast (s.phaseRec h.prof (h.phase + 1)) = true ∧ s.spent a = true then s.strictEnd a (s.time + 4) i
         else s.enterPhase a (h.phase + 1) (s.time + 4) i) ∧
     (∀ e, h.endLock = some e → e ≤ s.time + 4 → s.nextPhase a i = s))

/-- The current crossing a threshold switches the regulated lane, at once or once CHOP_TMIN has passed, and captures a CURRENT exit; a
rise in a phase that regulates nothing and exits otherwise is noted; a fall through I_ZERO ends a turn-off's conduction (R139, R141,
R153). Turn-off ends: at T_OFF_MAX with TAIL_TO and fault 0x08, a coil's tail after SPARK_TAIL, a soft shutdown when its target reaches
zero (R154, R158, R159). -/
def Obligations.CrossingsAndTurnOffs : Prop :=
  (∀ (s : State) (a : Fin 96) (ofs : Fin 4) (h : Shot), s.live = true → (s.act a).shot = some h →
     let x := s.phaseOf a h
     let t := s.time + ofs.val
     let falls := phExit x = 0 ∧ phDir x = true ∧ phLast x = false
     (h.st = 0 → s.cls a ≠ 4 → h.entry ≤ t →
       (∀ rise : Bool, phReg x ≠ 0 → ¬(rise = true ∧ falls) →
         exec (.regulationCrossing a rise ofs) s = .next (s.chop a (!rise) t).settle) ∧
       (phReg x = 0 → phLast x = true ∨ phExit x ≠ 0 → exec (.regulationCrossing a true ofs) s =
         .next (s.modShot a (fun g => { g with sflags := setBit g.sflags 0 true })).settle)) ∧
     (h.st = 1 → h.off ≤ 2 → h.zeroAt = none → s.cls a ≤ 2 → exec (.regulationCrossing a false ofs) s =
       .next ((s.modShot a (fun g => { g with zeroAt := some t })).gates a t).settle) ∧
     (∀ w, h.st = 0 → h.regWant = some w → h.regAt + 500 * s.rf (rACT_CFG a) 18 16 < s.time + 4 →
       exec (.chopTminExpiry a) s = .next ((s.modShot a (fun g =>
         { g with regOn := w, regAt := h.regAt + 500 * s.rf (rACT_CFG a) 18 16, regWant := none })).gates a
           (h.regAt + 500 * s.rf (rACT_CFG a) 18 16)).settle) ∧
     (s.walking a = true → phExit x = 0 → exec (.exitCrossing a ofs) s = .next (s.exitCross a t).settle)) ∧
  (∀ (s : State) (a t : Nat) (on : Bool) (h : Shot), (s.act a).shot = some h →
     (h.regOn = on → s.chop a on t = s.modShot a (fun g => { g with regWant := none })) ∧
     (h.regOn ≠ on → h.regAt + 500 * s.rf (rACT_CFG a) 18 16 ≤ t →
       s.chop a on t = (s.modShot a (fun g => { g with regOn := on, regAt := t, regWant := none })).gates a t) ∧
     (h.regOn ≠ on → t < h.regAt + 500 * s.rf (rACT_CFG a) 18 16 → s.chop a on t = s.modShot a (fun g => { g with regWant := some on }))) ∧
  (∀ (s : State) (a : Fin 96) (h : Shot), s.live = true → (s.act a).shot = some h → h.st = 1 →
     (s.lsSlot a = true → h.off ≤ 2 → h.zeroAt = none → h.tEnd + 32000 * max 1 (s.rf (rACT_CFG a) 7 0) ≤ s.time →
       exec (.turnOffTimeout a) s = .next
         (((s.modShot a (fun g => { g with sflags := setBit g.sflags 2 true })).shotFault a 8 none false 0 (s.lsLane a) h.iNow h.phase h).finishOff
           a s.time).settle) ∧
     (s.lsSlot a = true → h.off = 3 → h.tailFrom + 4000 * s.rf (rACT_SAFE a) 9 0 ≤ s.time →
       exec (.coilTailEnd a) s = .next (s.finishOff a s.time).settle) ∧
     (h.off = 4 → h.zeroAt = none → h.tEnd + 1000000 * (s.rf (rACT_SAFE a) 29 27 + 1) < s.time + 4 →
       let t := h.tEnd + 1000000 * (s.rf (rACT_SAFE a) 29 27 + 1)
       let u := s.modShot a (fun g => { g with zeroAt := some t })
       exec (.softShutdownEnd a) s = .next ((u.setLane (s.lsLane a) { s.lane (s.lsLane a) with linear := none }).gates a t).settle))

/-- A lane's slot, but in DOZE, holds the code of the lane and takes the one held in the slot before into its sample, with the drain
comparators of a low-side lane and the bootstrap state of a high-side one; the bound actuator whose LS lane it is is served with that
sample, one unbound hands over its records, and TRAY_PEEK_DATA follows where it names the lane (R165, R169, R170, R186, R196). A
bootstrap under-voltage turns a high-side gate off, is counted, and waits as a fault for the LS slot of every shot on it (R165, R230);
settling ends with RDY, and a lane that idles on returns to its level (R163). At the first frame start in a new duty sub-window its word
is cleared (R235). The tray's temperature sample is kept; TWARN sets at its level and clears only once the sample has fallen more than
20 codes below it; TSD sets at 0x1C0, disabling the tray's actuators and rails, and clears below 0x1AC (R241 to R243). -/
def Obligations.LanesSampleSettleAndFollowSupplies : Prop :=
  (∀ (s : State) (n : Fin 192) (code : Fin 1024) (above bel : Bool), s.live = true →
     ((s.time % 64 ≠ 4 * (n.val % 16) ∨ s.inDoze = true) → exec (.laneSlot n code above bel) s = .next s.settle) ∧
     (s.time % 64 = 4 * (n.val % 16) → s.inDoze = false →
       let x := if (s.lane n).rdy then s.trimmed n code else 0
       let low := s.gmode n == 1 && (s.lane n).rdy
       let naming := (below 96).filter (fun a => s.lsLane a = n.val)
       let owner := (naming.find? (fun a => (s.act a).bound)).or naming.head?
       let now : Held := match owner with
         | some a => s.holdNow n a x
         | none => { t := s.time, code := x, drain := (s.lane n).mux, uns := false, ph := none, hs := false, hsv := false, ls := false }
       let l : Lane := { s.lane n with
         above := low && above, below_ := low && bel, bootUv := (s.lane n).bootUv && !above, held := some now
         i := match (s.lane n).held with | some y => (if y.drain then 0 else y.code) | none => (s.lane n).i
         vd := match (s.lane n).held with | some y => (if y.drain then y.code else (s.lane n).vd) | none => (s.lane n).vd }
       let u := (naming.filter (fun a => !(s.act a).bound)).foldl (fun (y : State) a => y.handRecords a) (s.setLane n l)
       let v := match owner, (s.lane n).held with | some a, some y => u.lsWork a x y | _, _ => u
       exec (.laneSlot n code above bel) s = .next (if v.rf (rTRAY_PEEK (n.val / 48)) 5 0 = n.val % 48
         then v.setReg (rTRAY_PEEK_DATA (n.val / 48)) (v.lane n).peekWord else v).settle)) ∧
  (∀ (s : State) (n : Fin 192), s.live = true →
     (s.gmode n = 2 → (s.lane n).rdy = true → (s.lane n).bootUv = false → ∀ u : State,
       ((s.lane n).gate = true → u = (s.setLane n { s.lane n with bootUv := true, bootHold := true, gate := false, lastEdge := some (s.time + 4) }).emit
         (.gate n false (s.time + 4))) →
       ((s.lane n).gate = false → u = s.setLane n { s.lane n with bootUv := true, bootHold := false, gate := false }) →
       exec (.bootstrapUndervoltage n) s = .next (((u.bump (rTRAY_CNT (n.val / 48)) 15 0).namers n).foldl (fun (y : State) a =>
         match (y.act a).shot with
         | some h => if y.judged h then
             let z := y.modShot a (fun g => { g with swFault := true })
             z.setAct a { z.act a with pend := (z.act a).pend ++ [{ code := 6, lane := n, cur := 0, phase := h.phase, shot := true }] }
           else y
         | none => y) (u.bump (rTRAY_CNT (n.val / 48)) 15 0)).settle) ∧
     (s.gmode n ≠ 2 ∨ (s.lane n).rdy = false ∨ (s.lane n).bootUv = true → exec (.bootstrapUndervoltage n) s = .next s.settle) ∧
     (∀ t, (s.lane n).settle = some t → t < s.time + 4 →
       ∀ u, u = s.setLane n { s.lane n with settle := none, rdy := true } →
         exec (.laneSettled n) s = .next ((u.lsActs n).foldl (fun (y : State) a => y.gates a t) u).settle) ∧
     (∀ t, (s.lane n).settle = some t → s.time + 4 ≤ t → exec (.laneSettled n) s = .next s.settle)) ∧
  (∀ (s : State), s.live = true →
     (∀ a : Fin 96, s.time % 64 = 0 → (s.act a).bound = true → s.time / s.subLen a ≠ (s.act a).subWin →
       let u := s.dutyAdd a s.time
       exec (.subwindowChange a) s = .next (({ u.setAct a { u.act a with subWin := s.time / s.subLen a } with
         duty := tabSet 0 u.duty (16 * a.val + s.time / s.subLen a % 16) 0 } : State).rewrote 7 (16 * a.val + s.time / s.subLen a % 16) 1).settle) ∧
     (∀ (t : Fin 4) (code : Fin 1024), s.inRun = true ∨ s.inSafe = true → ∀ u v : State,
       u = { s.setRf (rTRAY_TEMP t) 9 0 code.val with
         devLog := { s.devLog with temps := s.devLog.temps.set t.val (max code.val (s.devLog.temps.getD t.val 0)) } } →
       (u.rb (rTRAY_TEMP t) 20 = false → u.rf (rTRAY_TEMP t) 31 22 ≤ code.val →
         v = (u.setRb (rTRAY_TEMP t) 20 true).report { code := 13, object := t, v1 := code, v2 := 1 }) →
       (u.rb (rTRAY_TEMP t) 20 = true → code.val + 20 < u.rf (rTRAY_TEMP t) 31 22 → v = u.setRb (rTRAY_TEMP t) 20 false) →
       (u.rb (rTRAY_TEMP t) 20 = false → code.val < u.rf (rTRAY_TEMP t) 31 22 → v = u) →
       (u.rb (rTRAY_TEMP t) 20 = true → u.rf (rTRAY_TEMP t) 31 22 ≤ code.val + 20 → v = u) →
       (u.rb (rTRAY_TEMP t) 21 = false → code.val < 0x1C0 → exec (.trayTempSample t code) s = .next v.settle) ∧
       (u.rb (rTRAY_TEMP t) 21 = true → 0x1AC ≤ code.val → exec (.trayTempSample t code) s = .next v.settle) ∧
       (u.rb (rTRAY_TEMP t) 21 = true → code.val < 0x1AC → exec (.trayTempSample t code) s = .next (v.setRb (rTRAY_TEMP t) 21 false).settle) ∧
       (u.rb (rTRAY_TEMP t) 21 = false → 0x1C0 ≤ code.val → ∀ w l, w = v.setRb (rTRAY_TEMP t) 21 true →
         l = (below 96).filter (fun a => (w.act a).bound && w.trayOf a == t.val) →
         exec (.trayTempSample t code) s = .next (([2 * t.val, 2 * t.val + 1].foldl (fun (y : State) r =>
           if y.rf rBST_HOLD 30 28 = r ∧ y.rf rBST_HOLD 27 20 ≠ 0xFF then y else y.setRb (rBST_CFG r) 31 false)
             (l.foldl (fun (y : State) a => y.disable a 13) w)).report
               { code := 13, object := t, v1 := code, v2 := 2, react := 2 * (l.any (fun a => !w.disabled a)).toNat }).settle)))

/-- The watches and the open-load check end in the LS lane's slot: OPEN_MISS and its count, the closing watch cut, the run of open
faults cleared or a fault 0x02 (R182, R183, R227). A desaturation seen in DESAT_F slots is fault 0x01 and ends the shot at the end
of the core cycle (R226); an idle condition that has stood long enough is reported once, and disables where OFF_DIS says so (R228). An
over-current trip turns the lane's gate off at the next core-cycle boundary, latches it, shows in its tray's register and count, and
ends the shots on it; inside the blanking, with the gate off, or latched already, nothing happens (R156, R175, R229). -/
def Obligations.FaultsOfShotsAreFound : Prop :=
  (∀ (s : State) (a : Fin 96) (h : Shot), s.live = true → s.lsSlot a = true →
     ((s.act a).shot = some h → s.opens a h = true → h.tOpen = none → h.openDone = false →
       h.tAct + 4000 * fld (s.sigA a h) 23 16 ≤ s.time →
       exec (.openWatchEnd a) s = .next
         ((s.modShot a (fun g => { g with openDone := true, sflags := setBit g.sflags 5 true })).bump rSFB_CNT_B 31 16).settle) ∧
     ((s.act a).watch = some h → h.tOff + 1000 * fld (s.sigB a h) 23 14 ≤ s.time →
       exec (.closeWatchTimeout a) s = .next (s.cutWatch a).settle) ∧
     ((s.act a).shot = some h → s.judged h = true → h.olDone = false → fld h.lim 23 14 ≠ 0 → h.tAct + 8000 * fld h.lim 13 8 ≤ s.time →
       let u := s.modShot a (fun g => { g with olDone := true })
       exec (.openLoadCheck a) s = .next
         (if h.iMax < fld h.lim 23 14 then u.shotFault a 2 (some 2) false 0 (s.lsLane a) h.iMax h.phase h else u.setRun a 2 0).settle)) ∧
  (∀ (s : State) (a : Fin 96), s.live = true → s.lsSlot a = true →
     (∀ h, (s.act a).shot = some h → h.st ≤ 1 → fld h.lim 7 4 ≠ 0 → fld h.lim 7 4 ≤ h.desatRun →
       exec (.desatFault a) s = .next ((s.modShot a (fun g => { g with desatRun := 0, swFault := true })).shotFault a 1 (some 1) true (s.time + 4)
         (s.lsLane a) h.iNow h.phase h).settle) ∧
     (∀ j t, j < 3 → (s.act a).idleOn.getD j none = some t → bit (s.act a).idleRep j = false →
       t + 1000000 * (s.rf (rDIAG_LIM a) 27 24 + 1) ≤ s.time →
       (∀ i, i < 3 → i ≠ j → (s.act a).idleOn.getD i none = none ∨ bit (s.act a).idleRep i = true ∨
         ∃ t1, (s.act a).idleOn.getD i none = some t1 ∧ s.time < t1 + 1000000 * (s.rf (rDIAG_LIM a) 27 24 + 1)) →
       let u := (s.setAct a { s.act a with idleRep := setBit (s.act a).idleRep j true }).setRb (rDIAG_AST a) (19 + j) true
       let v := u.report { code := 3 + j, object := a, lane := u.lsLane a, v1 := if j = 2 then (s.act a).iLast else 0
                           react := 2 * (u.rb (rDIAG_REACT a) 15 && !u.disabled a).toNat }
       exec (.idleFault a) s = .next (if u.rb (rDIAG_REACT a) 15 then v.disable a (3 + j) else v).settle)) ∧
  (∀ (s : State) (n : Fin 192) (i : Fin 1024), s.live = true → ∀ c ∈ [Instr.overCurrentTrip n i, Instr.ocBlankEnd n i],
     ((s.blankOver n = false ∨ (s.lane n).gate = false ∨ (s.lane n).oc = true) → exec c s = .next s.settle) ∧
     (s.blankOver n = true → (s.lane n).gate = true → (s.lane n).oc = false → ∀ u v : State,
       u = (s.setLane n { s.lane n with oc := true, gate := false, lastEdge := some (s.time + 4) }).emit (.gate n false (s.time + 4)) →
       v = (u.setRb (if n.val % 48 < 32 then rTRAY_OC_LO (n.val / 48) else rTRAY_OC_HI (n.val / 48)) (n.val % 48 % 32) true).bump
         (rTRAY_CNT (n.val / 48)) 31 16 →
       exec c s = .next ((v.namers n).foldl (fun (y : State) a =>
         match (y.act a).shot with
         | some h =>
           if (y.lsLane a = n.val ∧ h.st ≤ 1) ∨ (h.st = 0 ∧ ((y.roleLane a 1 = n.val ∧ phLists (y.phaseOf a h) 1 = true) ∨
             (y.roleLane a 2 = n.val ∧ phLists (y.phaseOf a h) 2 = true))) then y.tripShot a n i h else y
         | none => if y.lsLane a = n.val then y.setAct a { y.act a with pend := (y.act a).pend ++ [{ code := 0, lane := n, cur := i }] } else y)
           v).settle))

/-- Writes of the actuator, bank and lane registers: fields of a bound actuator, of a bank in use and of a lane in use are refused with
their CFG_REJ bits; a bind that passes every check binds and one that fails shows the first failing check, an unbind is refused while
anything is held (R129, R130, R161, R163); a lane whose gate mode changes goes off and settles again (R163); a write of a register whose
clock is stopped waits (R451). Writes that unfreeze feedback or re-enable actuators act on every actuator named; a re-enable is refused
with its flag where the tray is too hot or the rail in FAULT (R193, R234). -/
def Obligations.ActuatorRegistersGuardTheirFields : Prop :=
  (∀ (s : State) (v : Word), s.live = true →
     (∀ a : Fin 96, s.rb (rACT_CFG a) 31 = true →
       ((v &&& 0x0FFFFFFF) ≠ (s.reg (rACT_CFG a) &&& 0x0FFFFFFF) → exec (.actCfgWrite a v) s = .next (s.setRb (rACT_STAT a) 29 true).settle) ∧
       ((v &&& 0x0FFFFFFF) = (s.reg (rACT_CFG a) &&& 0x0FFFFFFF) →
         (bit v 31 = true → exec (.actCfgWrite a v) s = .next s.settle) ∧
         (bit v 31 = false →
           ((∃ k < 8, (s.slot a k).st ≠ 0) ∨ (∃ h, (s.act a).shot = some h ∧ h.forced = true) →
             exec (.actCfgWrite a v) s = .next (s.setRb (rACT_STAT a) 29 true).settle) ∧
           ((∀ k < 8, (s.slot a k).st = 0) → (∀ h, (s.act a).shot = some h → h.forced = false) →
             exec (.actCfgWrite a v) s = .next ((s.unbind a).setRb (rACT_CFG a) 31 false).settle)))) ∧
     (∀ a : Fin 96, s.rb (rACT_CFG a) 31 = false →
       let u := s.setReg (rACT_CFG a) (v &&& 0x8FFFFFFF)
       (bit v 31 = true → u.bindErr a ≠ 0 →
         exec (.actCfgWrite a v) s = .next ((u.setRb (rACT_CFG a) 31 false).setAct a { s.act a with bindErr := u.bindErr a }).settle) ∧
       (bit v 31 = true → u.bindErr a = 0 → exec (.actCfgWrite a v) s = .next (u.bind a).settle) ∧
       (bit v 31 = false → exec (.actCfgWrite a v) s = .next u.settle)) ∧
     (∀ b : Fin 32, exec (.bankCfgWrite b v) s =
       .next (if s.bankInUse b then s.setRb rACT_GSTAT 31 true else s.setReg (rBANK_CFG b) (v &&& 0xC0FFFFFF)).settle) ∧
     (∀ n : Fin 192,
       (s.trayWait (rLANE_CFG n) = true → exec (.laneCfgWrite n v) s = .next { s with barWait := s.barWait ++ [(rLANE_CFG n, v)] }.settle) ∧
       (s.trayWait (rLANE_CFG n) = false →
         (s.laneFixed n = true → exec (.laneCfgWrite n v) s = .next (s.setRb (rLANE_CFG n) 13 true).settle) ∧
         (s.laneFixed n = false →
           let w := setBit (v &&& 0xFFFE0000) 13 (s.rb (rLANE_CFG n) 13 && !bit v 13)
           let u := s.setReg (rLANE_CFG n) (if s.laneOn n then w else setFld w 31 30 0)
           let z := u.drive n false u.time
           (u.gmode n = 0 → exec (.laneCfgWrite n v) s =
             .next (z.setLane n { z.lane n with rdy := false, settle := none, bootUv := false, bootHold := false }).settle) ∧
           (u.gmode n ≠ 0 → u.gmode n = s.gmode n → exec (.laneCfgWrite n v) s = .next u.settle) ∧
           (u.gmode n ≠ 0 → u.gmode n ≠ s.gmode n → s.run = 0 → s.rf rCLK_STAT 25 22 ≠ 0 → exec (.laneCfgWrite n v) s =
             .next (z.setLane n { z.lane n with rdy := false, settle := some (z.time + 20000), bootUv := false, bootHold := false }).settle))))) ∧
  (∀ (s : State) (m : Fin 3) (v : Word), s.live = true →
     exec (.actuatorReenable m v) s = .next ((below 32).foldl (fun (y : State) i => if bit v i then y.reenable (32 * m.val + i) else y) s).settle ∧
     (s.trayWait (rSFB_FROZEN m) = true → exec (.feedbackUnfreeze m v) s = .next { s with barWait := s.barWait ++ [(rSFB_FROZEN m, v)] }.settle) ∧
     (s.trayWait (rSFB_FROZEN m) = false → exec (.feedbackUnfreeze m v) s =
       .next ((below 32).foldl (fun (y : State) i => if bit v i then y.unfreeze (32 * m.val + i) else y) s).settle)) ∧
  (∀ (s : State) (a : Nat),
     s.unfreeze a = (s.setRb (rSFB_FROZEN (a / 32)) (a % 32) false).setAct a { s.act a with outRun := 0 } ∧
     (s.reenRefused a = true → s.reenable a = s.setRb rDIAG_GSTAT 30 true) ∧
     (s.reenRefused a = false → s.disabled a = false → s.reenable a = s) ∧
     (s.reenRefused a = false → s.disabled a = true →
       s.reenable a = ((s.setRb (rDIAG_DIS (a / 32)) (a % 32) false).setRf (rDIAG_AST a) 31 28 0xF).setRf (rDIAG_AST a) 15 0 0) ∧
     (s.reenRefused a = true ↔ (s.lsLane a < 192 ∧ s.rb (rTRAY_TEMP (s.trayOf a)) 21 = true) ∨
       (s.roleLane a 2 < 192 ∧ (s.rail (s.railOf a)).st = 5)))

/-- A boost controller works at the frame start, not in DOZE: it takes its samples, then the setpoint, the settings of the slot, the
checks, the rail's state, the hold switch and the switching enable follow from them (R201 to R206, R217, R219). The rail states (Table
7.2): a cleared EN or a state other than RUN takes a rail to OFF, a switching period that runs completing; a dip to HELD; a setpoint near
VSUP bypasses; START ends once the rail is within HYST of the setpoint; an enabled rail in OFF or FAULT starts. The converter (R202): an
enabled rail starts a switching period with the gate on once the last has ended; the gate turns off when BSTn_CS reaches the limit in
force, IPK, in START half of it, after the 100 ns blank, or once 90 % of the period has passed. -/
def Obligations.BoostSlotsRailsAndConverters : Prop :=
  (∀ (s : State) (r : Fin 8) (vb vr vs : Fin 1024), s.live = true →
     ((s.time % 64 ≠ 0 ∨ s.inDoze = true) → exec (.boostSlot r vb vr vs) s = .next s.settle) ∧
     (s.time % 64 = 0 → s.inDoze = false →
       let u := { s.setRail r { s.rail r with vb := vb.val, vr := vr.val } with vsup := vs.val }
       exec (.boostSlot r vb vr vs) s =
         .next ((((((u.setpoint r).railTake r).railChecks r).railNext r).holdSlot r).railSwitch r).settle)) ∧
  (∀ (s : State) (r : Nat), s.quietLow r = false → s.startLate r = false →
     let x := s.rail r
     let en := s.rb (rBST_CFG r) 31
     ((s.inRun = false ∨ (en = false ∧ x.st ≠ 5)) → x.st ≠ 0 →
       s.railNext r = s.setRail r { x with st := 0, enable := false, uv := false, quietDone := false }) ∧
     (s.inRun = true → en = true →
       (x.st = 1 ∨ x.st = 2 ∨ x.st = 3 → s.dip = true → s.isHoldRail r = false →
         s.railNext r = s.setRail r { x with st := 4, enable := false, uv := false }) ∧
       (x.st = 1 ∨ x.st = 2 → s.dip = false → x.setAct < s.vsup + 30 →
         s.railNext r = s.setRail r { x with st := 3, enable := false, uv := false }) ∧
       (x.st = 1 → s.dip = false → s.vsup + 30 ≤ x.setAct → x.setAct ≤ x.vb + s.bstHyst r → s.railNext r = s.setRail r { x with st := 2 }) ∧
       (x.st = 0 ∨ x.st = 5 → s.railNext r = s.railStart r))) ∧
  (∀ (s : State) (r : Fin 8) (ofs : Fin 4) (mv : Fin 256), s.live = true →
     let x := s.rail r
     (x.enable = true → x.st = 1 ∨ x.st = 2 → s.holdAt = none → (∀ p, x.period = some p → p + x.perLen ≤ s.time) →
       exec (.switchingPeriodStart r) s = .next (s.setRail r { x with
         gate := true, period := some s.time, perLen := 8000 / 2 ^ s.rf (rBST_CFG r) 30 29 }).settle) ∧
     (∀ p, x.period = some p → x.gate = true →
       (p + 100 ≤ s.time + ofs → x.ipk ≤ (if x.st = 1 then 2 * mv.val else mv.val) →
         exec (.ipkCrossing r ⟨ofs, mv⟩) s = .next (s.setRail r { x with gate := false }).settle) ∧
       (s.time + ofs < p + 100 ∨ (if x.st = 1 then 2 * mv.val else mv.val) < x.ipk → exec (.ipkCrossing r ⟨ofs, mv⟩) s = .next s.settle) ∧
       (p + 9 * x.perLen / 10 < s.time + 4 → exec (.switchingDutyLimit r) s = .next (s.setRail r { x with gate := false }).settle)))

/-- The limits of START (R203, R204): 1 ms after its beginning a rail more than 5.0 V below VSUP goes to FAULT, one that is not may
switch; after START_TMO it goes to FAULT. The hold switch turns off at TMAX and the cut is counted and shown in the journal's status; its
word is refused while it is on, or where the lane it names may not be a hold switch (R215, R217); a setpoint word is stored and
BST_ADAPT restarts the window (R201, R209), and waits where its register's clock is stopped (R451). -/
def Obligations.StartLimitsAndRailWords : Prop :=
  (∀ (s : State) (r : Fin 8), s.live = true → s.time % 64 = 0 → s.inRun = true → s.rb (rBST_CFG r) 31 = true → (s.rail r).st = 1 →
     ((s.rail r).startAt + 1000000 ≤ s.time → (s.rail r).quietDone = false →
       ((s.rail r).vb + 50 < s.vsup → exec (.startQuietEnd r) s = .next (s.railFault r 1).settle) ∧
       (s.vsup ≤ (s.rail r).vb + 50 → exec (.startQuietEnd r) s = .next (s.setRail r { s.rail r with quietDone := true }).settle)) ∧
     ((s.rail r).startAt + 1000000 * max 1 (s.rf (rBST_CFG r) 23 16) ≤ s.time → (s.rail r).quietDone = true ∨ s.vsup ≤ (s.rail r).vb + 50 →
       exec (.startTimeout r) s = .next (s.railFault r 2).settle)) ∧
  (∀ (s : State) (v : Word), s.live = true →
     (∀ t, s.holdAt = some t → s.time % 64 = 0 → t + 250000 * max 1 (s.rf rBST_HOLD 7 0) ≤ s.time →
       ∀ u, u = (if s.rf rBST_HOLD 27 20 < 192 then s.drive (s.rf rBST_HOLD 27 20) false s.time else s) →
       exec .holdSwitchTimeout s = .next ((({ u with holdAt := none, holdOffAt := u.time } : State).bump rBST_GSTAT 7 0).setRb rJRN_STAT 5 true).settle) ∧
     (∀ t, s.holdAt = some t → exec (.bstHoldWrite v) s = .next (s.setRb rBST_GSTAT 30 true).settle) ∧
     (s.holdAt = none → s.holdLaneOk (fld v 30 28) (fld v 27 20) = false → exec (.bstHoldWrite v) s = .next (s.setRb rBST_GSTAT 30 true).settle) ∧
     (s.holdAt = none → s.holdLaneOk (fld v 30 28) (fld v 27 20) = true →
       exec (.bstHoldWrite v) s = .next (s.setReg rBST_HOLD (v &&& 0x7FFFFCFF)).settle) ∧
     (∀ r : Fin 8,
       (s.trayWait (rBST_SET r) = false → exec (.boostSetpointWrite r false v) s = .next (s.setReg (rBST_SET r) (v &&& 0x3FF)).settle) ∧
       (s.trayWait (rBST_ADAPT r) = false → exec (.boostSetpointWrite r true v) s =
         .next ((s.setReg (rBST_ADAPT r) (v &&& 0x7FFFFFFF)).setRail r { s.rail r with winPend := true }).settle) ∧
       (s.trayWait (rBST_SET r) = true → exec (.boostSetpointWrite r false v) s = .next { s with barWait := s.barWait ++ [(rBST_SET r, v)] }.settle)))

/-! ### Host link, queues and commands (chapters 9 to 11) -/

/-- A poll due on an idle engine that may issue requests begins in the core cycle that holds the moment it fell due, and reads the 448
bytes of the doorbell page from DB_BASE, in requests as R252 splits them; not due, disabled, or with a poll outstanding nothing happens
(R262). POLL_DATA takes the heartbeat, then the mailbox words, then the consumed positions, the producer words and the fetch ranges, and
ends the poll, after which one that has fallen due begins late (R262, R271). Host liveness: with the watch on and TIMEOUT units of
100,000 ns gone since the reference, HOST_LOST sets its flag, sends an HB that says so, moves the reference, and with HOST_LOST_ACT
latches SAFE cause 3 (R264, R265); HB_SEND repeats HB each quarter of TIMEOUT; a slave acts the same TIMEOUT after its own reference
(R337). -/
def Obligations.PollsReadThePageAndWatchTheHost : Prop :=
  (∀ (s : State), s.live = true → s.master = true →
     let page : Rd := { kind := 0, arg := 0, addr := s.addrAt rDB_BASE_LO, len := 0x1C0 }
     (s.rb rDB_POLL 31 = true → s.poll.busy = false → s.dmaOk = true → s.pollDue < s.time + 4 →
       exec .doorbellPoll s = .next (({ s with poll := { s.poll with last := some (max s.pollDue s.time), busy := true } } : State).hostRead page).settle) ∧
     (s.rb rDB_POLL 31 = false ∨ s.poll.busy = true ∨ s.dmaOk = false ∨ s.time + 4 ≤ s.pollDue → exec .doorbellPoll s = .next s.settle) ∧
     (∀ d : BitVec 3584, ((∃ r ∈ s.reads, r.kind = 0) → (∀ r ∈ s.reads, r.kind = 0 → r.tag.isSome = true) →
         exec (.pollData d) s = .next
           (((((({ s with reads := s.reads.filter (fun (r : Rd) => r.kind ≠ 0) } : State).issueReads.takeHeartbeat (pageField d 0x100 4)).takeWords
             (fun g => (pageField d (0x140 + 8 * g) 4, pageField d (0x144 + 8 * g) 4))).takeQueueWords d).pollEnd)).settle) ∧
       ((∀ r ∈ s.reads, r.kind ≠ 0) ∨ (∃ r ∈ s.reads, r.kind = 0 ∧ r.tag = none) → exec (.pollData d) s = .next s.settle))) ∧
  (∀ (s : State), let u := { s with poll := { s.poll with busy := false } }
     (s.rb rDB_POLL 31 = true → s.dmaOk = true → s.pollDue ≤ s.time → s.pollEnd = ({ (u.bump rHL_STAT 15 8) with
       poll := { s.poll with last := some s.time, busy := true } } : State).hostRead
         { kind := 0, arg := 0, addr := s.addrAt rDB_BASE_LO, len := 0x1C0 }) ∧
     (s.rb rDB_POLL 31 = false ∨ s.dmaOk = false ∨ s.time < s.pollDue → s.pollEnd = u)) ∧
  (∀ (s : State), s.live = true →
     (s.master = true → s.rb rHL_LIVE 31 = true →
       (s.poll.ref + 100000 * s.liveTmo < s.time + 4 →
         let u := (s.setRb rHL_STAT 24 true).sendHb true
         let v := { u with poll := { u.poll with ref := u.time } }
         exec .hostLost s = .next (if v.hostLostAct then v.latchCause 3 else v).settle) ∧
       (s.time + 4 ≤ s.poll.ref + 100000 * s.liveTmo → exec .hostLost s = .next s.settle) ∧
       (s.poll.hbSent + 25000 * s.liveTmo < s.time + 4 →
         exec .hbSend s = .next ({ s with poll := { s.poll with hbSent := s.time } }.sendHb false).settle) ∧
       (s.time + 4 ≤ s.poll.hbSent + 25000 * s.liveTmo → exec .hbSend s = .next s.settle)) ∧
     (s.master = false ∨ s.rb rHL_LIVE 31 = false → exec .hostLost s = .next s.settle ∧ exec .hbSend s = .next s.settle) ∧
     (s.master = false → s.poll.hbEn = true → s.poll.ref + 100000 * max s.poll.hbTmo 1 < s.time + 4 →
       exec .slaveHostLost s = .next s.slaveLost.settle) ∧
     (s.master = true ∨ s.poll.hbEn = false ∨ s.time + 4 ≤ s.poll.ref + 100000 * max s.poll.hbTmo 1 →
       exec .slaveHostLost s = .next s.settle))

/-- A PCIe reset clears the LINK domain, BME, the power state and (but for a function-level reset) the trained link, counts a hot reset,
and returns reads in flight to those waiting, and the BAR0 accesses on their way there are lost; LINK_UP records speed and width; a
configuration write acts on its register while the link is up and takes the function's ID from the request; a BAR2 write reaches the
MSI-X table alone, and without a decoding BAR is answered as an Unsupported Request (R249 to R257, R450). A read that returns data frees
its tag and gives the data to the command or the slave's access that waits for it; one that fails or times out frees its tag, counts in
its own field of HL_ERR and sets ERR (R255). DB_POLL and HL_LIVE change as one write; what would leave the watch without polls, or stop
it against HOST_LOST_ACT, is refused whole with CFG_REJ; a read of ID_UID_LO takes the shadow of the upper half (R261, R262, R264,
R265). -/
def Obligations.LinkEventsReadsAndHostRegisters : Prop :=
  (∀ (s : State), s.live = true →
     (s.master = true → ∀ (l : List Rd) (u : State), l = (s.reads.filter (fun r => r.kind != 4)).map (fun r => { r with tag := none }) →
       u = ({ s with link := {}, barWait := [], reads := l } : State).setRf rHL_STAT 26 25 0 →
       exec (.pcieReset 0) s = .next (u.setRf rHL_STAT 31 27 0).settle ∧
       exec (.pcieReset 1) s = .next (u.setRf rHL_STAT 31 27 0).settle ∧
       exec (.pcieReset 2) s = .next ((u.setRf rHL_STAT 31 27 0).bump rHL_STAT 7 0).settle ∧
       exec (.pcieReset 3) s = .next (u.bump rXING_CNT 15 8).settle) ∧
     (∀ speed width : Fin 4, s.master = true → s.rb rHL_STAT 31 = false →
       exec (.linkUp speed width) s = .next ((s.setRf rHL_STAT 31 27 (16 + 4 * speed.val + width.val)).bump rXING_CNT 15 8).settle) ∧
     (∀ (speed width k : Fin 4), (s.master = false → exec (.pcieReset k) s = .next s.settle) ∧
       (s.master = false ∨ s.rb rHL_STAT 31 = true → exec (.linkUp speed width) s = .next s.settle))) ∧
  (∀ (s : State) (id : BitVec 16), s.live = true → s.master = true → s.rb rHL_STAT 31 = true →
     ∀ u : State, u = { s with link := { s.link with id := id.toNat } } →
       (∀ mse bme, exec (.configSpaceWrite ⟨.command mse bme, id⟩) s =
         .next (({ u with link := { u.link with mse := mse } }.setRb rHL_STAT 26 bme).dmaResume).settle) ∧
       (∀ d3, exec (.configSpaceWrite ⟨.power d3, id⟩) s = .next ((u.setRb rHL_STAT 25 d3).dmaResume).settle) ∧
       (∀ en mask, exec (.configSpaceWrite ⟨.msix en mask, id⟩) s =
         .next ({ u with link := { u.link with msixEn := en, msixMask := mask } }.msixRelease).settle) ∧
       (∀ mps mrrs, exec (.configSpaceWrite ⟨.deviceControl mps mrrs, id⟩) s = .next ({ u with link := { u.link with mps := mps, mrrs := mrrs } } : State).settle) ∧
       (∀ t, exec (.configSpaceWrite ⟨.deviceControl2 t, id⟩) s = .next ({ u with link := { u.link with timeout := t } } : State).settle) ∧
       (∀ a, exec (.configSpaceWrite ⟨.linkControl a, id⟩) s = .next ({ u with link := { u.link with aspm := a.val / 2 * 2 } } : State).settle) ∧
       (∀ r v, exec (.configSpaceWrite ⟨.aer r v, id⟩) s = .next ({ u with link := u.link.aerWrite r v } : State).settle) ∧
       (∀ a, exec (.configSpaceWrite ⟨.bar false a, id⟩) s = .next ({ u with link := { u.link with bar0 := a.toNat - a.toNat % 0x10000 } } : State).settle ∧
         exec (.configSpaceWrite ⟨.bar true a, id⟩) s = .next ({ u with link := { u.link with bar2 := a.toNat - a.toNat % 0x1000 } } : State).settle) ∧
       (∀ o v, exec (.configSpaceWrite ⟨.other o v, id⟩) s = .next u.settle)) ∧
  (∀ (s : State) (w : CfgWrite) (id : BitVec 16) (x : Fin 1024) (v : Word), s.live = true →
     (s.master = false ∨ s.rb rHL_STAT 31 = false →
       exec (.configSpaceWrite ⟨w, id⟩) s = .next s.settle ∧ exec (.msixTableWrite x v) s = .next s.settle) ∧
     (s.master = true → s.rb rHL_STAT 31 = true → s.link.mse = false ∨ s.rb rHL_STAT 25 = true →
       exec (.msixTableWrite x v) s = .next ({ s with link := { s.link with aerStat := setBit s.link.aerStat 20 true } } : State).settle) ∧
     (s.master = true → s.rb rHL_STAT 31 = true → s.link.mse = true → s.rb rHL_STAT 25 = false →
       (x.val < 64 → exec (.msixTableWrite x v) s = .next
         ({ s with link := { s.link with table := tabSet (if x.val % 4 = 3 then 1 else 0) s.link.table x v } }.msixRelease).settle) ∧
       (64 ≤ x.val → exec (.msixTableWrite x v) s = .next s.settle))) ∧
  (∀ (s : State) (t : Fin 16) (d : BitVec 4096), s.live = true →
     (∀ r : Rd, s.reads.find? (fun x => x.tag == some t.val) = some r →
       ∀ u : State, u = { s with reads := s.reads.filter (fun x => x.tag != some t.val) }.issueReads →
       (2 ≤ r.kind → exec (.dmaReadCompletion t 0 d) s = .next (u.readData r d.toNat).settle) ∧
       exec (.dmaReadCompletion t 1 d) s = .next (((u.bump rHL_ERR 23 16).setRb rHL_STAT 23 true).readFailed r).settle ∧
       exec (.dmaReadCompletion t 2 d) s = .next ((((u.aerNote 12).bump rHL_ERR 15 8).setRb rHL_STAT 23 true).readFailed r).settle ∧
       exec (.completionTimeout t) s = .next ((((u.aerNote 14).bump rHL_ERR 31 24).setRb rHL_STAT 23 true).readFailed r).settle) ∧
     ((∀ r ∈ s.reads, r.tag ≠ some t.val) → (∀ st, exec (.dmaReadCompletion t st d) s = .next s.settle) ∧
       exec (.completionTimeout t) s = .next s.settle)) ∧
  (∀ (s : State) (v : Word), s.live = true →
     exec .idUidLoRead s = .next (s.setReg rID_UID_HI (BitVec.ofNat 32 (s.uid / 2 ^ 32))).settle ∧
     (s.master = false → exec (.dbPollWrite v) s = .next s.settle ∧ exec (.hlLiveWrite v) s = .next s.settle) ∧
     (s.master = true → ∀ was on pollOn : Bool, was = s.rb rHL_LIVE 31 → pollOn = s.rb rDB_POLL 31 → on = bit v 31 →
       (pollOn = true → on = false → was = true → exec (.dbPollWrite v) s = .next (s.setRb rHL_STAT 22 true).settle) ∧
       (pollOn = true → on = false → was = false → exec (.dbPollWrite v) s = .next (s.setReg rDB_POLL (v &&& 0x800000FF)).settle) ∧
       (on = true → pollOn = true → exec (.dbPollWrite v) s = .next (s.setReg rDB_POLL (v &&& 0x800000FF)).settle) ∧
       (on = true → pollOn = false → exec (.dbPollWrite v) s =
         .next (({ s with poll := { s.poll with last := none } } : State).setReg rDB_POLL (v &&& 0x800000FF)).settle) ∧
       (on = false → pollOn = false → exec (.dbPollWrite v) s = .next (s.setReg rDB_POLL (v &&& 0x800000FF)).settle) ∧
       (on = true → was = false → pollOn = false → exec (.hlLiveWrite v) s = .next (s.setRb rHL_STAT 22 true).settle) ∧
       (on = true → was = false → pollOn = true → exec (.hlLiveWrite v) s =
         .next (({ s with poll := { s.poll with ref := s.time, hbSent := s.time } } : State).setReg rHL_LIVE (v &&& 0x8000FFFF)).settle) ∧
       (on = false → was = true → s.hostLostAct = true → exec (.hlLiveWrite v) s = .next (s.setRb rHL_STAT 22 true).settle) ∧
       (on = was ∨ (on = false ∧ s.hostLostAct = false) → exec (.hlLiveWrite v) s = .next (s.setReg rHL_LIVE (v &&& 0x8000FFFF)).settle)))

/-- A fetched descriptor is judged (R273 to R276, R291, R298). A RESYNC is taken whatever its SEQ, or refused whole where a reserved
operand bit is set, and left for later while another is held. On a stalled queue pair, and at a limit of R276 unless it is an ABORT,
any other is left. One whose SEQ is not E counts and ends the range, and the third in a row stalls the pair; out of bounds a match is not
taken; an ABORT with SEQ E is kept apart, any other is accepted: E advances, the command takes a buffer entry, and an undefined opcode
or a target it may not name ends it at once. What the pair has next is then fetched. -/
def Obligations.FetchedDescriptorIsJudgedBySequence : Prop :=
  (∀ (s u : State) (q : Fin 32) (d : BitVec 256) (x : Qp), s.live = true → (∃ r ∈ s.reads, r.kind = 1 ∧ r.arg = q.val ∧ r.tag.isSome = true) →
     u = { s with reads := s.reads.filter (fun r => !(r.kind = 1 && r.arg = q.val)) }.issueReads → x = u.qp q →
     (∀ ops : BitVec 192, fld d 23 16 = 1 → ops = BitVec.ofNat 192 (fld d 255 64) →
       (x.resync.isSome = true → exec (.descriptorFetch q d) s = .next ((u.setQp q { x with fetchLeft := 0 }).fetchNext).settle) ∧
       (x.resync = none → fld ops 191 65 = 0 → exec (.descriptorFetch q d) s = .next (((u.setQp q { x with
         e := (fld d 15 0 + 1) % 65536, stall := false, retry := 0, fetchLeft := 0, oob := false, drain := bit ops 64,
         resync := some (fld d 15 0, fld d 63 48, fld d 31 24, ops) }).resyncStart q).fetchNext).settle) ∧
       (x.resync = none → fld ops 191 65 ≠ 0 → exec (.descriptorFetch q d) s =
         .next ((u.resyncRefused q (fld d 15 0) (fld d 63 48) (fld d 31 24)).fetchNext).settle)) ∧
     (fld d 23 16 ≠ 1 →
       (x.stall = true ∨ (fld d 23 16 ≠ 3 ∧ (64 ≤ u.cmds.length ∨ u.maxIf q ≤ u.inFlight q)) →
         exec (.descriptorFetch q d) s = .next ((u.setQp q { x with fetchLeft := 0 }).fetchNext).settle) ∧
       (x.stall = false → fld d 23 16 = 3 ∨ (u.cmds.length < 64 ∧ u.inFlight q < u.maxIf q) →
         (fld d 15 0 ≠ x.e →
           let v := (u.bump (rQP_CNT q) 23 16).setQp q { x with retry := x.retry + 1, fetchLeft := 0 }
           (x.retry < 2 → exec (.descriptorFetch q d) s = .next v.fetchNext.settle) ∧
           (2 ≤ x.retry → exec (.descriptorFetch q d) s = .next ((v.stallQp q (fld d 15 0) (fld d 63 48)).fetchNext).settle)) ∧
         (fld d 15 0 = x.e → x.oob = true → exec (.descriptorFetch q d) s = .next ((u.setQp q { x with fetchLeft := 0 }).fetchNext).settle) ∧
         (fld d 15 0 = x.e → x.oob = false → fld d 23 16 = 3 → exec (.descriptorFetch q d) s = .next (({ u.setQp q { x with
           e := (x.e + 1) % 65536, retry := 0, fetchLeft := x.fetchLeft - 1,
           aborts := x.aborts ++ [{ seq := x.e, tag := fld d 63 48, flags := fld d 31 24, ops := BitVec.ofNat 192 (fld d 255 64), ord := u.nextOrd, at_ := u.time }] }
             with nextOrd := u.nextOrd + 1 } : State).fetchNext).settle) ∧
         (fld d 15 0 = x.e → x.oob = false → fld d 23 16 ≠ 3 → exec (.descriptorFetch q d) s = .next ((u.accept q d).fetchNext).settle)))) ∧
  (∀ (s : State) (q : Fin 32) (d : BitVec 256), s.live = true → (∀ r ∈ s.reads, r.kind = 1 → r.arg = q.val → r.tag = none) →
     exec (.descriptorFetch q d) s = .next s.settle) ∧
  (∀ (u v : State) (q : Nat) (d : BitVec 256) (c : Cmd), c = {
       ord := u.nextOrd, ent := u.freeEntry, qp := q, seq := fld d 15 0, tag := fld d 63 48, opcode := fld d 23 16
       flags := fld d 31 24, target := fld d 47 32, ops := BitVec.ofNat 192 (fld d 255 64) } →
     v = ({ u with nextOrd := u.nextOrd + 1, cmds := u.cmds ++ [c] }.rewrote 8 (7 * c.ent) 7).setQp q
       { u.qp q with e := ((u.qp q).e + 1) % 65536, retry := 0, fetchLeft := (u.qp q).fetchLeft - 1 } →
     (opDefined c.opcode = false → u.accept q d = v.finishFrom c 0 v.time 0x10 0) ∧
     (opDefined c.opcode = true → v.targetOk c.opcode c.target = false → u.accept q d = v.finishFrom c 0 v.time 0x11 0) ∧
     (opDefined c.opcode = true → v.targetOk c.opcode c.target = true → u.accept q d = v))

/-- COMPLETION_WRITE on the master writes the next completion of its queue pair at CQ base + 32 x (CSEQ mod ring size) with the next
CSEQ, sets IRQ where it asks, and frees what it held; with a full ring, no bus mastering, or an ABORT's completion behind its victim's it
waits (R280, R281, R282, R285). On a slave the oldest completion goes to the master, an event completion one at a time (R332, R334).
RECORD_WRITE on the master: a hand-over that fits is written whole with the next RSEQ values; where the stream cannot take it every shot
record that waits for the stream is lost and counted, the next carries DISC, and other producers' records wait (R185, R286, R287). On a
slave it enters the outbox of 8 of its stream, whose oldest is sent while none is unanswered (R334). -/
def Obligations.CompletionsAndRecordsAreWritten : Prop :=
  (∀ (s : State) (q : Fin 32), s.live = true → s.master = true →
     (∀ c, s.cplNext q = some c → s.dmaOk = true → s.qpEn q = true →
       let u := (s.setQp q { s.qp q with wait := (s.qp q).wait.erase c, nextCseq := ((s.qp q).nextCseq + 1) % 65536 }).hostWrite
         (s.addrAt (rQP_CQ_LO q) + 32 * ((s.qp q).nextCseq % s.cqSize q)) 32 (c.bytes (s.qp q).nextCseq)
       exec (.completionWrite q) s = .next ((if c.irq then u.setRb (rQP_STAT q) 28 true else u).cplGone c).settle) ∧
     (s.cplNext q = none ∨ s.dmaOk = false ∨ s.qpEn q = false → exec (.completionWrite q) s = .next s.settle)) ∧
  (∀ (s : State) (q : Nat) (c : Cpl) (l : List Cpl), (s.qp q).wait = c :: l →
     (s.cplHeld c = false → s.cplFree q c = true ∨ s.cqRoom q = true → s.cplNext q = some c) ∧
     (s.cqRoom q = false → (∀ x ∈ c :: l, s.cplFree q x = false) → s.cplNext q = none) ∧
     ((∀ x ∈ c :: l, s.cplHeld x = true) → s.cplNext q = none)) ∧
  (∀ (s : State) (q : Fin 32) (c : Cpl), s.live = true → s.master = false → s.fwd.find? (fun x => x.qp = q.val && !s.cplHeld x) = some c →
     (c.slot = none → exec (.completionWrite q) s =
       .next ((({ s with fwd := s.fwd.erase c }).sendTo 0x11 0 (c.tage.getD 0) 32 (c.bytes 0)).cplGone c).settle) ∧
     (c.slot ≠ none → (∃ u ∈ s.ring.unans, u.key = 8) ∨ s.fwd.find? (fun x => x.slot.isSome) ≠ some c →
       exec (.completionWrite q) s = .next s.settle) ∧
     (c.slot ≠ none → (∀ u ∈ s.ring.unans, u.key ≠ 8) → s.fwd.find? (fun x => x.slot.isSome) = some c →
       exec (.completionWrite q) s = .next (({ s with ring := { s.ring with unans := s.ring.unans ++ [({ key := 8, sent := s.time } : Unans)] } }).sendTo
         0x12 0 (s.tage 8) 32 (c.bytes 0)).settle)) ∧
  (∀ (s : State) (r : Fin 8), s.live = true → s.master = true →
     (∀ h, s.firstHand r = some h →
       (s.rsNoRoom r h.entries.length = false → s.dmaOk = true → exec (.recordWrite r) s = .next (s.writeHand r h).settle) ∧
       (s.rsNoRoom r h.entries.length = true → ∀ l : List Hand, l = s.hands.filter (fun h => h.prod == 1 && h.rs == r.val) →
         (l ≠ [] → exec (.recordWrite r) s = .next ((({ s with hands := s.hands.filter (fun h => !(h.prod == 1 && h.rs == r.val)) }).bumpN
           rSFB_CNT_C 31 16 l.length).setRs r { s.rs r with disc := true }).settle) ∧
         (l = [] → exec (.recordWrite r) s = .next s.settle)) ∧
       (s.dmaOk = false → s.rsNoRoom r h.entries.length = false → exec (.recordWrite r) s = .next s.settle)) ∧
     (s.firstHand r = none → exec (.recordWrite r) s = .next s.settle)) ∧
  (∀ (s u : State) (r : Fin 8), s.live = true → s.master = false →
     (∀ h, s.firstHand r = some h → s.outFill r + h.entries.length ≤ 8 → u = s.intoOutbox r h) →
     (∀ h, s.firstHand r = some h → 8 < s.outFill r + h.entries.length → u = s.loseShots r) →
     (s.firstHand r = none → u = s) →
     (∀ h, u.ring.outbox.find? (fun h => h.rs = r.val) = some h → (∀ x ∈ u.ring.unans, x.key ≠ r.val) → exec (.recordWrite r) s =
       .next (({ u with ring := { u.ring with unans := u.ring.unans ++ [({ key := r, sent := u.time } : Unans)] } }).sendRecord r h).settle) ∧
     (u.ring.outbox.find? (fun h => h.rs = r.val) = none ∨ (∃ x ∈ u.ring.unans, x.key = r.val) → exec (.recordWrite r) s = .next u.settle))

/-- A RESYNC finishes once, with DRAIN, nothing of its pair is in flight, and its buffer can be written: it writes the view, and its
completion carries the last accepted SEQ, the CSEQ it gets and the commands in flight; a BUF_ADDR off 64 bytes gives BAD_OPERAND and
writes nothing; until then it waits (R291, R299). ABORT: with malformed operands it ends BAD_OPERAND; a victim that has been forwarded is
decided by its slave; any other at F, the first 64-count boundary after the acceptance: past its commit point the ABORT ends
COMPLETED_BEFORE_ABORT behind it, before it both end ABORTED, and none in flight gives SEQ 0xFFFF (R284, R285, R336). A slave decides
each forwarded abort at its own F. -/
def Obligations.ResyncAndAbortAreDecided : Prop :=
  (∀ (s : State) (q : Fin 32), s.live = true →
     ((s.qp q).resync = none → exec (.resync q) s = .next s.settle) ∧
     (∀ (seq tag flags : Nat) (ops : BitVec 192), (s.qp q).resync = some (seq, tag, flags, ops) →
       ((s.qp q).drain = true → s.inFlight q ≠ 0 → exec (.resync q) s = .next s.settle) ∧
       (fld ops 63 0 ≠ 0 → fld ops 63 0 % 64 = 0 → s.dmaOk = false → exec (.resync q) s = .next s.settle) ∧
       ((s.qp q).drain = false ∨ s.inFlight q = 0 → ∀ (x : Qp) (n : Nat) (ready held : List Cpl) (w : Nat → Cpl), x = s.qp q →
         ready = x.wait.filter (fun c => !s.cplHeld c) → held = x.wait.filter (fun c => s.cplHeld c) →
         n = (if x.drain = true then min ready.length (s.cqFree q) else ready.length) →
         (∀ st, w st = ({ qp := q, opcode := 1, status := s.statusByte st, tag := tag, seq := seq, time := s.time
                          result := pack [(15, 0, x.e + 65535), (31, 16, (x.nextCseq + n) % 65536), (39, 32, s.inFlight q)]
                          irq := flags / 4 % 2 = 1, free := x.drain } : Cpl)) →
         let qp (st : Nat) : Qp := { x with resync := none, drain := false, wait := ready.take n ++ w st :: (ready.drop n ++ held) }
         (fld ops 63 0 = 0 → exec (.resync q) s = .next (s.setQp q (qp 0)).settle) ∧
         (fld ops 63 0 % 64 ≠ 0 → exec (.resync q) s = .next (s.setQp q (qp 0x16)).settle) ∧
         (fld ops 63 0 ≠ 0 → fld ops 63 0 % 64 = 0 → s.dmaOk = true →
           exec (.resync q) s = .next ((s.hostWrite (fld ops 63 0) 320 (s.view q)).setQp q (qp 0)).settle)))) ∧
  (∀ (s : State) (q : Fin 32), s.live = true →
     exec (.abort q) s = .next ((s.qp q).aborts.foldl (fun (y : State) r => y.abortOne q false r) s).settle ∧
     (s.master = true → exec (.abortDecision q) s = .next ((s.qp q).aborts.foldl
       (fun (y : State) r => if y.time % 64 = 0 ∧ r.at_ < y.time then y.abortOne q true r else y) s).settle) ∧
     (s.master = false → exec (.abortDecision q) s = .next ((s.ring.aborts.filter (fun r => s.isF r.at_)).foldl
       (fun (y : State) r => y.abortHere r) { s with ring := { s.ring with aborts := s.ring.aborts.filter (fun r => !s.isF r.at_) } }).settle)) ∧
  (∀ (s : State) (q : Nat) (r : AbortRq), r.fwd = none →
     (fld r.ops 191 17 ≠ 0 → ∀ f, s.abortOne q f r = s.abortDone q r 0 0x16 0 false) ∧
     (fld r.ops 191 17 = 0 →
       (s.victim q r = none → s.abortOne q false r = s ∧ s.abortOne q true r = s.abortDone q r 0 3 0xFFFF false) ∧
       (∀ c, s.victim q r = some c → (s.away c = true → ∀ f, s.abortOne q f r = s.abortForward q r c) ∧
         (s.away c = false → s.abortOne q false r = s ∧
           (c.past = true → s.abortOne q true r = s.abortDone q r 0 3 c.seq true (some c.ord)) ∧
           (c.past = false → s.abortOne q true r = (s.abortCmd c).abortDone q r 0 2 c.seq true))))) ∧
  (∀ (s : State) (r : FwdAbort) (c : Cmd), s.cmds.find? (fun c => c.ring.map Prod.snd == some r.tage) = some c →
     let cpl (u : State) (st : Nat) (after : Option Nat) : Cpl :=
       { qp := c.qp, opcode := 3, status := u.statusByte st, time := u.time, result := c.seq + 65536, tage := some r.tage, after := after }
     (c.past = true → s.abortHere r = s.post (cpl s 3 (some c.ord))) ∧
     (c.past = false → s.abortHere r = (s.abortCmd c).post (cpl (s.abortCmd c) 2 none)))

/-- QP_CFG and RS_CFG: while enabled, a write that would change another bit is rejected; an enabling write with a ring size out of 4 to
16 leaves the pair disabled and rejected; an allowed one starts it with everything at reset; a pair with work in flight is not
disabled, and disabling drops its descriptor reads (R289, R293, R295, R296). A slave has neither. -/
def Obligations.QueueAndStreamSetupIsGuarded : Prop :=
  (∀ (s : State) (q : Fin 32) (r : Fin 8) (v m k : Word), s.live = true → s.master = true → m = v &&& 0x9F1F7F00 → k = v &&& 0x9F000000 →
    (bit (s.reg (rQP_CFG q)) 31 = false →
      (bit m 31 = false → exec (.qpCfgWrite q v) s = .next (s.setReg (rQP_CFG q) m).settle) ∧
      (bit m 31 = true → 4 ≤ fld m 28 24 → fld m 28 24 ≤ 16 → 4 ≤ fld m 20 16 → fld m 20 16 ≤ 16 →
        exec (.qpCfgWrite q v) s = .next ((s.setReg (rQP_CFG q) m).setQp q {}).settle) ∧
      (bit m 31 = true → fld m 28 24 < 4 ∨ 16 < fld m 28 24 ∨ fld m 20 16 < 4 ∨ 16 < fld m 20 16 →
        exec (.qpCfgWrite q v) s = .next ((s.setReg (rQP_CFG q) (setBit m 31 false)).setRb (rQP_STAT q) 29 true).settle)) ∧
    (bit (s.reg (rQP_CFG q)) 31 = true →
      ∀ u : State, (setBit m 31 true = s.reg (rQP_CFG q) → u = s) → (setBit m 31 true ≠ s.reg (rQP_CFG q) → u = s.setRb (rQP_STAT q) 29 true) →
      (bit m 31 = true → exec (.qpCfgWrite q v) s = .next u.settle) ∧
      (bit m 31 = false → s.inFlight q ≠ 0 ∨ (s.qp q).wait ≠ [] ∨ s.qpArmed q = true →
        exec (.qpCfgWrite q v) s = .next (u.setRb (rQP_STAT q) 29 true).settle) ∧
      (bit m 31 = false → s.inFlight q = 0 → (s.qp q).wait = [] → s.qpArmed q = false →
        exec (.qpCfgWrite q v) s = .next (((u.setRb (rQP_CFG q) 31 false).dropFetch q).setQp q { s.qp q with fetchLeft := 0 }).settle)) ∧
    (bit (s.reg (rRS_CFG r)) 31 = false →
      (bit v 31 = false → exec (.rsCfgWrite r v) s = .next (s.setReg (rRS_CFG r) k).settle) ∧
      (bit v 31 = true → 4 ≤ fld v 28 24 → fld v 28 24 ≤ 16 → exec (.rsCfgWrite r v) s =
        .next (((s.setReg (rRS_CFG r) k).setRs r { disc := (s.rs r).disc }).rsNote r).settle) ∧
      (bit v 31 = true → fld v 28 24 < 4 ∨ 16 < fld v 28 24 → exec (.rsCfgWrite r v) s =
        .next ((s.setReg (rRS_CFG r) (setBit k 31 false)).setRb (rRS_STAT r) 30 true).settle)) ∧
    (bit (s.reg (rRS_CFG r)) 31 = true →
      ∀ u : State, (setBit k 31 true = s.reg (rRS_CFG r) → u = s) → (setBit k 31 true ≠ s.reg (rRS_CFG r) → u = s.setRb (rRS_STAT r) 30 true) →
      (bit v 31 = true → exec (.rsCfgWrite r v) s = .next u.settle) ∧
      (bit v 31 = false → exec (.rsCfgWrite r v) s = .next ((u.setRb (rRS_CFG r) 31 false).rsNote r).settle))) ∧
  (∀ (s : State) (q : Fin 32) (r : Fin 8) (v : Word), s.live = true → s.master = false →
    exec (.qpCfgWrite q v) s = .next s.settle ∧ exec (.rsCfgWrite r v) s = .next s.settle)

/-- LOAD_TABLE and READ_TABLE judge KIND, buffer, index and counts in one order, reading their image first, one command at a time; an
empty load executes at once; a table of a domain that is not UNSYNC or HALTED is refused DOMAIN_ACTIVE, a Pretzel load into a group with
a running engine STATE_REFUSED; an image that could not be read or written is BAD_TABLE; an image whose words break a rule of Table 2.15
is BAD_TABLE with the entry and reason, and only a tooth table keeps its entries then; a good one is stored, and of a tooth table with
COMMIT the length and offset too, the corrections zero until the journal restores them (R53 to R55, R85, R136, R302, R303). -/
def Obligations.TableCommandsJudgeTheirOperands : Prop :=
  (∀ (s u : State) (e : Fin 64) (c : Cmd), u = s.start c → u.tableTurn (s.go c) = true → c.phase = 0 →
    (∀ x, s.begins 0x12 e c → tableOperands c false = some x →
      exec (.loadTable e) s = .next (u.finish (s.go c) 0x15 (tableResult 0 0xFFFF x)).settle) ∧
    (s.begins 0x12 e c → tableOperands c false = none → c.tCount = 0 → exec (.loadTable e) s = .next (u.loadRun (s.go c)).settle) ∧
    (s.begins 0x12 e c → tableOperands c false = none → 0 < c.tCount → exec (.loadTable e) s =
      .next ((u.modCmd c.ord (fun x => { x with phase := 1 })).fetchStart c.ord c.tBuf (tableBytes c.tKind * c.tCount)).settle) ∧
    (∀ x, s.begins 0x13 e c → tableOperands c true = some x →
      exec (.readTable e) s = .next (u.finish (s.go c) 0x15 (tableResult 0 0xFFFF x)).settle) ∧
    (s.begins 0x13 e c → tableOperands c true = none → ∀ w : State,
      w = (u.modCmd c.ord (fun x => { x with phase := 1, result := u.readResult c })).bufWrite c.ord c.tBuf
        (tableBytes c.tKind * c.tCount) (u.tableImage c.tKind c.tIdx c.tFirst c.tCount) →
      (u.bufReady c.ord = false → exec (.readTable e) s = .next u.settle) ∧
      (u.bufReady c.ord = true → w.bufReady c.ord = true →
        exec (.readTable e) s = .next (w.finish (s.go c) 0 (u.readResult c)).settle) ∧
      (u.bufReady c.ord = true → w.bufReady c.ord = false → exec (.readTable e) s = .next w.settle))) ∧
  (∀ (s : State) (e : Fin 64) (c : Cmd), s.tableTurn c = true → c.phase = 1 →
    (s.runsOn 0x12 e c →
      (c.failed = true → exec (.loadTable e) s = .next (s.finish c 0x15 (tableResult 0 0xFFFF 8)).settle) ∧
      (c.failed = false → c.ready = true → exec (.loadTable e) s = .next (s.loadRun c).settle) ∧
      (c.failed = false → c.ready = false → exec (.loadTable e) s = .next s.settle)) ∧
    (s.runsOn 0x13 e c →
      (c.failed = true → exec (.readTable e) s = .next (s.finish c 0x15 (tableResult 0 0xFFFF 8)).settle) ∧
      (c.failed = false → s.bufReady c.ord = true → exec (.readTable e) s = .next (s.finish c 0 c.result).settle) ∧
      (c.failed = false → s.bufReady c.ord = false → exec (.readTable e) s = .next s.settle))) ∧
  (∀ (s : State) (e : Fin 64) (c : Cmd), s.tableTurn c = false →
    (s.runsOn 0x12 e c → exec (.loadTable e) s = .next s.settle) ∧ (s.runsOn 0x13 e c → exec (.readTable e) s = .next s.settle)) ∧
  (∀ (s : State) (c : Cmd),
    (c.tKind ≤ 1 → s.domBusy c.tIdx = true → s.loadRun c = s.finish c 0x24 (tableResult 0 0xFFFF 0)) ∧
    (c.tKind = 0 → s.domBusy c.tIdx = false → s.loadRun c = s.loadTooth c) ∧
    (c.tKind = 1 → s.domBusy c.tIdx = false →
      ((s.dom c.tIdx).tableValid = false → s.loadRun c = s.finish c 0x15 (tableResult 0 0xFFFF 0x0A)) ∧
      ((s.dom c.tIdx).tableValid = true → ∀ i r, i < c.tCount → s.corrFault c.tIdx (c.tFirst + i) (c.image i) = some r →
        (∀ k < i, s.corrFault c.tIdx (c.tFirst + k) (c.image k) = none) → s.loadRun c = s.finish c 0x15 (tableResult 0 (c.tFirst + i) r))) ∧
    (c.tKind = 2 → ∀ j f, j < c.tCount → (∀ k < j, profFault (fun i => BitVec.ofNat 128 (c.data / 2 ^ (1024 * k + 128 * i))) = none) →
      profFault (fun i => BitVec.ofNat 128 (c.data / 2 ^ (1024 * j + 128 * i))) = some f →
        s.loadRun c = s.finish c 0x15 (tableResult 0 (8 * (c.tFirst + j) + f.1) f.2)) ∧
    (c.tKind = 4 → s.groupStopped c.tIdx = false → s.loadRun c = s.finish c 0x17 (0x06 * 2 ^ 32)) ∧
    (c.tKind = 4 → s.groupStopped c.tIdx = true → s.loadRun c =
      ((below c.tCount).foldl (fun (x : State) i => x.pzStore c.tIdx (c.tFirst + i) (BitVec.ofNat 16 (c.data / 2 ^ (16 * i)))) s).finish c 0
        (tableResult c.tCount 0xFFFF 0)))

/-- The commands of the queues that run on the device, with what gives each its effect: in the core cycle its entry is taken a command
that has not started does nothing while something holds it back (R278); else it starts, goes to the slave it names in a frame (R318), or
is refused with the status of ownership or operands, a zero result and nothing else (R290, R298). NOP finishes OK; FENCE does so once what
it waits for has finished, and goes to a slave only then (R279, R300). What finishing a command leaves: with a completion due its entry
stays, done, and the completion waits in its queue pair with status, TAG, SEQ, TIME and result; with none due the entry is free (R276,
R280). -/
def Obligations.RingControlCommandsFinishAndReport : Prop :=
  (∀ (s : State) (e : Fin 64) (i : Fin 1024) (c : Cmd) (x : Nat × Instr), s.live = true → s.cmdAt e = some c → c.started = none →
     x ∈ [(0x00, Instr.nop e), (0x10, Instr.regWrite e), (0x11, Instr.regRead e), (0x12, Instr.loadTable e), (0x13, Instr.readTable e),
       (0x20, Instr.armEvent e), (0x21, Instr.armBatch e), (0x22, Instr.cancelEvent e), (0x23, Instr.forceOn e i), (0x24, Instr.forceOff e), (0x40, Instr.syncReset e),
       (0x41, Instr.setCycle e), (0x42, Instr.readAngle e), (0x50, Instr.actRead e), (0x51, Instr.actReenable e), (0x52, Instr.actUnfreeze e),
       (0x60, Instr.bstSetpoint e), (0x61, Instr.bstEnable e), (0x70, Instr.timerStart e), (0x71, Instr.timerStopArm e),
       (0x72, Instr.timerCapture e), (0x73, Instr.globalStart e), (0x80, Instr.pzInject e), (0x81, Instr.pzPush e), (0x82, Instr.pzPull e),
       (0x83, Instr.pzControl e), (0x90, Instr.jrnFlush e), (0x91, Instr.jrnRead e), (0x92, Instr.jrnWrite e), (0x93, Instr.jrnCompact e),
       (0xA0, Instr.krEnumerate e), (0xA1, Instr.krStatus e), (0xA2, Instr.krRejoin e), (0xB0, Instr.rsStatus e), (0xB1, Instr.logClose e),
       (0xB2, Instr.fifoStatus e)] → c.opcode = x.1 →
     (s.startable c = false → exec x.2 s = .next s.settle) ∧
     (s.startable c = true → s.here c = false → exec x.2 s = .next ((s.start c).forward (s.go c)).settle) ∧
     (∀ st, s.startable c = true → c.target = 0 → s.refusal c = some st → exec x.2 s = .next ((s.start c).finish (s.go c) st 0).settle)) ∧
  (∀ (s : State) (e : Fin 64) (c : Cmd),
     (s.begins 0 e c → exec (.nop e) s = .next ((s.start c).finish (s.go c) 0 0).settle) ∧
     (s.begins 2 e c → ((s.start c).fenced (s.go c) = true → exec (.fence e) s = .next ((s.start c).finish (s.go c) 0 0).settle) ∧
       ((s.start c).fenced (s.go c) = false → exec (.fence e) s = .next (s.start c).settle)) ∧
     (s.runsOn 2 e c → (s.fenced c = true → exec (.fence e) s = .next (s.finish c 0 0).settle) ∧
       (s.fenced c = false → exec (.fence e) s = .next s.settle)) ∧
     (s.live = true → s.cmdAt e = some c → c.opcode = 2 → s.here c = false →
       (c.started = none → s.startable c = false → exec (.fence e) s = .next s.settle) ∧
       (c.started = none → s.startable c = true → exec (.fence e) s = .next ((s.start c).fenceAway (s.go c)).settle) ∧
       (c.started.isSome = true → exec (.fence e) s = .next (s.fenceAway c).settle)) ∧
     ((c.phase = 0 → s.fenced c = true ∨ s.wellFormed c = false → s.fenceAway c = (s.modCmd c.ord (fun x => { x with phase := 1 })).forward c) ∧
       (c.phase ≠ 0 ∨ (s.fenced c = false ∧ s.wellFormed c = true) → s.fenceAway c = s))) ∧
  (∀ (s : State) (c : Cmd) (status result : Nat), c.ring = none → c.target = 0 → s.master = true → s.sealed = true →
     (c.flags % 2 = 1 ∨ 1 < status →
       (s.finish c status result).cmds =
         s.cmds.map (fun x => if x.ord = c.ord then { x with done := true, status := status, result := result } else x) ∧
       ((s.finish c status result).qp c.qp).wait = (s.qp c.qp).wait ++
         [{ qp := c.qp, opcode := c.opcode, status := status, tag := c.tag, seq := c.seq, time := s.time, source := 0, result := result
            irq := c.flags / 4 % 2 = 1, free := (s.qp c.qp).drain, cmd := some c.ord }]) ∧
     (c.flags % 2 = 0 → status ≤ 1 → s.finish c status result = { s with cmds := s.cmds.filter (fun x => x.ord ≠ c.ord) }))

/-- REG_WRITE writes one setup dword and returns what it then reads; REG_READ returns what it reads; one of a tray whose clocks are
stopped waits (R301, R451). The commands on a domain wait for its first slot after their start: there SYNC_RESET asks for UNSYNC with
cause 2, SET_CYCLE is refused in a domain that is not UNSYNC or HALTED and else sets the cycle, READ_ANGLE takes the snapshot and returns
it, with a buffer once it is written there (R61, R93, R309). -/
def Obligations.SetupAndDomainCommandsFinish : Prop :=
  (∀ (s : State) (e : Fin 64) (c : Cmd),
     (s.begins 0x10 e c → ∀ u, u = (s.start c).regWrite (c.opnd 8 11) (BitVec.ofNat 32 (c.opnd 12 15)) →
       ((s.start c).trayWait (c.opnd 8 11) = true → exec (.regWrite e) s = .next (s.start c).settle) ∧
       ((s.start c).trayWait (c.opnd 8 11) = false → u.live = true →
         exec (.regWrite e) s = .next (u.finish (s.go c) 0 (u.regRead (c.opnd 8 11)).toNat).settle) ∧
       ((s.start c).trayWait (c.opnd 8 11) = false → u.live = false → exec (.regWrite e) s = .next u.settle)) ∧
     (s.begins 0x11 e c →
       ((s.start c).trayWait (c.opnd 8 11) = true → exec (.regRead e) s = .next (s.start c).settle) ∧
       ((s.start c).trayWait (c.opnd 8 11) = false → exec (.regRead e) s = .next
         (((s.start c).readEffect (c.opnd 8 11)).finish (s.go c) 0 ((s.start c).regRead (c.opnd 8 11)).toNat).settle)) ∧
     (s.runsOn 0x10 e c → s.trayWait (c.opnd 8 11) = true → exec (.regWrite e) s = .next s.settle) ∧
     (s.runsOn 0x11 e c → s.trayWait (c.opnd 8 11) = true → exec (.regRead e) s = .next s.settle)) ∧
  (∀ (s : State) (e : Fin 64) (c : Cmd),
     (∀ i ∈ [(0x40, Instr.syncReset e), (0x41, Instr.setCycle e), (0x42, Instr.readAngle e)], s.begins i.1 e c → c.phase = 0 →
       exec i.2 s = .next ((s.start c).modCmd c.ord (fun x => { x with phase := 1 })).settle) ∧
     (∀ i ∈ [(0x40, Instr.syncReset e), (0x41, Instr.setCycle e), (0x42, Instr.readAngle e)], s.runsOn i.1 e c → c.phase = 1 →
       s.time % 16 ≠ 4 * c.byte 8 → exec i.2 s = .next s.settle) ∧
     (c.phase = 1 → s.time % 16 = 4 * c.byte 8 →
       (s.runsOn 0x40 e c → exec (.syncReset e) s =
         .next ((s.setDom (c.byte 8) { s.dom (c.byte 8) with row1 := some 2 }).finish c 0 0).settle) ∧
       (s.runsOn 0x41 e c → exec (.setCycle e) s = .next
         (if s.domBusy (c.byte 8) then s.finish c 0x24 0 else (s.cycleSet (c.byte 8) (c.byte 9 == 1)).finish c 0 0).settle) ∧
       (s.runsOn 0x42 e c → ∀ x : Snap × State, x = s.snapAt (c.byte 8) s.time →
         (c.opnd 16 23 = 0 → exec (.readAngle e) s = .next (x.2.finish c 0 x.1.result).settle) ∧
         (c.opnd 16 23 ≠ 0 → ∀ f : Cmd → Cmd, f = (fun y => { y with phase := 2, result := x.1.result, data := x.1.image, sentAt := x.1.time }) →
           exec (.readAngle e) s = .next ((x.2.modCmd c.ord f).angleWrite (f c)).settle))) ∧
     (s.runsOn 0x42 e c → 2 ≤ c.phase → exec (.readAngle e) s = .next (s.angleWrite c).settle)) ∧
  (∀ (s : State) (c : Cmd),
     (c.phase = 2 → s.bufReady c.ord = false → s.angleWrite c = s) ∧
     (c.phase = 2 → s.bufReady c.ord = true → s.master = true →
       s.angleWrite c = (s.bufWrite c.ord (c.opnd 16 23) 32 c.data).finishAt c c.sentAt 0 c.result) ∧
     (c.phase = 2 → s.bufReady c.ord = true → s.master = false →
       s.angleWrite c = (s.modCmd c.ord (fun x => { x with phase := 3 })).bufWrite c.ord (c.opnd 16 23) 32 c.data) ∧
     (c.phase = 3 → c.failed = true → s.angleWrite c = s.finishAt c c.sentAt 0x16 0) ∧
     (c.phase = 3 → c.failed = false → s.bufReady c.ord = true → s.angleWrite c = s.finishAt c c.sentAt 0 c.result) ∧
     (c.phase = 3 → c.failed = false → s.bufReady c.ord = false → s.angleWrite c = s))

/-- ACT_READ finishes in the LS lane's first slot after its start with the lane's latest word, or at once without an LS lane;
ACT_REENABLE enables the actuators it names that are disabled and whose cause is gone, and answers STATE_REFUSED where one is refused;
ACT_UNFREEZE resumes learning and returns which were frozen (R310). BST_ENABLE sets EN of the rails its mask names and returns every EN,
and in SAFE refuses to set one; BST_SETPOINT writes the rail's words and finishes in its controller's next slot (R311). -/
def Obligations.ActuatorAndBoostCommandsFinish : Prop :=
  (∀ (s : State) (e : Fin 64) (c : Cmd) (head : State → Nat),
     head = (fun s => (s.actStat (c.byte 8)).toNat + 2 ^ 32 * (s.reg (rDIAG_AST (c.byte 8))).toNat) →
     (s.begins 0x50 e c → 192 ≤ s.lsLane (c.byte 8) → exec (.actRead e) s = .next ((s.start c).finish (s.go c) 0 (head s)).settle) ∧
     (s.begins 0x50 e c → s.lsLane (c.byte 8) < 192 → c.phase = 0 →
       exec (.actRead e) s = .next ((s.start c).modCmd c.ord (fun x => { x with phase := 1 })).settle) ∧
     (s.runsOn 0x50 e c → s.lsLane (c.byte 8) < 192 → c.phase = 1 →
       (s.lsSlot (c.byte 8) = true → exec (.actRead e) s =
         .next (s.finish c 0 (head s + 2 ^ 64 * (s.lane (s.lsLane (c.byte 8))).peekWord.toNat)).settle) ∧
       (s.lsSlot (c.byte 8) = false → exec (.actRead e) s = .next s.settle)) ∧
     (s.begins 0x51 e c → ∀ off no : List Nat, off = c.mask.filter (fun a => s.disabled a) → no = off.filter (fun a => s.reenRefused a) →
       exec (.actReenable e) s = .next ((off.foldl (fun (u : State) a => u.reenable a) (s.start c)).finish (s.go c)
         (if no.isEmpty then 0 else 0x17) (maskOf (off.filter (fun a => !no.contains a)))).settle) ∧
     (s.begins 0x52 e c → exec (.actUnfreeze e) s = .next ((c.mask.foldl (fun (u : State) a => u.unfreeze a) (s.start c)).finish (s.go c) 0
       (maskOf (c.mask.filter (fun a => s.rb (rSFB_FROZEN (a / 32)) (a % 32))))).settle)) ∧
  (∀ (s : State) (e : Fin 64) (c : Cmd),
     (s.begins 0x61 e c → c.byte 9 % 2 = 1 → s.inSafe = true → exec (.bstEnable e) s = .next ((s.start c).finish (s.go c) 0x26 0).settle) ∧
     (s.begins 0x61 e c → c.byte 9 % 2 = 0 ∨ s.inSafe = false →
       let u := (below 8).foldl (fun (t : State) r =>
         if c.byte 8 / 2 ^ r % 2 = 1 then t.setRb (rBST_CFG r) 31 (c.byte 9 % 2 == 1) else t) (s.start c)
       exec (.bstEnable e) s = .next (u.finish (s.go c) 0 (maskOf ((below 8).filter (fun r => u.rb (rBST_CFG r) 31)))).settle) ∧
     (s.begins 0x60 e c → c.phase = 0 → ∀ w v : Word, w = setBit (s.reg (rBST_ADAPT (c.byte 8))) 30 (c.byte 9 % 2 == 1) →
       v = (if 2 ≤ c.byte 9 then setFld w 19 10 (c.opnd 12 13) else w) → exec (.bstSetpoint e) s = .next
         ((((s.start c).bstPointWrite (c.byte 8) false (BitVec.ofNat 32 (c.opnd 10 11))).bstPointWrite (c.byte 8) true v).modCmd c.ord
           (fun x => { x with phase := 1 })).settle) ∧
     (s.runsOn 0x60 e c → c.phase = 1 →
       (s.time % 64 = 0 → s.inDoze = false → exec (.bstSetpoint e) s = .next
         (s.finish c 0 (pack [(15, 0, (s.rail (c.byte 8)).setAct), (16, 16, fld (s.bstStatRead (c.byte 8)) 21 21)])).settle) ∧
       (s.time % 64 ≠ 0 ∨ s.inDoze = true → exec (.bstSetpoint e) s = .next s.settle)))

/-- The timer commands: TIMER_START starts, TIMER_STOP_ARM stops, returns the count of the timer or its pair and re-arms when asked,
TIMER_CAPTURE returns count and state, GLOBAL_START starts the IDLE timers named of 28 to 31, at AT_TIME where it gives one (R312, R387,
R388). RS_STATUS, LOG_CLOSE and FIFO_STATUS return what R316 says. VENDOR_TEST on a locked part is refused VENDOR_LOCKED and to a queue
pair that is not full NOT_OWNER; what it does beyond that the manual does not say, and the model stops there by name (R317). -/
def Obligations.TimerAndStatusCommandsFinish : Prop :=
  (∀ (s : State) (e : Fin 64) (c : Cmd),
     (s.begins 0x70 e c → exec (.timerStart e) s = .next (((s.start c).startTmr (c.byte 8)).finish (s.go c) 0 0).settle) ∧
     (s.begins 0x71 e c → let u := (s.start c).stopTmr (c.byte 8)
       let n := u.countOf (c.byte 8) (2 ≤ c.byte 9)
       (c.byte 9 % 2 = 0 → exec (.timerStopArm e) s = .next (u.finish (s.go c) 0 n).settle) ∧
       (c.byte 9 % 2 = 1 → exec (.timerStopArm e) s = .next ((u.armTmr (c.byte 8)).finish (s.go c) 0 n).settle)) ∧
     (s.begins 0x72 e c → exec (.timerCapture e) s = .next ((s.start c).finish (s.go c) 0
       (s.countOf (c.byte 8) (2 ≤ c.byte 9) + 2 ^ 64 * (if (s.tmr (c.byte 8)).st = 1 then 1 else 0))).settle) ∧
     (s.begins 0x73 e c → c.phase = 0 →
       (c.opnd 16 23 = 0 ∨ c.opnd 16 23 = s.time → exec (.globalStart e) s = .next ((s.start c).globalStart (s.go c)).settle) ∧
       (s.time < c.opnd 16 23 → exec (.globalStart e) s = .next ((s.start c).modCmd c.ord (fun x => { x with phase := 1 })).settle) ∧
       (c.opnd 16 23 ≠ 0 → c.opnd 16 23 < s.time → exec (.globalStart e) s = .next ((s.start c).finish (s.go c) 0x21 0).settle)) ∧
     (s.runsOn 0x73 e c → c.phase = 1 →
       exec (.globalStart e) s = .next s.settle ∧
       (c.opnd 16 23 ≤ s.time → exec (.globalStartAtTime e) s = .next (s.globalStart c).settle) ∧
       (s.time < c.opnd 16 23 → exec (.globalStartAtTime e) s = .next s.settle)) ∧
     (∀ t, s.countOf t false = (s.tmr t).count ∧ s.countOf t true = (s.tmr (t / 2 * 2)).count + 2 ^ 32 * (s.tmr (t / 2 * 2 + 1)).count) ∧
     (∀ idle, idle = (below 4).filter (fun i => c.byte 8 / 2 ^ i % 2 = 1 && decide ((s.tmr (28 + i)).st = 0)) →
       s.globalStart c = (idle.foldl (fun (u : State) i => u.startGroup (28 + i)) s).finish c 0 (maskOf idle))) ∧
  (∀ (s : State) (e : Fin 64) (c : Cmd),
     (s.begins 0xB0 e c → exec (.rsStatus e) s = .next ((s.start c).finish (s.go c) 0 (s.rsLine (c.byte 8))).settle) ∧
     (s.begins 0xB1 e c → exec (.logClose e) s = .next
       (((s.start c).logClose (c.byte 8)).finish (s.go c) 0 (if (s.dom (c.byte 8)).logOpen.isSome then 1 else 0)).settle) ∧
     (s.begins 0xB2 e c → exec (.fifoStatus e) s = .next
       ((s.start c).finish (s.go c) 0 (pack [(7, 0, s.fifoFill), (8, 8, s.summary.isSome.toNat), (31, 16, s.rf rDIAG_LOST 15 0)])).settle)) ∧
  (∀ (s : State) (e : Fin 64) (c : Cmd), s.live = true → s.cmdAt e = some c → 0xF0 ≤ c.opcode → c.opcode ≤ 0xFF → c.started = none →
     c.target = 0 → s.startable c = true →
     (s.vendorLocked = true → exec (.vendorTest e) s = .next ((s.start c).finish (s.go c) 0x18 0).settle) ∧
     (s.vendorLocked = false → s.fullQp c.qp = false → exec (.vendorTest e) s = .next ((s.start c).finish (s.go c) 0x12 0).settle) ∧
     (s.vendorLocked = false → s.fullQp c.qp = true → exec (.vendorTest e) s = .refused .vendorEffect))

/-! ### The Kringle ring (chapter 12) -/

/-- A ring frame: not used while the ports are off or its port is lost; one that fails is counted and discarded, and ended with ABT by a
device that was passing it; the device's own is removed; one for another device is passed on with its header and payload as they came,
after an own frame it cut short has been ended with ABT, which is sent again whole (R326, R327, R328, R348). A slave that meets frames of
another epoch for as long as the tokens may take no longer reads ENUM (R330). -/
def Obligations.FramesAreDroppedRemovedOrPassed : Prop :=
  (∀ (s u : State) (f : Frame), s.live = true → u = s.epochSeen f →
    ∀ p ∈ [(0x10, Instr.cmd f), (0x11, .cpl f), (0x12, .ecpl f), (0x13, .ack f), (0x14, .nack f), (0x15, .abortFwd f), (0x18, .dmaRd f),
        (0x19, .dmaData f), (0x1A, .dmaWr f), (0x20, .record f), (0x21, .irqNote f), (0x30, .breakFrame f), (0x31, .rejoin f), (5, .timeSync f),
        (6, .angleState f), (7, .hb f)],
      (s.portsOn = false → exec p.2 s = .next s.settle) ∧
      (s.portsOn = true →
        (f.bad p.1 = true → exec p.2 s = .next (s.badPass f).settle) ∧
        (f.bad p.1 = false → s.portLost f.kb = true → exec p.2 s = .next s.settle) ∧
        (f.bad p.1 = false → s.portLost f.kb = false →
          (u.ownFrame f = true → exec p.2 s = .next u.settle) ∧
          (u.ownFrame f = false → u.forMe f = false → f.dst.val ≠ 4095 → exec p.2 s = .next (u.passFrame p.1 f).settle)))) ∧
  (∀ (s u : State) (f : Frame) (typ : Nat),
    (s.portLost f.kb = true → u = { s with ring := { s.ring with cleanAt := some s.time } }) → (s.portLost f.kb = false → u = s) →
    s.badFrame f.kb = ((u.bump rKR_CNT_A 15 0).setRb rKR_STAT 6 true).bump rKR_PORT (if f.kb then 15 else 23) (if f.kb then 8 else 16) ∧
    (s.portLost f.kb = true ∨ s.ownFrame f = true ∨ s.forMe f = true → s.badPass f = s.badFrame f.kb) ∧
    (s.portLost f.kb = false → s.ownFrame f = false → s.forMe f = false →
      s.badPass f = (s.badFrame f.kb).emit (.abort (s.outRing f.kb).toNat)) ∧
    (f.cut = false ∨ express typ = false → s.passFrame typ f = s.emit (.frame (s.outRing f.kb).toNat (f.len.toNat + 10)
      (ofBytesLE (frameBytes typ f.dir f.dst f.src f.tage.toNat f.len.toNat f.pay.toNat)))) ∧
    (f.cut = true → express typ = true → ∀ o, s.lastOwn (s.outRing f.kb).toNat = some o → s.passFrame typ f =
      (((s.bump rKR_CNT_B 15 8).emit (.abort (s.outRing f.kb).toNat)).passOn typ f).emit o)) ∧
  (∀ (s : State) (f : Frame),
    (s.master = true ∨ s.enumd = false ∨ f.src.val ≠ 0 → s.epochSeen f = s) ∧
    (s.master = false → s.enumd = true → f.src.val = 0 → f.epoch = s.epoch →
      s.epochSeen f = { s with ring := { s.ring with newEpoch := none } }) ∧
    (s.master = false → s.enumd = true → f.src.val = 0 → f.epoch ≠ s.epoch →
      (s.ring.newEpoch = none → s.epochSeen f = { s with ring := { s.ring with newEpoch := some s.time } }) ∧
      (∀ t, s.ring.newEpoch = some t → s.time < t + 64 * s.ringTo → s.epochSeen f = s) ∧
      (∀ t, s.ring.newEpoch = some t → t + 64 * s.ringTo ≤ s.time →
        s.epochSeen f = { s with enumd := false, ring := { s.ring with newEpoch := none } })))

/-- What the master does with a frame addressed to it: a CPL finishes the command or ABORT it answers or counts as stale; an event
completion and a record are taken or refused by their room and answered, or stale two epochs late; an interrupt notice joins the 16-entry
queue or is refused; accesses of slaves are issued and answered in arrival order; an ACK is late; a BREAK is recorded (R332 to R336, R348,
R408). -/
def Obligations.MasterTakesRingFrames : Prop :=
  ∀ (s u : State) (f : Frame), u.master = true →
    (s.takes u 0x11 f →
      (u.oldEpoch f = true → exec (.cpl f) s = .next u.stale.settle) ∧
      (u.oldEpoch f = false → f.get 23 16 = 3 → exec (.cpl f) s = .next (u.takeAbortCpl f).settle) ∧
      (u.oldEpoch f = false → f.get 23 16 ≠ 3 →
        (∀ c, u.cmds.find? (fun c => c.ent = f.tag && u.forwarded c) = some c → exec (.cpl f) s = .next (u.takeCpl c f).settle) ∧
        (u.cmds.find? (fun c => c.ent = f.tag && u.forwarded c) = none → exec (.cpl f) s = .next u.stale.settle))) ∧
    (s.takes u 0x12 f → ∀ q, q = f.get 84 80 →
      (u.oldEntry f = true → exec (.ecpl f) s = .next u.stale.settle) ∧
      (u.oldEntry f = false → u.qpEn q = true → u.cqRoom q = true → u.heldEntries < 16 → exec (.ecpl f) s = .next
        ((u.postAs { qp := q, opcode := f.get 23 16, status := f.get 31 24, source := f.src, tag := f.get 63 48, seq := f.get 79 64, time := f.get 159 96
                     result := f.get 255 160, irq := u.ring.irqArms.contains (f.src.val, q, f.get 79 64) }).answer true 0x12 f).settle) ∧
      (u.oldEntry f = false → u.qpEn q = false ∨ u.cqRoom q = false ∨ 16 ≤ u.heldEntries →
        exec (.ecpl f) s = .next (u.answer false 0x12 f).settle)) ∧
    (s.takes u 0x20 f → ∀ n, n = (f.len.toNat - 4) / 32 →
      (u.oldEntry f = true → exec (.record f) s = .next u.stale.settle) ∧
      (u.oldEntry f = false → u.rsNoRoom (f.get 2 0) n = false → u.heldEntries + n ≤ 16 → exec (.record f) s = .next
        ((u.hand { rs := f.get 2 0, prod := 4, at_ := u.time, entries := (below n).map f.entry }).answer true 0x20 f).settle) ∧
      (u.oldEntry f = false → u.rsNoRoom (f.get 2 0) n = true ∨ 16 < u.heldEntries + n →
        exec (.record f) s = .next (u.answer false 0x20 f).settle)) ∧
    (s.takes u 0x21 f →
      (u.ring.notices.length < 16 → exec (.irqNote f) s = .next
        (({ u with ring := { u.ring with notices := u.ring.notices ++ [(f.src.val, f.get 23 16, f.get 15 0)] } }).answer true 0x21 f).settle) ∧
      (16 ≤ u.ring.notices.length → exec (.irqNote f) s = .next ((u.bump rINT_GSTAT 15 0).answer false 0x21 f).settle)) ∧
    (∀ a : SAcc, a = { id := u.ring.nextId, src := f.src, tage := f.tage.toNat, write := false, addr := f.get 63 0, len := f.get 95 64, val := 0 } →
      s.takes u 0x18 f → exec (.dmaRd f) s =
        .next ({ u with ring := { u.ring with saccs := u.ring.saccs ++ [a], nextId := u.ring.nextId + 1 } } : State).saccFlush.settle) ∧
    (∀ a : SAcc, a = { id := u.ring.nextId, src := f.src, tage := f.tage.toNat, write := true, addr := f.get 63 0, len := f.len.toNat - 8, val := f.get 575 64 } →
      s.takes u 0x1A f → exec (.dmaWr f) s =
        .next ({ u with ring := { u.ring with saccs := u.ring.saccs ++ [a], nextId := u.ring.nextId + 1 } } : State).saccFlush.settle) ∧
    (s.takes u 0x13 f → exec (.ack f) s = .next ((u.bump rKR_CNT_A 31 16).setRb rKR_STAT 2 true).settle) ∧
    (s.takes u 0x10 f → exec (.cmd f) s = .next u.settle) ∧ (s.takes u 0x14 f → exec (.nack f) s = .next u.settle) ∧
    (s.takes u 0x15 f → exec (.abortFwd f) s = .next u.settle) ∧ (s.takes u 0x19 f → exec (.dmaData f) s = .next u.settle) ∧
    (s.takes u 0x30 f → exec (.breakFrame f) s = .next
      (if bit f.pay 16 then (u.setRb rKR_STAT 0 true).setRf rKR_BREAK 27 16 (f.get 11 0)
        else (u.setRb rKR_STAT 0 true).setRf rKR_BREAK 11 0 (f.get 11 0)).settle)

/-- What a slave does with a frame for it: CMD takes a command-buffer entry, a broadcast CMD once and passed on; ABORT_FWD waits for F; an
answer of an earlier epoch, or one nothing awaits, is counted as stale; ACK frees what it accepts, NACK has an entry sent again after
4 us, a notice judged again, and fails an access; DMA_DATA reaches the command that asked; broadcasts HB, REJOIN, TIME_SYNC and
ANGLE_STATE act and are passed on (R319, R327, R332 to R337, R340, R344, R350). -/
def Obligations.SlaveTakesRingFrames : Prop :=
  (∀ (s u : State) (f : Frame), u.master = false →
    (∀ v : State, v = ({ u with nextOrd := u.nextOrd + 1, cmds := u.cmds ++ [f.command u.nextOrd u.freeEntry] } : State).rewrote 8 (7 * u.freeEntry) 7 →
      (s.takes u 0x10 f → u.enumd = true → f.dst.val ≠ 4095 → exec (.cmd f) s = .next v.settle) ∧
      (s.hears u 0x10 f → u.enumd = true → u.onRing f.dir f.kb = true → exec (.cmd f) s = .next v.settle) ∧
      (s.hears u 0x10 f → u.enumd = false ∨ u.onRing f.dir f.kb = false → exec (.cmd f) s = .next u.settle)) ∧
    (s.takes u 0x15 f → exec (.abortFwd f) s = .next ({ u with ring := { u.ring with
      aborts := u.ring.aborts ++ [({ tage := f.get 5 0 + 64 * f.epoch, at_ := u.time } : FwdAbort)] } } : State).settle) ∧
    (u.oldEpoch f = true → (s.takes u 0x13 f → exec (.ack f) s = .next u.stale.settle) ∧ (s.takes u 0x14 f → exec (.nack f) s = .next u.stale.settle) ∧
      (s.takes u 0x19 f → exec (.dmaData f) s = .next u.stale.settle)) ∧
    (u.oldEpoch f = false →
      (s.takes u 0x13 f →
        (f.get 7 0 = 0x20 → exec (.ack f) s = .next (u.entryAcked (f.get 13 8 % 8)).settle) ∧
        (f.get 7 0 = 0x12 → exec (.ack f) s = .next (u.entryAcked 8).settle) ∧
        (f.get 7 0 = 0x1A → (∀ a, u.accOf (f.get 13 8) true = some a → exec (.ack f) s = .next (u.accDone a).settle) ∧
          (u.accOf (f.get 13 8) true = none → exec (.ack f) s = .next u.stale.settle)) ∧
        (f.get 7 0 = 0x21 → (∀ i, u.noteOf (f.get 13 8) = some i →
            exec (.ack f) s = .next ((u.noteGone (f.get 13 8)).takeSource (f.get 13 8 % 16) i).settle) ∧
          (u.noteOf (f.get 13 8) = none → exec (.ack f) s = .next u.stale.settle))) ∧
      (s.takes u 0x14 f → ∀ v, v = u.bump rKR_CNT_B 7 0 →
        (∀ k, (f.get 7 0 = 0x12 ∧ k = 8) ∨ (f.get 7 0 = 0x20 ∧ k = f.get 13 8 % 8) →
          ((∃ x ∈ u.ring.unans, x.key = k) → exec (.nack f) s = .next ({ v with ring := { v.ring with
            unans := v.ring.unans.map (fun (x : Unans) => if x.key = k then { x with again := some (v.time + 4000) } else x) } } : State).settle) ∧
          ((∀ x ∈ u.ring.unans, x.key ≠ k) → exec (.nack f) s = .next v.stale.settle)) ∧
        (∀ w, (f.get 7 0 = 0x18 ∧ w = false) ∨ (f.get 7 0 = 0x1A ∧ w = true) →
          (∀ a, v.accOf (f.get 13 8) w = some a → exec (.nack f) s = .next (v.accFail a).settle) ∧
          (v.accOf (f.get 13 8) w = none → exec (.nack f) s = .next v.stale.settle)) ∧
        (f.get 7 0 = 0x21 →
          (v.noteOf (f.get 13 8) = none → exec (.nack f) s = .next v.stale.settle) ∧
          (∀ i g, v.noteOf (f.get 13 8) = some i → g = f.get 13 8 % 16 → ∀ x, x = v.noteGone (f.get 13 8) →
            ((x.tgt g).await = some i → exec (.nack f) s = .next (x.setTgt g { x.tgt g with retry := some (x.time + 4000) }).settle) ∧
            ((x.tgt g).await ≠ some i → exec (.nack f) s = .next x.settle)))) ∧
      (s.takes u 0x19 f → (∀ a, u.accOf f.tag false = some a → exec (.dmaData f) s = .next ((u.accDone a).fetchData a.ord a.len f.pay.toNat).settle) ∧
        (u.accOf f.tag false = none → exec (.dmaData f) s = .next u.stale.settle)))) ∧
  (∀ (s u : State) (f : Frame), u.master = false →
      (s.hears u 7 f → ∀ v, v = { u with poll := { u.poll with hbEn := bit f.pay 0, hbTmo := f.get 31 16 } } →
        (bit f.pay 1 = true → exec (.hb f) s = .next v.slaveLost.settle) ∧
        (bit f.pay 1 = false → exec (.hb f) s = .next ({ v with poll := { v.poll with ref := u.time } } : State).settle)) ∧
      (s.hears u 0x31 f → exec (.rejoin f) s = .next ({ u with ring := { u.ring with openAt := some (f.get 63 0) } } : State).settle) ∧
      (s.hears u 5 f → (u.enumd = false → exec (.timeSync f) s = .next u.settle) ∧
        (u.enumd = true → ∀ (v : State) (err : Int), (u.tstate = 0 ∨ u.tstate = 3 → v = u.acquire) → (u.tstate = 1 ∨ u.tstate = 2 → v = u) →
          err = (v.ring.markL : Int) - ((16 * f.get 63 0 : Nat) + v.delay v.dirB) →
          (v.tstate ≠ 1 ∨ f.kb ≠ v.dirB ∨ err.natAbs ≤ 256 → exec (.timeSync f) s = .next v.settle) ∧
          (v.tstate = 1 → f.kb = v.dirB → 256 < err.natAbs →
            exec (.timeSync f) s = .next ({ v with ring := { v.ring with step := some (-(4 * roundDivI err 64)) } } : State).settle))) ∧
      (s.hears u 6 f → ((∀ d < 4, u.domRing d = false) → exec (.angleState f) s = .next u.settle) ∧
        (∀ d : Fin 4, (∀ k < 4, (u.domEn k && u.domRing k && decide (u.ring.map / 4 ^ k % 4 = f.get 1 0)) = decide (k = d.val)) →
          exec (.angleState f) s = .next
            (u.setDom d { u.dom d with rxQ := (u.dom d).rxQ ++ [(f.get 15 8, bit f.pay 6, f.pub)] }).settle)))

/-- Tokens and neighbours: a token goes on untouched where it is on the other ring, and a faulty one is discarded; the KA token gives a slave its
address and delay and goes on with NEXT + 1 and its delay added, the KB token gives the delay on KB; back at the master the first sends
the second, and the second finishes the command; another master's token sets DUAL_MASTER and is discarded; PROBE is echoed on KA, and an
ECHO that was awaited joins the average (R324, R328 to R330). KR_ENUMERATE and KR_REJOIN end STATE_REFUSED while another of them runs, and
begin with a new epoch once none has changed for RING_TO; KR_STATUS answers at once; a token that does not return in 64 times RING_TO
ends RING_TIMEOUT, as does a command or access with no reply in RING_TO (R315, R318, R330 to R332). -/
def Obligations.RingEnumerationProbesAndTimeouts : Prop :=
  (∀ (s : State) (f : Frame), s.live = true →
     (s.portsOn = false → (∀ x, exec (.echo f x) s = .next s.settle) ∧ exec (.enumA f) s = .next s.settle ∧ exec (.enumB f) s = .next s.settle ∧
       exec (.probe f) s = .next s.settle) ∧
     (s.portsOn = true →
       (∀ x, f.bad 4 = true → exec (.echo f x) s = .next (s.badFrame f.kb).settle) ∧ (f.bad 3 = true → exec (.probe f) s = .next (s.badFrame f.kb).settle) ∧
       (f.bad 1 = true → exec (.enumA f) s = .next (if s.onRing false f.kb then s.badFrame f.kb else s.badPass f).settle) ∧
       (f.bad 2 = true → exec (.enumB f) s = .next (if s.onRing true f.kb then s.badFrame f.kb else s.badPass f).settle)) ∧
     (s.meets 1 f →
       (s.master = true → f.get 79 48 ≠ s.uid % 2 ^ 32 → exec (.enumA f) s = .next (s.setRb rKR_STAT 3 true).settle) ∧
       (s.master = false ∨ f.get 79 48 = s.uid % 2 ^ 32 → s.onRing false f.kb = false → exec (.enumA f) s = .next (s.passOn 1 f).settle) ∧
       (s.master = true → f.get 79 48 = s.uid % 2 ^ 32 → s.onRing false f.kb = true → exec (.enumA f) s = .next (s.enumAMaster f).settle) ∧
       (s.onRing false f.kb = true → s.master = false → s.rf rKR_HOP 15 0 ≠ 0xFFFF → f.get 15 0 ≤ 4094 →
         ∀ d, d = (f.get 47 16 + 16 * (s.rf rKR_HOP 15 0 - 512)) % 2 ^ 32 →
           exec (.enumA f) s = .next (((s.takeAddr (f.get 15 0) f.epoch).setReg rKR_DLY_A (BitVec.ofNat 32 d)).passOn 1
             { f with pay := BitVec.ofNat 576 (pack [(15, 0, f.get 15 0 + 1), (47, 16, d + 8192), (79, 48, f.get 79 48)]) }).settle)) ∧
     (s.meets 2 f →
       (s.onRing true f.kb = false → exec (.enumB f) s = .next (s.passOn 2 f).settle) ∧
       (s.onRing true f.kb = true → s.master = true → exec (.enumB f) s = .next (s.enumBMaster f).settle) ∧
       (s.onRing true f.kb = true → s.master = false → s.rf rKR_HOP 15 0 ≠ 0xFFFF →
         exec (.enumB f) s = .next ((s.setReg rKR_DLY_B (BitVec.ofNat 32 (f.get 31 0))).passOn 2
           { f with pay := BitVec.ofNat 576 ((f.get 31 0 + 8192 + 16 * (s.rf rKR_HOP 15 0 - 512)) % 2 ^ 32) }).settle)) ∧
     (s.meets 3 f → exec (.probe f) s = .next (if f.kb then s.sendOn false 4 f.src f.tage.toNat 0 0 else s).settle) ∧
     (∀ x, s.meets 4 f → (f.kb = false → s.ring.probe = true → exec (.echo f x) s = .next (s.measure x).settle) ∧
       (f.kb = true ∨ s.ring.probe = false → exec (.echo f x) s = .next s.settle))) ∧
  (∀ (s : State) (e : Fin 64) (c : Cmd) (p : Nat × Instr), p ∈ [(0xA0, Instr.krEnumerate e), (0xA2, Instr.krRejoin e)] →
     (s.begins p.1 e c →
       (∀ o k t, s.ring.run = some (o, k, t) → o ≠ c.ord → exec p.2 s = .next ((s.start c).finish (s.go c) 0x17 (pack [(39, 32, 9)])).settle) ∧
       (s.ring.run = none → ∀ u, u = ({ s.start c with ring := { s.ring with run := some (c.ord, 2, s.time) } } : State).setRb rKR_STAT 26 true →
         (u.ring.epochAt = none → exec p.2 s = .next (u.ringBegin (s.go c)).settle) ∧
         (∀ t, u.ring.epochAt = some t → u.time < t + u.ringTo → exec p.2 s = .next u.settle) ∧
         (∀ t, u.ring.epochAt = some t → t + u.ringTo ≤ u.time → exec p.2 s = .next (u.ringBegin (s.go c)).settle))) ∧
     (s.runsOn p.1 e c → ∀ k t₀, s.ring.run = some (c.ord, k, t₀) →
       (k ≠ 2 → exec p.2 s = .next s.settle) ∧
       (k = 2 → ∀ t, s.ring.epochAt = some t → t + s.ringTo ≤ s.time → exec p.2 s = .next (s.ringBegin c).settle))) ∧
  (∀ (s : State) (c : Cmd),
     (c.opcode = 0xA0 → s.ringBegin c = s.advanceEpoch.sendEnumA c.ord) ∧
     (c.opcode = 0xA2 → ∀ u, u = s.advanceEpoch → s.ringBegin c = ({ u with ring := { u.ring with
       run := some (c.ord, 3, u.time), openAt := some (u.time + u.ringTo), rejoinAt := some (u.time + u.ringTo) } } : State).sendBoth 0x31 4095
         (u.tage 0) 8 (u.time + u.ringTo))) ∧
  (∀ (s : State) (e : Fin 64) (c : Cmd), s.live = true →
     (s.begins 0xA1 e c → exec (.krStatus e) s = .next ((s.start c).krStatus (s.go c)).settle) ∧
     (s.ring.run = none → exec .enumTimeout s = .next s.settle) ∧
     (∀ o k t, s.ring.run = some (o, k, t) →
       (2 ≤ k ∨ s.time + 4 ≤ t + 64 * s.ringTo → exec .enumTimeout s = .next s.settle) ∧
       (k < 2 → t + 64 * s.ringTo < s.time + 4 → ∀ u, u = ({ s with ring := { s.ring with run := none } } : State).setRb rKR_STAT 26 false →
         (u.cmdOf o = some c → exec .enumTimeout s = .next (u.finish c 0x40 0).settle) ∧ (u.cmdOf o = none → exec .enumTimeout s = .next u.settle))) ∧
     (s.master = true → ∀ u : State,
       (∀ x, s.abortsOut.find? (fun x => x.2.entry == some e.val && decide (x.2.at_ + 64 + s.ringTo < s.time + 4)) = some x → u = s.abortEnds x 0x40) →
       (s.abortsOut.find? (fun x => x.2.entry == some e.val && decide (x.2.at_ + 64 + s.ringTo < s.time + 4)) = none → u = s) →
       (u.cmds.find? (fun c => c.ent = e.val && u.forwarded c) = some c →
         (c.sentAt + 192 + u.ringTo < u.time + 4 → exec (.ringTimeout e) s = .next (u.forwardEnds c 0x40).settle) ∧
         (u.time + 4 ≤ c.sentAt + 192 + u.ringTo → exec (.ringTimeout e) s = .next u.settle)) ∧
       (u.cmds.find? (fun c => c.ent = e.val && u.forwarded c) = none → exec (.ringTimeout e) s = .next u.settle)) ∧
     (s.master = false →
       (∀ a, s.ring.accs.find? (fun a => a.tag == some e.val && decide (a.sent + s.ringTo < s.time + 4)) = some a →
         exec (.ringTimeout e) s = .next (s.accFail a).settle) ∧
       (s.ring.accs.find? (fun a => a.tag == some e.val && decide (a.sent + s.ringTo < s.time + 4)) = none →
         exec (.ringTimeout e) s = .next s.settle)))

/-- Periodic sends and retries: MARK every 1,024 ns with TIME_SYNC every 1,048,576 ns, PROBE every 1,024 ns, an entry goes again when
its 4 us or RING_TO pass, a refused notice goes again if its source is still the best and is dropped otherwise, ANGLE_REFRESH
repeats a state (R329, R334, R338, R343, R408). A slave's TIME: a MARK is noted and, on the ring it follows, gives ERR and steps the
steering by at most 2; no MARK for 16 us leaves LOCK and orphans the slave, eight MARKs missed on KA switch to KB, a TIME step waits for
shots and then moves TIME and what counts from it; a ring source silent for LOSS_TO is lost in its slot (R338 to R341, R345, R349). Ports:
a lost port loops back, counts and reports with BREAK on both rings; signal and decoding bring it back, 1 ms without an error makes it
REPAIRED, and its loop-back opens at the time a REJOIN gave; a WAKE burst leaves on both ports (R348 to R351). -/
def Obligations.RingSendsTimeAndPorts : Prop :=
  (∀ (s : State), s.live = true →
     (∀ u, u = s.emit (.pulse 2 s.time) →
       (s.master = true → s.portsOn = true → s.time % 1048576 = 0 → exec .markSend s = .next (u.sendBoth 5 4095 (u.tage 0) 8 s.time).settle) ∧
       (s.master = true → s.portsOn = true → s.time % 1024 = 0 → s.time % 1048576 ≠ 0 → exec .markSend s = .next u.settle) ∧
       (s.master = false ∨ s.portsOn = false ∨ s.time % 1024 ≠ 0 → exec .markSend s = .next s.settle)) ∧
     (s.portsOn = false ∨ s.time % 1024 ≠ 0 → exec .probeSend s = .next s.settle) ∧
     (s.portsOn = true → s.time % 1024 = 0 →
       exec .probeSend s = .next (({ s with ring := { s.ring with probe := true } } : State).sendOn true 3 4095 (s.tage 0) 0 0).settle) ∧
     (∀ (k : Fin 9), (s.master = true ∨ s.ring.unans.find? (fun u => u.key = k.val) = none → exec (.forwardRetry k) s = .next s.settle) ∧
       (∀ (u : Unans) (t : Nat), s.master = false → s.ring.unans.find? (fun u => u.key = k.val) = some u → u.again = some t ∨ (u.again = none ∧ t = u.sent + s.ringTo) →
         (t < s.time + 4 → exec (.forwardRetry k) s = .next
           (({ s with ring := { s.ring with unans := s.ring.unans.map (fun (x : Unans) =>
             if x.key = k.val then { x with sent := s.time, again := none } else x) } } : State).sendEntry k).settle) ∧
         (s.time + 4 ≤ t → exec (.forwardRetry k) s = .next s.settle))) ∧
     (∀ (g : Fin 16), ((s.tgt g).retry = none ∨ (s.tgt g).await = none → exec (.irqNoteRetry g) s = .next s.settle) ∧
       (∀ (t a : Nat), (s.tgt g).retry = some t → (s.tgt g).await = some a →
         (s.time < t → exec (.irqNoteRetry g) s = .next s.settle) ∧
         (t ≤ s.time → s.best g = some a → exec (.irqNoteRetry g) s = .next (s.deliver g a).settle) ∧
         (t ≤ s.time → s.best g ≠ some a → exec (.irqNoteRetry g) s =
           .next (s.setTgt g { s.tgt g with await := none, retry := none }).settle))) ∧
     (∀ d : Fin 4, (s.angTx d = true → (s.dom d).txTime + 100000 * max 1 (s.rf rKR_CFG 23 16) < s.time + 4 →
         exec (.angleRefresh d) s = .next (s.sendAngle d true).settle) ∧
       (s.angTx d = false ∨ s.time + 4 ≤ (s.dom d).txTime + 100000 * max 1 (s.rf rKR_CFG 23 16) → exec (.angleRefresh d) s = .next s.settle))) ∧
  (∀ (s : State), s.live = true →
     (∀ (kb : Bool) (x : Fin 64), (s.master = true ∨ s.portLost kb = true → exec (.markCapture kb x) s = .next s.settle) ∧
       (s.master = false → s.portLost kb = false → ∀ u, u = ({ s with ring := { s.ring with markAt := s.time } } : State).setRb rKR_STAT 24 false →
         (u.enumd = false → exec (.markCapture kb x) s = .next u.settle) ∧
         (u.enumd = true → ∀ v : State,
           (kb = false → v = { u with ring := { u.ring with markA := u.time, missA := 0 } }) →
           (kb = true → v = { u with ring := { u.ring with missA := (u.time - u.ring.markA - 512) / 1024 } }) →
           (kb = v.dirB → exec (.markCapture kb x) s = .next (v.followMark (16 * v.time + x.val)).settle) ∧
           (kb ≠ v.dirB → exec (.markCapture kb x) s = .next v.settle)))) ∧
     (s.master = false → s.enumd = true → s.rb rKR_STAT 24 = false → s.ring.markAt + 16000 < s.time + 4 →
       exec .markLoss s = .next ((s.leaveLock.sourcesLost).setRb rKR_STAT 24 true).settle) ∧
     (s.master = true ∨ s.enumd = false ∨ s.rb rKR_STAT 24 = true ∨ s.time + 4 ≤ s.ring.markAt + 16000 → exec .markLoss s = .next s.settle) ∧
     (s.master = false → s.enumd = true → 8 ≤ s.ring.missA → exec .followKb s = .next (s.setRb rKR_TIME 29 true).settle) ∧
     (s.master = true ∨ s.enumd = false ∨ s.ring.missA < 8 → exec .followKb s = .next s.settle) ∧
     (s.ring.step = none → exec .timeStep s = .next s.settle) ∧
     (∀ k, s.ring.step = some k →
       (s.tstate ≠ 1 → exec .timeStep s = .next ({ s with ring := { s.ring with step := none } } : State).settle) ∧
       (s.tstate = 1 → s.anyShot = true → exec .timeStep s = .next s.settle) ∧
       (s.tstate = 1 → s.anyShot = false → ∀ t, t = ((s.time : Int) + k).toNat % 2 ^ 64 →
         exec .timeStep s = .next (((s.tmrTimeStep t).moveTime k t).bump rKR_CNT_B 23 16).settle)) ∧
     (∀ d : Fin 4, (s.time % 16 ≠ 4 * d.val ∨ s.time < (s.dom d).rxTime + s.lossTo → exec (.angleSourceLost d) s = .next s.settle) ∧
       (s.time % 16 = 4 * d.val → (s.dom d).rxTime + s.lossTo ≤ s.time → exec (.angleSourceLost d) s = .next (s.sourceLost d).settle) ∧
       (s.domEn d = false ∨ s.domRing d = false ∨ (s.dom d).rxHas = false → s.sourceLost d = s) ∧
       (s.domEn d = true → s.domRing d = true → (s.dom d).rxHas = true → ∀ u : State,
         ((s.dom d).rxLost = none → u = s.ringUnsync d) → ((s.dom d).rxLost ≠ none → u = s) →
         s.sourceLost d = (u.setDom d { u.dom d with rxHas := false }).setRb rKR_STAT 5 true))) ∧
  (∀ (s : State), s.live = true →
     (∀ kb, exec (.portLost kb) s = .next (s.crossPulse (1 + kb.toNat) s.coreAt 48 (fun u => u.portLoss kb)).settle ∧
       exec (.portDecodeLock kb) s = .next (s.crossPulse (3 + kb.toNat) s.coreAt 48 (fun u => u.portLock kb)).settle ∧
       (s.portsOn = false → s.portLoss kb = s ∧ s.portLock kb = s) ∧
       (s.portsOn = true →
         (s.portLost kb = true → s.portLoss kb = s.portDown kb) ∧
         (s.portLost kb = false → ∀ v : State,
           v = ((((s.portDown kb).setRb rKR_PORT (if kb then 25 else 29) true).setRb rKR_STAT 0 true).bump rKR_CNT_B 31 24).noteBreak s.devAddr kb →
             s.portLoss kb = v.sendBoth 0x30 0 (v.tage 0) 4 (pack [(11, 0, v.devAddr), (16, 16, kb.toNat)])) ∧
         (∀ u, u = (s.setRb rKR_PORT (if kb then 27 else 31) true).setRb rKR_PORT (if kb then 26 else 30) true →
           (u.portLost kb = false → s.portLock kb = u) ∧
           (u.portLost kb = true → s.portLock kb = ({ u with ring := { u.ring with cleanAt := some u.time } } : State).bump rXING_CNT 15 8)))) ∧
     ((s.ring.wakeFwd = true → s.rb rKR_CFG 30 = true → s.portsOn = true →
         exec .wakeForward s = .next (({ s with ring := { s.ring with wakeFwd := false } } : State).emit (.pulse 3 s.time)).settle) ∧
       (s.ring.wakeFwd = false ∨ s.rb rKR_CFG 30 = false ∨ s.portsOn = false → exec .wakeForward s = .next s.settle) ∧
       (s.master = true → s.portsOn = true → exec .send s = .next (s.emit (.pulse 3 s.time)).settle) ∧
       (s.master = false ∨ s.portsOn = false → exec .send s = .next s.settle)) ∧
     (s.ring.cleanAt = none → exec .portRepaired s = .next s.settle) ∧
     (∀ t, s.ring.cleanAt = some t →
       (s.portLost false = true ∨ s.portLost true = true → t + 1000000 < s.time + 4 → exec .portRepaired s = .next (s.setRb rKR_PORT 24 true).settle) ∧
       (s.time + 4 ≤ t + 1000000 ∨ (s.portLost false = false ∧ s.portLost true = false) → exec .portRepaired s = .next s.settle)) ∧
     (∀ u, u = s.loopOpen →
       ((∀ o t, u.ring.run ≠ some (o, 3, t)) ∨ u.ring.rejoinAt = none ∨ (∃ t, u.ring.rejoinAt = some t ∧ u.time + 4 ≤ t) →
         exec .loopbackOpen s = .next u.settle) ∧
       (∀ o t₀ t, u.ring.run = some (o, 3, t₀) → u.ring.rejoinAt = some t → t < u.time + 4 →
         exec .loopbackOpen s = .next (({ u with ring := { u.ring with rejoinAt := none } } : State).sendEnumA o).settle)) ∧
     (s.ring.openAt = none → s.loopOpen = s) ∧
     (∀ t, s.ring.openAt = some t → (s.time + 4 ≤ t → s.loopOpen = s) ∧
       (t < s.time + 4 → s.rb rKR_PORT 24 = false → s.loopOpen = { s with ring := { s.ring with openAt := none } }) ∧
       (t < s.time + 4 → s.rb rKR_PORT 24 = true → s.loopOpen = (((({ s with ring := { s.ring with openAt := none } } : State).setRb rKR_PORT 29
         false).setRb rKR_PORT 25 false).setRb rKR_PORT 24 false))))

/-! ### Pretzel engines and timers (chapters 13 and 14) -/

/-- In its engine cycle an engine executes the instruction it fetched, in the row of that instruction's operation code and in no other;
an illegal one stops it in any row; an engine not due, or with idle cycles left and nothing injected, executes nothing (R357, R361,
R364, R365); the word is corrected as it is read (R416). What the operations do (Table 13.1): a JMP that is taken writes PC, a WAIT that
fails repeats, IN and OUT shift at the two ends of the shifter, PUSH and PULL move it to and from the queues, MOV, SET, FLAG, XFER and
PAUSE do as they say; each completes with PC + 1 unless it wrote PC, idling TRAIL cycles (R362, R363, R365). -/
def Obligations.EnginesExecuteAndOperationsComplete : Prop :=
  (∀ (s u : State) (p : Fin 16) (pins : BitVec 32), u = { s with pinIn := pins } → s.live = true →
     (∀ x ∈ [(0, Instr.jmp p pins), (1, .wait p pins), (2, .in_ p pins), (3, .out p pins), (4, .push p pins), (5, .pull p pins), (6, .mov p pins),
         (7, .set p pins), (8, .flag p pins), (9, .xfer p pins), (10, .pause p pins)],
       (∀ r i trail, u.executes r p i trail →
         (i.op = x.1 → exec x.2 s = .next (r.pzTake p trail (r.pzRun p i)).settle) ∧ (i.op ≠ x.1 → exec x.2 s = .next u.settle)) ∧
       (u.pzDue p = true → (u.pz p).inj.isSome = true ∨ (u.pz p).idle = 0 → u.pzFetch p = none → ∀ r, r = u.pzRead p → exec x.2 s =
         .next ((r.setPz p { r.pz p with run := false, idle := 0, stall := 0, n := (r.pz p).n + 1 }).setRb (rPZ_STAT p) 28 true).settle) ∧
       (u.pzDue p = false ∨ ((u.pz p).inj = none ∧ (u.pz p).idle ≠ 0) → exec x.2 s = .next u.settle)) ∧
     (s.pzDue p = true → (s.pz p).inj = none → 0 < (s.pz p).idle →
       exec (.engineIdleCycle p) s = .next (s.setPz p { s.pz p with idle := (s.pz p).idle - 1, n := (s.pz p).n + 1 }).settle) ∧
     (s.pzDue p = false ∨ (s.pz p).inj ≠ none ∨ (s.pz p).idle = 0 → exec (.engineIdleCycle p) s = .next s.settle)) ∧
  (∀ (s u r : State) (p : Fin 16) (pins : BitVec 32) (t : Fin 4) (e : Pz), u = { s with pinIn := pins } → e = r.pz p →
     (∀ a, u.executes r p (.jmp 0 a) t → exec (.jmp p pins) s = .next ((r.setPz p e).pzComplete p (some a.val) t).settle) ∧
     (∀ k a, u.executes r p (.jmp k a) t → r.jmpTest p k = false → exec (.jmp p pins) s = .next (r.pzComplete p none t).settle) ∧
     (∀ a, e.x ≠ 0 → u.executes r p (.jmp 2 a) t →
       exec (.jmp p pins) s = .next ((r.setPz p { e with x := e.x - 1 }).pzComplete p (some a.val) t).settle) ∧
     (∀ i b, (i = PzOp.waitTick ∧ b = decide (r.time % 16 = 0)) ∨ (i = PzOp.waitFrame ∧ b = decide (r.time % 64 = 0)) ∨
         (∃ pol k, i = PzOp.waitPin pol k ∧ b = (bit r.pinIn k == pol)) → u.executes r p i t →
       (b = true → exec (.wait p pins) s = .next (r.pzComplete p none t).settle) ∧
       (b = false → exec (.wait p pins) s = .next (r.setPz p { e with stall := 3, idle := 0, n := e.n + 1 }).settle)) ∧
     (∀ src c, r.autoStore p = false → u.executes r p (.in_ src c) t → exec (.in_ p pins) s =
       .next ((r.setPz p { e with sh := shiftIn (r.order p) e.sh (cnt c) (r.inSrc p src), lvl := min 32 (e.lvl + cnt c) }).pzComplete p none t).settle) ∧
     (∀ c, r.autoLoad p = false → u.executes r p (.out 3 c) t → exec (.out p pins) s =
       .next ((r.setPz p { e with sh := shiftIn (r.order p) e.sh (cnt c) 0, lvl := e.lvl - cnt c }).pzComplete p none t).settle) ∧
     (∀ w x, r.uqSize p ≠ 0 → u.executes r p (.push w false x) t →
       (e.uq.length < r.uqSize p → exec (.push p pins) s =
         .next (((r.setPz p { e with sh := 0, lvl := 0 }).uqPush p e.sh x).pzComplete p none t).settle) ∧
       (r.uqSize p ≤ e.uq.length → w = true →
         exec (.push p pins) s = .next (r.setPz p { e with stall := 2, idle := 0, n := e.n + 1 }).settle) ∧
       (r.uqSize p ≤ e.uq.length → w = false → exec (.push p pins) s =
         .next (((r.setPz p { e with sh := 0, lvl := 0, miss := true }).bump (rPZ_CNT p) 7 0).pzComplete p none t).settle)) ∧
     (∀ w v l, r.dqSize p ≠ 0 → u.executes r p (.pull w false) t →
       (e.dq = v :: l → exec (.pull p pins) s = .next ((r.setPz p { e with sh := v, lvl := 32, dq := l }).pzComplete p none t).settle) ∧
       (e.dq = [] → w = true → exec (.pull p pins) s = .next (r.setPz p { e with stall := 1, idle := 0, n := e.n + 1 }).settle) ∧
       (e.dq = [] → w = false → exec (.pull p pins) s = .next ((r.setPz p { e with miss := true }).pzComplete p none t).settle)) ∧
     (∀ src f, (u.executes r p (.mov 1 src f) t → exec (.mov p pins) s = .next ((r.setPz p { e with x := movFn f (r.movSrc p src) }).pzComplete p none t).settle) ∧
       (u.executes r p (.mov 2 src f) t → exec (.mov p pins) s = .next ((r.setPz p { e with y := movFn f (r.movSrc p src) }).pzComplete p none t).settle) ∧
       (u.executes r p (.mov 3 src f) t →
         exec (.mov p pins) s = .next ((r.setPz p { e with sh := movFn f (r.movSrc p src), lvl := 32 }).pzComplete p none t).settle)) ∧
     (∀ v, (u.executes r p (.set 0 v) t → exec (.set p pins) s = .next ((r.toWindow p 8 v).pzComplete p none t).settle) ∧
       (u.executes r p (.set 1 v) t → exec (.set p pins) s = .next ((r.toDirs p 8 v).pzComplete p none t).settle) ∧
       (u.executes r p (.set 2 v) t → exec (.set p pins) s = .next ((r.setPz p { e with x := BitVec.ofNat 32 v.val }).pzComplete p none t).settle) ∧
       (u.executes r p (.set 3 v) t → exec (.set p pins) s = .next ((r.setPz p { e with y := BitVec.ofNat 32 v.val }).pzComplete p none t).settle)) ∧
     (∀ i, (u.executes r p (.flag 0 i) t → exec (.flag p pins) s = .next (({ r with flags := setBit r.flags i true } : State).pzComplete p none t).settle) ∧
       (u.executes r p (.flag 1 i) t → exec (.flag p pins) s = .next (({ r with flags := setBit r.flags i false } : State).pzComplete p none t).settle)) ∧
     (∀ src c, u.executes r p (.xfer src 3 c) t → exec (.xfer p pins) s =
       .next ((r.setPz p { e with sh := shiftIn (r.order p) e.sh (cnt c) (r.xferSrc p src), lvl := e.lvl - cnt c }).pzComplete p none t).settle) ∧
     (∀ n, u.executes r p (.pause n) t → exec (.pause p pins) s = .next (r.pzComplete p none (n.val + t)).settle))

/-- Control and commands: a start by PZG_CTRL is ignored in SAFE with its flag, else the first engine cycle is in the next core cycle; a
stop keeps everything but the idle cycles; a reset empties the engine; PZ_INJECT, PZ_PUSH, PZ_PULL and PZ_CONTROL finish with what
R313 returns; a program write needs the group stopped; PZ_FLAG_SET and PZ_FLAG_CLR write flags (R313, R370 to R373). -/
def Obligations.PretzelControlActsOnEngines : Prop :=
  (∀ (s : State) (p : Fin 16) (v : Word), s.live = true →
    ((s.pz p).run = true → exec (.pzgStart p) s = .next s.settle) ∧
    ((s.pz p).run = false →
      (s.inSafe = true → exec (.pzgStart p) s = .next (s.setRb (rPZG_STAT (p / 4)) 30 true).settle) ∧
      (s.inSafe = false → exec (.pzgStart p) s = .next
        (s.setPz p { s.pz p with run := true, startAt := s.coreAt + 4, n := 0, idle := 0, stall := 0 }).settle)) ∧
    ((s.pz p).run = true → exec (.pzgStop p) s = .next (s.setPz p { s.pz p with run := false, idle := 0, stall := 0 }).settle) ∧
    ((s.pz p).run = false → exec (.pzgStop p) s = .next s.settle) ∧
    exec (.pzgReset p) s = .next ((s.uqClear p).setPz p { pc := s.entryPc p, disc := ((s.uqClear p).pz p).disc }).settle ∧
    (∀ (g : Fin 4) (i : Fin 64), (s.groupStopped g = true → exec (.programWindowWrite g i v) s = .next (s.pzStore g i (BitVec.ofNat 16 v.toNat)).settle) ∧
      (s.groupStopped g = false → exec (.programWindowWrite g i v) s = .next (s.setRb (rPZG_STAT g) 30 true).settle)) ∧
    exec (.pzFlagSet v) s = .next ({ s with flags := s.flags ||| v } : State).settle ∧
    exec (.pzFlagClr v) s = .next ({ s with flags := s.flags &&& ~~~v } : State).settle) ∧
  (∀ (s u : State) (e : Fin 64) (c : Cmd) (p : Nat) (x : Pz), u = s.start c → p = c.byte 8 → x = u.pz p →
    (s.begins 0x80 e c →
      (u.groupStopped (p / 4) = true → exec (.pzInject e) s = .next (u.finish (s.go c) 0x17 (7 * 2 ^ 32)).settle) ∧
      (u.groupStopped (p / 4) = false → ∀ w, (x.inj = none → w = u) → (x.inj ≠ none → w = u.bump (rPZ_CNT p) 15 8) →
        exec (.pzInject e) s = .next ((w.setPz p { x with inj := some (BitVec.ofNat 16 (c.opnd 10 11)), idle := if x.run then x.idle else 0 }).finish
          (s.go c) 0 0).settle)) ∧
    (s.begins 0x81 e c → ∀ n l, n = min (c.byte 9) (u.dqSize p - x.dq.length) →
      l = (below n).map (fun k => BitVec.ofNat 32 (c.opnd (12 + 4 * k) (15 + 4 * k))) →
      exec (.pzPush e) s = .next ((u.setPz p { x with dq := x.dq ++ l }).finish (s.go c) 0 (n + 256 * (x.dq.length + n))).settle) ∧
    (s.begins 0x82 e c → ∀ held n l, held = u.recHeld p → n = (if u.rb (rPZ_REC p) 31 then 0 else min (c.byte 9) (x.uq.length - held)) →
      l = (x.uq.drop held).take n →
      exec (.pzPull e) s = .next ((u.setPz p { x with uq := x.uq.take held ++ x.uq.drop (held + n) }).finish (s.go c) 0
        (pack [(7, 0, n), (15, 8, x.uq.length - n), (63, 32, match l[0]? with | some y => y.val.toNat | none => 0),
          (95, 64, match l[1]? with | some y => y.val.toNat | none => 0)])).settle) ∧
    (s.begins 0x83 e c → c.byte 9 = 1 → s.inSafe = true → exec (.pzControl e) s = .next (u.finish (s.go c) 0x26 0).settle) ∧
    (s.begins 0x83 e c → ∀ f : State → Nat → State,
      (c.byte 9 = 0 ∧ f = State.pzStop) ∨ (c.byte 9 = 1 ∧ s.inSafe = false ∧ f = State.pzStart) ∨ (c.byte 9 = 2 ∧ f = State.pzReset) →
      ∀ w, w = ((below 4).filter (fun k => c.byte 10 / 2 ^ k % 2 = 1)).foldl (fun (y : State) k => f y (4 * p + k)) u →
      exec (.pzControl e) s = .next (w.finish (s.go c) 0 (w.pzgRun p)).settle))

/-- Decoding an encoded Pretzel instruction gives it back with its TRAIL, and a word that decodes is the word of what it decodes to: no
bit of Table 13.1 is dropped, and no reserved encoding passes for a legal one (R361). -/
def Obligations.PretzelWordsDecodeToWhatTheyEncode : Prop :=
  (∀ (i : PzOp) (t : Fin 4), pzDecode (pzEncode i t) = some (i, t)) ∧
  (∀ (w : BitVec 16) (i : PzOp) (t : Fin 4), pzDecode w = some (i, t) → pzEncode i t = w)

/-- An operation of a Pretzel engine that completes changes only the engine, the flags, the pins it drives, the engine registers and the
records handed over: no other engine, no program, no timer, no actuator and no memory (R362). -/
def Obligations.PretzelOperationsKeepTheRest : Prop :=
  ∀ (s t : State) (p : Nat) (i : PzOp) (pc : Option Nat) (idle : Nat), s.pzRun p i = .done t pc idle →
    (∃ u v w x y z, t = { s with pzs := u, flags := v, pinOut := w, pinDir := x, regs := y, hands := z }) ∧
    ∀ q, q ≠ p → t.pz q = s.pz q

/-- An increment that is due adds one to the count, wrapping at 2^32, and raises the match when the new count is the compare value and
the overflow when it wrapped; one that is not due changes nothing but the pins seen (R378, R381, R382, R383); within a core cycle the
counts of a pair come first, then its events in one order (R385). Starts, stops and re-arms: a trigger on a flag's edge or an actuator's
event starts an IDLE timer and nothing starts a privileged one but GLOBAL_START, which counts the refusal; a start begins counting at the
next increment, a stop keeps the count, a re-arm clears it; a write of TMR_CMP leaves the compare value of this core cycle in force
(R380, R383, R387, R388). -/
def Obligations.TimersIncrementStartStopAndArm : Prop :=
  (∀ (s u : State) (t : Fin 32) (pins : BitVec 32), s.live = true → u = { s with pinIn := pins } →
     (u.govern t = t.val → u.incDue t pins = true → exec (.timerIncrement t pins) s = .next (u.tmrAdd t 1).settle) ∧
     (u.govern t ≠ t.val ∨ u.incDue t pins = false → exec (.timerIncrement t pins) s = .next u.settle)) ∧
  (∀ (s b : State) (t : Nat), b = s.tmrBase t → b.linked t = false → (b.tmr t).count < 2 ^ 32 → b.cmpOf t < 2 ^ 32 →
     ∀ n, n = ((b.tmr t).count + 1) % 2 ^ 32 → s.tmrAdd t 1 =
       (b.setTmr t { b.tmr t with count := n, incAt := some b.coreAt, lastB := some b.time }).tmrEvents t (decide (n = b.cmpOf t)) (decide (n = 0))) ∧
  (∀ (s u : State) (t : Nat), s.tmrEvts t = [] →
     (∀ m o, u = { s with tmrCycs := tabSet {} s.tmrCycs (t / 2) { at_ := some s.coreAt, lo := s.tmr (evenOf t), hi := s.tmr (evenOf t + 1), evts := [(t, m, o)] } } →
       (m = false → o = false → s.tmrEvents t false false = u) ∧
       (m = true → o = false → s.tmrEvents t true false = (u.tmrShow false t).tmrEvent false t) ∧
       (m = false → o = true → s.tmrEvents t false true = (u.tmrShow true t).tmrEvent true t))) ∧
  (∀ (s : State) (t : Fin 32), s.live = true →
     ∀ sel f : Nat, sel = s.rf (rTMR_AUX t) 6 0 → f = sel % 32 →
     (s.govern t ≠ t.val ∨ s.rf (rTMR_CFG t) 10 8 = 0 ∨ 5 ≤ s.rf (rTMR_CFG t) 10 8 → exec (.timerTrigger t) s = .next s.settle) ∧
     (s.govern t = t.val →
       (s.rf (rTMR_CFG t) 10 8 = 1 → exec (.timerTrigger t) s =
         .next (if bit s.flagsPrev f = false ∧ s.flag f = true then s.startTmr t else s).settle) ∧
       (s.rf (rTMR_CFG t) 10 8 = 2 → exec (.timerTrigger t) s =
         .next (if bit s.flagsPrev f = true ∧ s.flag f = false then s.startTmr t else s).settle) ∧
       (∀ b : Bool, s.rf (rTMR_CFG t) 10 8 = (if b then 3 else 4) → exec (.timerTrigger t) s =
         .next (if sel ≤ 95 ∧ s.actMarks.contains (s.time, sel, b) = true then s.startTmr t else s).settle))) ∧
  (∀ (s : State) (t : Fin 32) (v : Word), s.live = true →
     exec (.tmrStart v) s = .next ((below 32).foldl (fun (u : State) i => if bit v i then u.startTmr i else u) s).settle ∧
     exec (.tmrStop v) s = .next ((below 32).foldl (fun (u : State) i => if bit v i then u.stopTmr i else u) s).settle ∧
     exec (.tmrArm v) s = .next ((below 32).foldl (fun (u : State) i => if bit v i then u.armTmr i else u) s).settle ∧
     exec (.tmrCmpWrite t v) s = .next ((s.setTmr t { s.tmr t with cmpWas := some (s.coreAt, s.cmpOf t) }).setReg (rTMR_CMP t) v).settle ∧
     (s.privileged t = true → s.startTmr t = s.bump rTMR_GSTAT 15 8) ∧
     (s.privileged t = false → s.startTmr t = s.startGroup t) ∧
     (s.linked t = false →
       ((s.tmr t).st = 0 → s.startGroup t = s.setTmr t { s.tmr t with st := 1, startedAt := some s.coreAt, presc := 0, lastB := none }) ∧
       ((s.tmr t).st ≠ 0 → s.startGroup t = s) ∧
       ((s.tmr t).st = 1 → s.stopTmr t = s.setTmr t { s.tmr t with st := 0 } ∧ s.armTmr t = s) ∧
       ((s.tmr t).st ≠ 1 → s.stopTmr t = s ∧ s.armTmr t = s.setTmr t { s.tmr t with st := 0, count := 0 })))

/-! ### Interrupts (chapter 15) -/

/-- Arbitration of a host target at its place in the frame, and of the monitor's in every core cycle: with nothing awaiting claim the
best eligible source is delivered; while the delivered one stays eligible a better one replaces it; once it is not, the best takes
its place or the delivery is withdrawn, either counted (R397, R398, R400). A delivery on the master fills the mailbox of its target,
which is written with its message at once where DMA is possible and then counts; a CLAIM takes a pending source into service and ends the
delivery, any other is counted; COMPLETE ends the service; INT_RNPOP takes the oldest notice, INT_RCPL completes on a slave, IE_TGT
enabling starts COUNT and the claim words afresh, disabling ends the delivery (R399, R401 to R406, R408). The always-on watch: an enabled
wake source whose condition holds sets its SEEN bit, and in WATCH records itself as the first cause with the RC periods since arming and
resets the main domain; motion counts edges no more than 8,192 periods apart up to 15 (R409, R410, R411). -/
def Obligations.InterruptsAreDeliveredClaimedAndWake : Prop :=
  (∀ (s : State) (p : Instr) (g : Nat), s.live = true →
     ((∃ h : Fin 16, p = .hostTargetArbitration h ∧ g = h.val ∧ s.time % 64 = 4 * h.val) ∨ (p = .monitorTargetArbitration ∧ g = 16)) →
     ((s.tgt g).await = none → s.best g = none → exec p s = .next s.settle) ∧
     (∀ x, (s.tgt g).await = none → s.best g = some x → exec p s = .next (s.deliver g x).settle) ∧
     (∀ a x, (s.tgt g).await = some a → s.best g = some x →
       (s.eligible g a = true → x ≠ a → s.srcPrio a < s.srcPrio x → exec p s = .next ((s.bump (rINT_TCNT g) 15 8).deliver g x).settle) ∧
       (s.eligible g a = true → s.srcPrio x ≤ s.srcPrio a → exec p s = .next s.settle) ∧
       (s.eligible g a = false → exec p s = .next ((s.bump (rINT_TCNT g) 7 0).deliver g x).settle)) ∧
     (∀ a, (s.tgt g).await = some a → s.best g = none → s.eligible g a = false → exec p s = .next (s.withdraw g).settle)) ∧
  (∀ (s : State) (h : Fin 16), s.live = true → s.time % 64 ≠ 4 * h.val → exec (.hostTargetArbitration h) s = .next s.settle) ∧
  (∀ (s : State) (g src : Nat) (v : Word),
     (s.master = true → g < 16 → ∀ u, u = s.setTgt g { s.tgt g with await := some src, mbx := some (s.mailbox g src), mbxAt := s.time } →
       s.deliver g src = u.mbxFlush g) ∧
     (∀ m, (s.tgt g).mbx = some m → (s.dmaOk = false → s.mbxFlush g = s) ∧
       (s.dmaOk = true → ∀ n, n = ((s.tgt g).count + 1) % 65536 → s.mbxFlush g = ((s.setTgt g { s.tgt g with mbx := none, count := n }).hostWrite
         (2 ^ 32 * (s.reg rMBX_BASE_HI).toNat + (s.reg rMBX_BASE_LO).toNat + 64 * g) 64 (m + 65536 * n)).msix g)) ∧
     (s.claim g 1023 = s ∧ s.complete g 1023 = s) ∧
     (src < 320 → s.srcTgt src = g → s.srcPend src = true → s.rf (rINT_THR g) 3 0 < s.srcPrio src → s.claim g src = s.takeSource g src) ∧
     (src ≠ 1023 → 320 ≤ src ∨ s.srcTgt src ≠ g ∨ s.srcPend src = false ∨ s.srcPrio src ≤ s.rf (rINT_THR g) 3 0 →
       s.claim g src = s.bump (rINT_TCNT g) 31 24) ∧
     (src < 320 → s.svcTgt src = g → s.complete g src = { s with svc := tabSet 31 s.svc src 31 }) ∧
     (src ≠ 1023 → 320 ≤ src ∨ s.svcTgt src ≠ g → s.complete g src = s.bump (rINT_TCNT g) 23 16) ∧
     (s.live = true →
       exec .intRnpopRead s = .next ({ s with ring := { s.ring with notices := s.ring.notices.tail } } : State).settle ∧
       (s.master = false → fld v 20 16 ≤ 16 → exec (.intRcplWrite v) s = .next (s.complete (fld v 20 16) (fld v 9 0)).settle) ∧
       (s.master = true ∨ 16 < fld v 20 16 → exec (.intRcplWrite v) s = .next s.settle) ∧
       exec (.ieTgtWrite v) s = .next (s.ieTgtWrite v).settle ∧
       ((∀ i < 17, bit v i = bit (s.reg rIE_TGT) i) → s.ieTgtWrite v = s.setReg rIE_TGT (v &&& 0x1FFFF)) ∧
       (g < 17 → (∀ i < 17, i ≠ g → bit v i = bit (s.reg rIE_TGT) i) →
         (bit v g = true → bit (s.reg rIE_TGT) g = false →
           s.ieTgtWrite v = (s.setTgt g { s.tgt g with count := 0, claim := none, compl := none, baseline := true }).setReg rIE_TGT (v &&& 0x1FFFF)) ∧
         (bit v g = false → bit (s.reg rIE_TGT) g = true → (s.tgt g).await = none →
           s.ieTgtWrite v = (s.setTgt g { s.tgt g with mbx := none }).setReg rIE_TGT (v &&& 0x1FFFF))))) ∧
  (∀ (s : State) (k : Wake) (ticks t : BitVec 32) (w : Fin 2) (low mv : BitVec 16),
     (s.aon.armed = false → exec (.watchWake k ticks) s = .next s.settle ∧ exec (.wakeMotionEdge w ⟨t, low, mv⟩) s = .next s.settle) ∧
     (s.wakeOk k ticks.toNat = false → exec (.watchWake k ticks) s = .next s.settle) ∧
     (s.watchEn k.cause = false → s.wakeOk k ticks.toNat = false) ∧
     (s.aon.armed = true → s.wakeOk k ticks.toNat = true → ∀ u, u = s.setRb rAON_CAUSE k.cause true →
       (u.watch = true → exec (.watchWake k ticks) s =
         .next (((u.setRf rAON_CAUSE 31 29 (k.cause + 1)).setReg rAON_TICKS (BitVec.ofNat 32 ticks.toNat)).mainReset 5).settle) ∧
       (u.watch = false → exec (.watchWake k ticks) s = .next (u.crossPulse 0 ticks.toNat 7 id).settle)) ∧
     (s.watchEn (2 + w) = false ∨ mv.toInt < (s.wakeThr w).1 ∨ (s.wakeThr w).2 < low.toInt → exec (.wakeMotionEdge w ⟨t, low, mv⟩) s = .next s.settle) ∧
     (s.aon.armed = true → s.watchEn (2 + w) = true → (s.wakeThr w).1 ≤ mv.toInt → low.toInt ≤ (s.wakeThr w).2 →
       ∀ m n, m = s.aon.motion.getD w (0, 0) → n = (if m.1 ≠ 0 ∧ t.toNat ≤ m.2 + 8192 then m.1 + 1 else 1) → exec (.wakeMotionEdge w ⟨t, low, mv⟩) s =
         .next ({ s with aon := { s.aon with motion := s.aon.motion.set w (min n 15, t.toNat) } } : State).settle))

/-- The best source of a target is pending, above its running priority and routed to it, and no eligible one has a higher PRIO, nor the
same PRIO and a lower number (R395, R397). -/
def Obligations.BestSourceIsHighestThenLowest : Prop :=
  ∀ (s : State) (g x : Nat), s.best g = some x →
    s.eligible g x = true ∧ ∀ y < 264, s.eligible g y = true → s.srcPrio y ≤ s.srcPrio x ∧ (s.srcPrio y = s.srcPrio x → x ≤ y)

/-! ### Memories, journal and fuses (chapter 16) -/

/-- The nibble-symbol code: every memory word encodes to a codeword whose three syndromes are zero and which reads back plain with the
word in bits 39:0; with any error confined to one of its 13 symbols it reads back corrected, and with an error in two of them never
plain (R413, R414). -/
def Obligations.NibbleCodeCorrectsOneSymbol : Prop :=
  ∀ (w : MemWord), (∀ k < 3, syndrome (eccEncode w) k = 0) ∧ eccRead (eccEncode w) = (eccEncode w, .plain) ∧ eccData (eccEncode w) = w ∧
    (∀ (i : Fin 13) (e : Sym), e ≠ 0 → eccRead (eccEncode w ^^^ (e.setWidth 52 <<< (4 * i.val))) = (eccEncode w, .corrected)) ∧
    (∀ (i j : Fin 13) (e f : Sym), i ≠ j → e ≠ 0 → f ≠ 0 →
      (eccRead (eccEncode w ^^^ (e.setWidth 52 <<< (4 * i.val)) ^^^ (f.setWidth 52 <<< (4 * j.val)))).2 = .uncorrectable)

/-- The scrubber reads its next word once its interval has passed and moves to the next word, after the last of memory 12 to memory 1
with a pass counted; a unit reads a word of its memory. What a read of a word finds follows from its codeword: with no bit upset
nothing but the upset bits is stored; a corrected word is written back and counted, an uncorrectable one sets UNC, counts and has the
reaction of its memory (R414 to R417). Fuses: the key opens its window and another value does nothing; BURN_MAP and SEAL start only when
every condition holds and else set OP_REJ; an operation that ends with none running, or short with the supply right, does nothing; SEAL
done seals the part, cut short it leaves FAIL and seals from 15 fuses on; a shadow write on a sealed part, or with the map in use,
writes nothing and sets SHADOW_REJ, and else writes its row, powers down lanes it disables and arms the watchdog (R430, R433). -/
def Obligations.ScrubberAndFuses : Prop :=
  (∀ (s r : State) (flips : BitVec 52), s.live = true → r = s.ramRead s.scrub.id s.scrub.word flips →
     (s.scrubDue = true ↔ s.scrub.last + 64 * (s.rf rMEM_CFG 7 0 + 1) < s.time + 4) ∧
     (s.scrubDue = false → exec (.scrubVisit ⟨none, flips⟩) s = .next s.settle) ∧
     (s.scrubDue = true →
       (s.scrub.word + 1 < memSize s.scrub.id → exec (.scrubVisit ⟨none, flips⟩) s =
         .next ({ r with scrub := { id := s.scrub.id, word := s.scrub.word + 1, last := r.time } } : State).settle) ∧
       (memSize s.scrub.id ≤ s.scrub.word + 1 → s.scrub.id ≠ 12 → exec (.scrubVisit ⟨none, flips⟩) s =
         .next ({ r with scrub := { id := s.scrub.id % 12 + 1, word := 0, last := r.time } } : State).settle) ∧
       (memSize s.scrub.id ≤ s.scrub.word + 1 → s.scrub.id = 12 → exec (.scrubVisit ⟨none, flips⟩) s =
         .next ({ r.bump rMEM_CNT 11 0 with scrub := { id := 1, word := 0, last := r.time } } : State).settle)) ∧
     (∀ (id : Fin 16) (w : Fin 8192),
       (1 ≤ id.val → id.val ≤ 12 → w.val < memSize id → exec (.scrubVisit ⟨some (id, w), flips⟩) s = .next (s.ramRead id w flips).settle) ∧
       (¬(1 ≤ id.val ∧ id.val ≤ 12 ∧ w.val < memSize id) → exec (.scrubVisit ⟨some (id, w), flips⟩) s = .next s.settle))) ∧
  (∀ (s u : State) (id w : Nat) (flips m : Codeword) (d : Codeword) (k : Read), m = tabGet 0 s.upsets (ramKey id w) ^^^ flips →
     u = { s with upsets := tabSet 0 s.upsets (ramKey id w) m } → eccRead (eccEncode (s.ramData id w) ^^^ m) = (d, k) →
     (m = 0 → s.ramRead id w flips = u) ∧
     (m ≠ 0 → k = .plain → s.ramRead id w flips = (u.ramPut id w (d.setWidth 40)).rewrote id w 1) ∧
     (m ≠ 0 → k = .corrected → s.ramRead id w flips =
       (((u.ramPut id w (d.setWidth 40)).rewrote id w 1).bump rMEM_CNT 23 12).memNote false id w) ∧
     (m ≠ 0 → k = .uncorrectable → s.ramRead id w flips = ((u.bump rMEM_CNT 31 24).memNote true id w).memReact id w)) ∧
  (∀ (s : State) (w : Nat) (x : Domain), x = s.dom (w / 1024) →
     s.memReact 1 w = s.setDom (w / 1024) { x with tableValid := false, row1 := if s.domEn (w / 1024) && !s.domRing (w / 1024) then some 3 else x.row1 } ∧
     s.memReact 2 w = ({ s with corrs := tabSet 0 s.corrs w 0 } : State).rewrote 2 w 1 ∧
     s.memReact 3 w = (s.logDrop (w / 512) (w % 512)).rewrote 3 w 1 ∧
     s.memReact 7 w = ({ s with duty := tabSet 0 s.duty w (s.subLen (w / 16)) } : State).rewrote 7 w 1 ∧
     (∀ c, s.cmdAt (w / 7) = some c → s.memReact 8 w = s.finishFrom c s.devAddr s.time 0x7F 0) ∧
     (s.cmdAt (w / 7) = none → s.memReact 8 w = s) ∧
     s.memReact 9 w = (s.fifoDrop (w / 7)).rewrote 9 w 1 ∧ s.memReact 10 w = s ∧
     s.memReact 12 w = (s.fbLost (w / 1536) (w % 1536)).rewrote 12 w 1 ∧
     ∀ id ∈ [4, 5, 6, 11], s.memReact id w = s.latchCause 5) ∧
  (∀ (s r : State), s.live = true → r = s.setRb rFUSE_STAT 28 true →
     exec (.fuseKey 0x0000B0C5) s = .next { s with fuses := { s.fuses with keyAt := some s.time } }.settle ∧
     (∀ v, v ≠ 0x0000B0C5 → exec (.fuseKey v) s = .next s.settle) ∧
     (s.fuseMay = true ↔ ((∃ t, s.fuses.keyAt = some t ∧ s.time ≤ t + 1000000) ∧ s.sealed = false ∧ s.inRun = true ∧
       (∀ a < 96, (s.act a).bound = false) ∧ 90 ≤ s.vsup ∧ s.vsup ≤ 360 ∧ s.dip = false ∧ s.fuses.op = none)) ∧
     (s.fuseMay = true ∧ s.rb rFUSE_STAT 30 = false →
       exec .burnMap s = .next { s with fuses := { s.fuses with op := some (1, s.time) } }.settle) ∧
     (s.fuseMay = false ∨ s.rb rFUSE_STAT 30 = true → exec .burnMap s = .next r.settle) ∧
     (s.fuseMay = true ∧ s.rb rFUSE_STAT 30 = true ∧ s.rb rFUSE_STAT 29 = false ∧ s.mapMatches = true →
       exec .seal s = .next { s with fuses := { s.fuses with op := some (2, s.time) } }.settle) ∧
     (s.fuseMay = false ∨ s.rb rFUSE_STAT 30 = false ∨ s.rb rFUSE_STAT 29 = true ∨ s.mapMatches = false → exec .seal s = .next r.settle)) ∧
  (∀ (s u : State) (n : Fin 43) (bad : BitVec 42), s.live = true → u = { s with fuses := { s.fuses with op := none } } →
     (s.fuses.op = none → exec (.fuseOpDone n bad) s = .next s.settle) ∧
     (∀ t, s.fuses.op = some (1, t) →
       (n.val < 42 → s.fuseSupply = true → exec (.fuseOpDone n bad) s = .next s.settle) ∧
       (n.val = 42 → exec (.fuseOpDone n bad) s =
         .next (((below 42).foldl (fun (x : State) i => x.burnWord i (bit bad i)) u).setRb rFUSE_STAT 30 true).settle) ∧
       (n.val < 42 → s.fuseSupply = false → ∀ w, w = ((below n.val).foldl (fun (x : State) i => x.burnWord i (bit bad i)) u).setRb rFUSE_STAT 30 true →
         ∀ ws, ws = (if tabGet 0 w.fuses.words (111 + n) = 0 then tabSet 0 w.fuses.words (111 + n) partWord else w.fuses.words) →
           exec (.fuseOpDone n bad) s = .next (({ w with fuses := { w.fuses with words := ws } } : State).setRb rFUSE_STAT 29 true).settle)) ∧
     (∀ t w, s.fuses.op = some (2, t) →
       w = ({ u with fuses := { u.fuses with blown := max s.fuses.blown (min n.val 28) }, sealed := decide (15 ≤ max s.fuses.blown (min n.val 28)) } : State) →
       (28 ≤ n.val → exec (.fuseOpDone n bad) s = .next w.settle) ∧
       (n.val < 28 → s.fuseSupply = true → exec (.fuseOpDone n bad) s = .next s.settle) ∧
       (n.val < 28 → s.fuseSupply = false → exec (.fuseOpDone n bad) s = .next (w.setRb rFUSE_STAT 29 true).settle))) ∧
  (∀ (s w : State) (i : Fin 107) (v : Word), s.live = true → w = (match rowOf (0x7000 + 4 * i) with
       | some r => s.setReg (0x7000 + 4 * i) (rowWrite r (s.reg (0x7000 + 4 * i)) v) | none => s) →
     (s.sealed = true ∨ s.mapIdle = false → exec (.shadowWrite i v) s = .next (s.setRb rFUSE_STAT 27 true).settle) ∧
     (s.sealed = false → s.mapIdle = true →
       (96 ≤ i.val → i.val < 102 → exec (.shadowWrite i v) s = .next (w.lanesOut (i - 96)).wdArm.settle) ∧
       (i.val < 96 ∨ 102 ≤ i.val → exec (.shadowWrite i v) s = .next w.wdArm.settle)))

/-- The journal writes: an object pending for AUTO_INT seconds joins the crumbs due, and during a dip the next object of the flush is
committed at a frame start, whatever CRUMB_DUE names else doing nothing; a word that verifies is stored with its check symbols, the next
follows, and with the last the crumb, the copy or the bank header is complete; a sector is erased to zeros, the first counting an
erasure, the last beginning the copies; with no commit and no compaction nothing happens; a crumb is committed at the append point if it
fits (R420, R421, R424, R427). The journal's commands: JRN_FLUSH with nothing pending ends at once with 0 and else waits for the crumbs
it joins to those due; JRN_READ writes the words asked for and returns their number and the uncorrectable ones; JRN_WRITE reads its
image first, and then its crumb joins those due; JRN_COMPACT is refused while a compaction runs and else begins one (R314, R421, R424). -/
def Obligations.JournalCommitsAndCommands : Prop :=
  (∀ (s : State) (k y : Fin 256), s.live = true →
     (s.dip = false → ∀ t, t = tabGet 0 s.jrn.since (objKey k y) → ∀ g : Prop, g = (1 ≤ k.val ∧ k.val ≤ 5 ∧ s.rb rJRN_CFG (26 + k.val) = true ∧ t ≠ 0 ∧
         (∀ d ∈ s.jrn.due, ¬(d.kind = k ∧ d.key = y)) ∧ (∀ c, s.jrn.commit = some c → ¬(c.kind = k ∧ c.key = y)) ∧
         t - 1 + 1000000000 * max 1 (s.rf rJRN_CFG 15 8) < s.time + 4) →
       (g → exec (.crumbDue k y) s = .next ((s.setJrn { s.jrn with due := s.jrn.due ++ [{ kind := k, key := y }] }).jrnNext).settle) ∧
       (¬g → exec (.crumbDue k y) s = .next s.settle)) ∧
     (s.dip = true → s.time % 64 ≠ 0 ∨ s.jrn.commit.isSome = true ∨ s.time ≤ s.jrn.dipFrom ∨ s.heading = true → exec (.crumbDue k y) s = .next s.settle) ∧
     (s.dip = true → s.time % 64 = 0 → s.jrn.commit = none → s.jrn.dipFrom < s.time → s.heading = false →
       (∀ o, s.dipFirst = some o →
         (o = (k.val, y.val) → exec (.crumbDue k y) s = .next (s.commitDue { kind := k, key := y }).settle) ∧
         (o ≠ (k.val, y.val) → exec (.crumbDue k y) s = .next s.settle)) ∧
       (s.dipFirst = none →
         (∀ d l, s.jrn.due = d :: l → d.kind = k → d.key = y → exec (.crumbDue k y) s = .next (s.commitDue d).settle) ∧
         (∀ d l, s.jrn.due = d :: l → ¬(d.kind = k ∧ d.key = y) → exec (.crumbDue k y) s = .next s.settle) ∧
         (s.jrn.due = [] → exec (.crumbDue k y) s = .next s.settle)))) ∧
  (∀ (s : State), s.live = true →
     (∀ ok, s.jrn.commit = none → exec (.crumbWordWritten ok) s = .next s.settle) ∧
     (∀ c u d, s.jrn.commit = some c → u = s.nvWrite c.bank (c.at_ + c.done) (eccEncode (c.words.getD c.done 0)) → d = { c with done := c.done + 1 } →
       exec (.crumbWordWritten false) s = .next (s.verifyFail c).settle ∧
       (d.done < c.words.length → exec (.crumbWordWritten true) s = .next (u.setJrn { u.jrn with commit := some d }).settle) ∧
       (c.words.length ≤ d.done →
         (s.jrn.compact = none ∨ c.bank = s.jrn.live → exec (.crumbWordWritten true) s = .next (u.committed d).jrnNext.settle) ∧
         (∀ k, s.jrn.compact = some k → c.bank ≠ s.jrn.live → c.kind = 0xFF → exec (.crumbWordWritten true) s = .next (u.compacted d k).jrnNext.settle) ∧
         (∀ k, s.jrn.compact = some k → c.bank ≠ s.jrn.live → c.kind ≠ 0xFF → exec (.crumbWordWritten true) s = .next (u.copied d k).jrnNext.settle))) ∧
     (s.jrn.compact = none → exec .sectorEraseDone s = .next s.settle) ∧
     (∀ k n u, s.jrn.compact = some k → n = 1 - s.jrn.live → u = s.setJrn { s.jrn with
         nv := tabClear (65536 * n + 1024 * k.sectors) (65536 * n + 1024 * (k.sectors + 1)) s.jrn.nv
         compact := some { k with sectors := k.sectors + 1 } } →
       (k.step ≠ 1 ∨ s.dip = true → exec .sectorEraseDone s = .next s.settle) ∧
       (k.step = 1 → s.dip = false →
         (k.sectors ≠ 0 → k.sectors + 1 < 64 → exec .sectorEraseDone s = .next u.settle) ∧
         (k.sectors ≠ 0 → 64 ≤ k.sectors + 1 → exec .sectorEraseDone s = .next
           (u.setJrn { u.jrn with compact := some { k with step := 2, sectors := 64, todo := s.jrn.crumbs } }).jrnNext.settle) ∧
         (k.sectors = 0 → ∀ e, e = (match s.bankHeader n with | some h => h.2.1 + 1 | none => (s.reg (rJRN_WEAR s.jrn.live)).toNat + 1) →
           (e ≤ 90000 → exec .sectorEraseDone s = .next (u.setReg (rJRN_WEAR n) (BitVec.ofNat 32 e)).settle) ∧
           (90000 < e → exec .sectorEraseDone s = .next ((u.setReg (rJRN_WEAR n) (BitVec.ofNat 32 e)).setRb rJRN_STAT 6 true).settle)))) ∧
     (∀ (d : Due) (pay : List MemWord), pay = (if d.ord.isSome then d.words else s.object d.kind d.key) → s.jrn.append + pay.length + 3 ≤ 65536 → s.dip = false →
       s.commitDue d = (s.setJrn { s.jrn with
         due := s.jrn.due.filter (fun x => x != d)
         commit := some { kind := d.kind, key := d.key, words := crumbWords d.kind d.key s.nextSeq pay, bank := s.jrn.live, at_ := s.jrn.append
                          seq := s.nextSeq, ord := d.ord } }).setRb rJRN_STAT 30 true)) ∧
  (∀ (s u : State) (e : Fin 64) (c : Cmd), u = s.start c → c.phase = 0 →
     (s.begins 0x90 e c → exec (.jrnFlush e) s = .next (u.jrnFlush (s.go c)).settle) ∧
     ((∀ o ∈ jrnObjects, u.differs o.1 o.2 = false) → u.jrn.commit = none → u.jrn.due = [] → u.jrnFlush (s.go c) = u.finish (s.go c) 0 0) ∧
     (u.jrn.commit = none → u.jrn.due = [] → ∀ objs, objs = jrnObjects.filter (fun o => u.differs o.1 o.2) → objs ≠ [] →
       u.jrnFlush (s.go c) = ((u.modCmd c.ord (fun x => { x with phase := 1 })).setJrn { u.jrn with
         due := objs.map (fun o => ({ kind := o.1, key := o.2 } : Due)), flushes := u.jrn.flushes ++ [(c.ord, objs, 0)] }).jrnNext) ∧
     (s.begins 0x91 e c →
       (u.bufReady c.ord = false → exec (.jrnRead e) s = .next u.settle) ∧
       (u.bufReady c.ord = true → ∀ l r w, l = u.nvWords u.jrn.live (c.opnd 16 19) (c.opnd 20 21) →
         r = pack [(15, 0, c.opnd 20 21), (31, 16, (l.filter (fun p => p.2 == .uncorrectable)).length)] →
         w = ((u.nvCount (c.opnd 16 19) l).modCmd c.ord (fun x => { x with phase := 1, result := r })).bufWrite c.ord (c.opnd 8 15) (8 * c.opnd 20 21)
           (l.foldr (fun p a => a * 2 ^ 64 + (if p.2 = .uncorrectable then 2 ^ 63 else p.1.toNat)) 0) →
         (w.bufReady c.ord = true → exec (.jrnRead e) s = .next (w.finish (s.go c) 0 r).settle) ∧
         (w.bufReady c.ord = false → exec (.jrnRead e) s = .next w.settle))) ∧
     (s.begins 0x92 e c → exec (.jrnWrite e) s = .next
       ((u.modCmd c.ord (fun x => { x with phase := 1 })).fetchStart c.ord (c.opnd 8 15) (8 * c.opnd 18 19)).settle) ∧
     (s.begins 0x93 e c →
       (∀ k, u.jrn.compact = some k → exec (.jrnCompact e) s = .next (u.finish (s.go c) 0x17 (0x08 * 2 ^ 32)).settle) ∧
       (u.jrn.compact = none →
         exec (.jrnCompact e) s = .next ((u.modCmd c.ord (fun x => { x with phase := 1 })).compactStart (some c.ord)).settle))) ∧
  (∀ (s u : State) (e : Fin 64) (c : Cmd), u = s.modCmd c.ord (fun x => { x with phase := 2 }) →
     (s.runsOn 0x90 e c → c.phase = 1 → exec (.jrnFlush e) s = .next s.settle) ∧
     (s.runsOn 0x91 e c → c.phase = 1 →
       (c.failed = true → exec (.jrnRead e) s = .next (s.finish c 0x16 0).settle) ∧
       (c.failed = false → s.bufReady c.ord = true → exec (.jrnRead e) s = .next (s.finish c 0 c.result).settle) ∧
       (c.failed = false → s.bufReady c.ord = false → exec (.jrnRead e) s = .next s.settle)) ∧
     (s.runsOn 0x92 e c → c.phase = 1 →
       (c.failed = true → exec (.jrnWrite e) s = .next (s.finish c 0x16 0).settle) ∧
       (c.failed = false → c.ready = false → exec (.jrnWrite e) s = .next s.settle) ∧
       (c.failed = false → c.ready = true → exec (.jrnWrite e) s = .next ((u.setJrn { s.jrn with due := s.jrn.due ++
         [{ kind := c.byte 16, key := 0, words := imageWords (c.opnd 18 19) c.data, ord := some c.ord }] }).jrnNext).settle)) ∧
     (s.runsOn 0x92 e c → 2 ≤ c.phase → exec (.jrnWrite e) s = .next s.settle) ∧
     (s.runsOn 0x93 e c → c.phase = 1 → exec (.jrnCompact e) s = .next s.settle))

/-! ### Power, clocks, reset, SAFE and the monitor (chapters 17 and 18) -/

/-- Supply and clock events: a dip begins and ends at a frame start by its level, hysteresis and filter, its end not before the hold
switch has been off for 10 us; an undervoltage sets its flag and counts, a failure also resets the main domain; losing PLL lock is SAFE
cause 6 without a reset; the shell temperature warns and stops warning 20 codes below, latches SAFE cause 7 at 0x1C0 and resets and
holds at 0x1D4, until it is below 0x1AC (R217, R437, R438, R443, R446). Start-up takes seven steps in order; the second needs a clock
source and sets TIME to 0, the third loads the fuses (start-up stops after it where TESTMODE asks for vendor test, R480), the sixth
scans the journal, and the seventh is READY, a low SAFE_N then leading to SAFE (R442, R452, R465). -/
def Obligations.SupplyClockAndStartup : Prop :=
  (∀ (s : State) (v : Fin 1024) (us : Fin 64), s.live = true →
     (s.time % 64 = 0 → s.dip = false → v.val < s.warnLevel → fld s.pwr.vsupReg 15 12 ≤ us.val → exec (.vsupDipBegin v us) s =
       .next ((({ s with dip := true, jrn := { s.jrn with dipFrom := s.time }, holdArm := s.jrn.commit.isSome } : State).setRb rPWR_STAT 26 true).bump
         rPWR_CNT 31 24).settle) ∧
     (s.time % 64 ≠ 0 ∨ s.dip = true ∨ s.warnLevel ≤ v.val ∨ us.val < fld s.pwr.vsupReg 15 12 → exec (.vsupDipBegin v us) s = .next s.settle) ∧
     (s.time % 64 = 0 → s.dip = true → s.holdAt = none → s.holdOffAt + 10000 ≤ s.time → s.warnLevel + s.warnHyst ≤ v.val → 10 ≤ us.val →
       exec (.vsupDipEnd v us) s = .next ({ s with dip := false, holdArm := false } : State).jrnNext.settle) ∧
     (s.time % 64 ≠ 0 ∨ s.dip = false ∨ s.holdAt ≠ none ∨ s.time < s.holdOffAt + 10000 ∨ v.val < s.warnLevel + s.warnHyst ∨ us.val < 10 →
       exec (.vsupDipEnd v us) s = .next s.settle)) ∧
  (∀ (s : State), s.watch = false → s.held = false →
     (∀ r : Fin 5, s.boot ≠ 0 →
       exec (.railUndervoltage r) s = .next ((s.setRb rPWR_STAT (25 - r) true).bump rPWR_CNT 23 16).settle ∧
       exec (.railFailure r) s = .next ((s.setRb rPWR_STAT (25 - r) true).mainReset 2).settle) ∧
     (∀ r : Fin 5, s.boot = 0 → exec (.railUndervoltage r) s = .next s.settle ∧ exec (.railFailure r) s = .next s.settle) ∧
     (2 ≤ s.boot → s.rb rCLK_STAT 29 = true → exec .pllUnlock s =
       .next ((((s.setRb rCLK_STAT 29 false).setRb rCLK_STAT 28 true).bump rPWR_CNT 15 8).latchCause 6).settle) ∧
     (s.boot < 2 ∨ s.rb rCLK_STAT 29 = false → exec .pllUnlock s = .next s.settle) ∧
     (2 ≤ s.boot → exec .pllRelock s = .next (s.setRb rCLK_STAT 29 true).settle) ∧
     (s.boot < 2 → exec .pllRelock s = .next s.settle)) ∧
  (∀ (s u v w : State) (c : Fin 1024), u = s.setRf rPWR_MEAS 9 0 c.val →
     v = (if s.rf rPWR_TEMP 31 22 ≤ c.val then u.setRb rPWR_TEMP 20 true
       else if c.val + 20 < s.rf rPWR_TEMP 31 22 then u.setRb rPWR_TEMP 20 false else u) →
     w = v.setRb rPWR_TEMP 21 true →
     (s.live = true → c.val < 0x1C0 → exec (.shellTempSample c) s = .next (v.setRb rPWR_TEMP 21 false).settle) ∧
     (s.live = true → 0x1C0 ≤ c.val → c.val < 0x1D4 →
       (s.rb rPWR_TEMP 21 = false → exec (.shellTempSample c) s = .next (w.latchCause 7).settle) ∧
       (s.rb rPWR_TEMP 21 = true → exec (.shellTempSample c) s = .next w.settle)) ∧
     (s.live = true → 0x1D4 ≤ c.val → ∀ m, m = (if s.rb rPWR_TEMP 21 then w else w.latchCause 7).mainReset 3 →
       exec (.shellTempSample c) s = .next ({ m with held := true, pwr := { m.pwr with overheat := true } } : State).settle) ∧
     (s.held = true → s.pwr.overheat = true → c.val < 0x1AC → exec (.shellTempSample c) s =
       .next ({ s with held := s.pwr.brownHeld, pwr := { s.pwr with overheat := false } } : State).settle) ∧
     (s.held = true → s.pwr.overheat = false ∨ 0x1AC ≤ c.val → exec (.shellTempSample c) s = .next s.settle)) ∧
  (∀ (s : State) (slave test xtal refclk : Bool) (trays : BitVec 4), s.watch = false → s.held = false →
     (s.boot = 0 → exec (.startupStep slave test xtal refclk trays) s = .next ({ s with boot := 1, master := !slave, pwr := { s.pwr with testmode := test } } : State).settle) ∧
     (s.boot = 1 → s.refChoice xtal refclk = 0 → exec (.startupStep slave test xtal refclk trays) s = .next s.settle) ∧
     (∀ r, s.boot = 1 → r = s.refChoice xtal refclk → r ≠ 0 → exec (.startupStep slave test xtal refclk trays) s =
       .next ({ (((s.setRf rCLK_STAT 31 30 r).setRb rCLK_STAT 29 true).setRb rCLK_STAT 27 xtal).setRb rCLK_STAT 26 refclk with boot := 2, time := 0 } : State).settle) ∧
     (s.boot = 2 → exec (.startupStep slave test xtal refclk trays) s = .next ({ s.fuseLoad with boot := 3 } : State).settle) ∧
     (s.boot = 3 → s.vendorStop = true → exec (.startupStep slave test xtal refclk trays) s = .next s.settle) ∧
     (s.boot = 3 → s.vendorStop = false → exec (.startupStep slave test xtal refclk trays) s = .next ({ s with boot := 4 } : State).settle) ∧
     (s.boot = 4 → exec (.startupStep slave test xtal refclk trays) s =
       .next ({ s.setRf rCLK_STAT 25 22 trays.toNat with boot := 5, pwr := { s.pwr with trays := trays.toNat } } : State).settle) ∧
     (s.boot = 5 → exec (.startupStep slave test xtal refclk trays) s = .next ({ s.jrnStart with boot := 6 } : State).settle) ∧
     (s.boot = 6 → exec (.startupStep slave test xtal refclk trays) s = .next s.ready.settle) ∧
     (7 ≤ s.boot → exec (.startupStep slave test xtal refclk trays) s = .next s.settle))

/-- Resets: POWER_ON_RESET and the key 0x0000D1E5 in RST_CTRL act at once, another value and TRST do nothing to the main domain; a
brown-out latches SAFE cause 8 and resets once every safe end has finished, after 10 ms, or at once where the supply falls further;
release comes with the supply unless the die is still hot (R439, R440, R441). A reset of the main domain keeps what Table 17.2 keeps
and nothing else of the running state: the AON registers, the words of the nonvolatile array and the fuses as a cut operation leaves
them; start-up begins again from TIME 0 with the cause set (R425, R440). -/
def Obligations.ResetsActAndClearTheMainDomain : Prop :=
  (∀ (s : State),
     exec .powerOnReset s = .next ({ s.cleared with held := false, pwr := { safeNLow := s.pwr.safeNLow } }.setReg rRST_CAUSE 1).settle ∧
     exec .trstReset s = .next s ∧
     (s.live = true → (exec (.softReset 0x0000D1E5) s = .next (s.mainReset 4).settle) ∧ ∀ v, v ≠ 0x0000D1E5 → exec (.softReset v) s = .next s.settle) ∧
     (s.held = false → s.pwr.brownAt = none → ∀ u, u = { s with pwr := { s.pwr with brownAt := some s.time } } →
       (s.watch = false → exec .brownout s = .next (u.latchCause 8).settle) ∧ (s.watch = true → exec .brownout s = .next u.settle)) ∧
     (s.held = true ∨ s.pwr.brownAt ≠ none → exec .brownout s = .next s.settle) ∧
     (∀ early, s.pwr.brownAt = none → exec (.brownoutReset early) s = .next s.settle) ∧
     (∀ early t u g, s.pwr.brownAt = some t → u = s.mainReset 1 → g = (early = true ∨ (s.outputsEnded = true ∧ s.safePend = false) ∨ t + 10000000 ≤ s.time) →
       (g → exec (.brownoutReset early) s = .next ({ u with held := true, pwr := { u.pwr with brownHeld := true } } : State).settle) ∧
       (¬g → exec (.brownoutReset early) s = .next s.settle)) ∧
     (s.pwr.brownHeld = true → exec .resetRelease s =
       .next ({ s with held := s.pwr.overheat, pwr := { s.pwr with brownHeld := false } } : State).settle) ∧
     (s.pwr.brownHeld = false → exec .resetRelease s = .next s.settle)) ∧
  (∀ (s : State) (k : Nat), s.jrn.commit = none → s.jrn.compact = none → s.fuses.op = none → k < 6 →
     (s.mainReset k).boot = 0 ∧ (s.mainReset k).time = 0 ∧ (s.mainReset k).run = 0 ∧ (s.mainReset k).watch = false ∧ (s.mainReset k).safePend = false ∧
     (s.mainReset k).jrn.nv = s.jrn.nv ∧ (s.mainReset k).fuses.words = s.fuses.words ∧ (s.mainReset k).fuses.blown = s.fuses.blown ∧
     (s.mainReset k).pending = s.pending ∧ (s.mainReset k).cmds = [] ∧ (s.mainReset k).slots = [] ∧ (s.mainReset k).hands = [] ∧
     (s.mainReset k).reg rAON_WATCH = s.reg rAON_WATCH ∧ (s.mainReset k).reg rAON_CAUSE = s.reg rAON_CAUSE ∧
     (s.mainReset k).reg rCLK_CFG = s.reg rCLK_CFG ∧ (s.mainReset k).reg rRST_CAUSE = setBit (s.reg rRST_CAUSE) k true ∧
     (s.mainReset k).rb rKR_CFG 30 = s.rb rKR_CFG 30 ∧
     ∀ a, a ∉ [rAON_WATCH, rAON_CAUSE, rAON_TICKS, rRST_CAUSE, rCLK_CFG, rKR_CFG] → (s.mainReset k).reg a = resetOf a)

/-- Run states: a request waits in RUN_CTRL for the frame start, where it is taken, refused with the reason of Table 17.3 or without
effect; DOZE exit ends at the first frame start 22 us after the trays restarted, the writes that waited then being made, WATCH is entered
once the journal is done and the records are drained or cannot drain (R34, R445, R447, R448, R451). FRAME_START: at TIME mod 64 = 0, and
at no other time, the frame's judgements act in this order: feedback tables, the journal's pending objects, the warning level, the trays,
the run-state request, SAFE's DONE and exit, then the locks of the frame; an exit from SAFE is taken
exactly where every condition holds (R29, R34, R438, R468). -/
def Obligations.RunStatesAndFrameStarts : Prop :=
  (∀ (s : State), s.live = true →
     exec .requestRun s = .next ({ s with pwr := { s.pwr with req := 1 } } : State).settle ∧
     exec .requestDoze s = .next ({ s with pwr := { s.pwr with req := 2 } } : State).settle ∧
     exec .requestWatch s = .next ({ s with pwr := { s.pwr with req := 3 } } : State).settle ∧
     (s.run = 3 → s.time % 64 = 0 → s.pwr.seqAt + 22000 ≤ s.time →
       exec .dozeExitDone s = .next (({ s with run := 0 } : State).bump rXING_CNT 15 8).barDrain.settle) ∧
     (s.run ≠ 3 ∨ s.time % 64 ≠ 0 ∨ s.time < s.pwr.seqAt + 22000 → exec .dozeExitDone s = .next s.settle) ∧
     (s.run ≠ 4 ∨ s.jrn.commit ≠ none ∨ s.jrn.due ≠ [] ∨ (s.hands ≠ [] ∧ s.drains = true) → exec .watchEntryDone s = .next s.settle) ∧
     (s.run = 4 → s.jrn.commit = none → s.jrn.due = [] → s.hands = [] ∨ s.drains = false → ∃ t, exec .watchEntryDone s = .next t ∧
       t.watch = true ∧ t.aon.armed = true ∧ t.boot = 0 ∧ t.pending = s.pending ∧ t.reg rAON_WATCH = s.reg rAON_WATCH)) ∧
  (∀ (s u w : State), s.live = true →
     (s.time % 64 ≠ 0 → exec .frameStart s = .next s.settle) ∧
     (s.time % 64 = 0 → u = s.fbTick.jrnNote.peekFill →
       w = ({ u with pwr := { u.pwr with vsupReg := u.reg rPWR_VSUP } } : State).safeTrays.runRequest.safeDone.exitRequest →
       (w.run = 0 → exec .frameStart s = .next (({ w with devLog := { w.devLog with runNs := w.devLog.runNs + 64 } } : State).lockFrame).barDrain.settle) ∧
       (w.run ≠ 0 → exec .frameStart s = .next w.lockFrame.barDrain.settle))) ∧
  (∀ (s u : State) (c : Nat), u = { s with pwr := { s.pwr with req := 0 } } → c = s.runJudge s.pwr.req →
     (s.pwr.req = 0 → s.runRequest = s) ∧
     (s.pwr.req ≠ 0 →
       (c = 6 → s.runRequest = u) ∧
       (1 ≤ c → c ≤ 5 → s.runRequest = (u.setRf rRUN_CTRL 29 27 c).setRb rRUN_CTRL 26 true) ∧
       (c = 0 → s.pwr.req = 1 → s.runRequest = { u.traysUp with run := 3 }) ∧
       (c = 0 → s.pwr.req = 2 → s.runRequest = { u.dozeDown with run := 1 }) ∧
       (c = 0 → s.pwr.req = 3 → s.run = 1 → s.runRequest = { u.flushAll with run := 4 }) ∧
       (c = 0 → s.pwr.req = 3 → s.run ≠ 1 → s.runRequest = { u.dozeDown.flushAll with run := 4 }))) ∧
  (∀ s : State, (s.pwr.exitReq = false → s.exitRequest = s) ∧
     (s.exitJudge = 0 ↔ (s.inSafe = true ∧ s.pwr.safeNLow = false ∧ s.safeActive = 0 ∧ s.rf rSAFE_CAUSE 9 0 = 0 ∧ s.rb rSAFE_STAT 30 = true ∧
       (s.monAuth = 3 → s.rb rSAFE_STAT 25 = true))))

/-- The monitor port: a transaction of 48 clocks with a right CRC is executed when MON_CS_N rises, any other is discarded with DISC and
MON_STAT's flag; a read or an allowed write is accepted and counted, a write to a read-only or reserved register is refused; the
watchdog's window ending without a kick is a violation, which warns and at the limit is SAFE cause 2 (R457, R458, R459, R461, R462).
REGISTER_WRITE: through BAR0 it needs the decoding of R251 and is else an Unsupported Request; with a byte enable missing it is discarded
and counted on the master; a register in a stopped tray waits, and a write through BAR0 waits behind one that waits; a plain register
takes its writable bits, which read back, and no other register's stored bits, no memory and no other state changes (R251, R258, R259,
R451). -/
def Obligations.MonitorAndRegisterWrites : Prop :=
  (∀ (s u : State) (full : Bool) (fa fb fc : MonWord), s.live = true → u = { s with monp := { s.monp with sdo := s.monSdo fa } } →
     (monDiscard full fa fb fc = true → exec (.monitorTransaction full fa fb fc) s = .next
       ({ u.setMon 1 (setBit (u.monReg 1) 7 true) with monp := { u.monp with disc := true } } : State).settle) ∧
     (full = false → monDiscard full fa fb fc = true) ∧
     (monDiscard full fa fb fc = false → ∀ v, v = { u with monp := { u.monp with disc := false, accepted := (u.monp.accepted + 1) % 8 } } →
       (fa.msb = false → exec (.monitorTransaction full fa fb fc) s = .next v.settle) ∧
       (fa.msb = true → v.monRefused (fld fa 14 8) fb = true →
         exec (.monitorTransaction full fa fb fc) s = .next ({ v with monp := { v.monp with refused := true } } : State).settle) ∧
       (fa.msb = true → v.monRefused (fld fa 14 8) fb = false →
         exec (.monitorTransaction full fa fb fc) s = .next (({ v with monp := { v.monp with refused := false } } : State).monWrite (fld fa 14 8) fb).settle)) ∧
     (∀ t, s.monp.wdOpen = some t →
       (s.time ≤ t + 500000 * s.monp.wdMax → exec .watchdogWindowExpiry s = .next s.settle) ∧
       (t + 500000 * s.monp.wdMax < s.time → ∀ w, w = (s.setMon 1 (setBit (s.monReg 1) 8 true)).wdWindow →
         (w.monp.viol + 1 < max 1 (fld (w.monReg 0x11) 2 0) →
           exec .watchdogWindowExpiry s = .next ({ w with monp := { w.monp with viol := w.monp.viol + 1 } } : State).settle) ∧
         (max 1 (fld (w.monReg 0x11) 2 0) ≤ w.monp.viol + 1 →
           exec .watchdogWindowExpiry s = .next (({ w with monp := { w.monp with viol := 0 } } : State).latchCause 2).settle))) ∧
     (s.monp.wdOpen = none → exec .watchdogWindowExpiry s = .next s.settle)) ∧
  (∀ (s : State) (a : Fin 0x4000) (v : Word) (be : BitVec 4) (bar : Bool), s.live = true →
     (s.barOk = true ↔ (s.master = true ∧ s.rb rHL_STAT 31 = true ∧ s.link.mse = true ∧ s.rb rHL_STAT 25 = false)) ∧
     (bar = true → s.barOk = false → exec (.registerWrite a v ⟨bar, be⟩) s = .next s.unsupported.settle) ∧
     (bar = false ∨ s.barOk = true → be ≠ 15 →
       (s.master = true → exec (.registerWrite a v ⟨bar, be⟩) s = .next ((s.bump rHL_ERR 7 0).setRb rHL_STAT 23 true).settle) ∧
       (s.master = false → exec (.registerWrite a v ⟨bar, be⟩) s = .next s.settle)) ∧
     (s.barOk = true →
       (s.barWait = [] → s.trayWait (4 * a) = false → exec (.registerWrite a v ⟨true, 15⟩) s = .next (s.regWrite (4 * a) v).settle) ∧
       (s.barWait ≠ [] ∨ s.trayWait (4 * a) = true →
         exec (.registerWrite a v ⟨true, 15⟩) s = .next ({ s with barWait := s.barWait ++ [(4 * a.val, v)] } : State).settle)) ∧
     (s.trayWait (4 * a) = true → exec (.registerWrite a v ⟨false, 15⟩) s = .next ({ s with barWait := s.barWait ++ [(4 * a.val, v)] } : State).settle) ∧
     (s.trayWait (4 * a) = false → exec (.registerWrite a v ⟨false, 15⟩) s = .next (s.regWrite (4 * a) v).settle)) ∧
  (∀ (s : State) (v : Word), s.live = true →
     (∀ p ∈ [((0x101 : Fin 0x4000), (0xFFFFF000 : Word), rPWR_VSUP), (0x791, 0x80000000, rINT_CFG)],
       ∃ t, exec (.registerWrite p.1 v ⟨false, 15⟩) s = .next t ∧ t = (s.setReg p.2.2 ((s.reg p.2.2 &&& ~~~p.2.1) ||| (v &&& p.2.1))).settle ∧
         (s.setReg p.2.2 ((s.reg p.2.2 &&& ~~~p.2.1) ||| (v &&& p.2.1))).regRead p.2.2 = (s.reg p.2.2 &&& ~~~p.2.1) ||| (v &&& p.2.1) ∧
         ∀ a, a ≠ p.2.2 → (s.setReg p.2.2 ((s.reg p.2.2 &&& ~~~p.2.1) ||| (v &&& p.2.1))).reg a = s.reg a) ∧
     exec (.registerWrite 6 v ⟨false, 15⟩) s = .next s.settle)

/-! ### Frames and small rules -/

/-- What the shared operations leave unchanged, whatever their operands: finishing a command that is not a broadcast changes only the
command buffer and the completions waiting; a delivery only the targets, the outputs and the messages pending; claiming and
completing only the services, the targets, the latched domain events, the outputs and the target's counters; starting, stopping and
re-arming only the timers and their counter register; an increment only the timers, the timer registers and what the core cycle
remembers of them; a DMA write only the outputs; latching a SAFE cause only its register, with the mark that the device set it in this
core cycle, and the entry that waits; a completion that leaves only the buffer and the slots; the record of a hand-over only the
outputs, the streams, the hand-overs, the engines, the registers and the summary. -/
def Obligations.SharedOperationsChangeOnlyTheirState : Prop :=
  ∀ (s : State) (c : Cmd) (x : Cpl) (h : Hand) (g a b n k : Nat) (m o : Bool),
    (c.target ≠ 4095 → ∃ u v w, s.finish c a b = { s with cmds := u, qps := v, fwd := w }) ∧
    (∃ u v w, s.deliver g a = { s with tgts := u, out := v, link := w }) ∧
    (∃ u v w y z, s.claim g a = { s with svc := u, tgts := v, doms := w, out := y, regs := z }) ∧
    (∃ u v, s.complete g a = { s with svc := u, regs := v }) ∧
    (∃ u v, s.startTmr n = { s with tmrs := u, regs := v }) ∧ (∃ u, s.stopTmr n = { s with tmrs := u }) ∧ (∃ u, s.armTmr n = { s with tmrs := u }) ∧
    (∃ u v w y, s.tmrEvents n m o = { s with tmrs := u, regs := v, setNow := w, tmrCycs := y }) ∧
    (∃ u, s.hostWrite a b n = { s with out := u }) ∧
    (∃ u v w, s.latchCause k = { s with regs := u, safePend := v, setNow := w }) ∧
    (∃ u v, s.cplGone x = { s with cmds := u, slots := v }) ∧
    (∃ u v w y z t r, s.writeHand n h = { s with out := u, rss := v, hands := w, pzs := y, regs := z, summary := t, setNow := r })

/-- Interrupt source 248 + k is active while KR_STAT bit k reads 1 and KR_TMO.IEN bit k is 1, for k = 0 to 7 (R353). -/
def Obligations.KringleSourceNeedsStatusAndEnable : Prop :=
  ∀ (s : State), ∀ k < 8, s.srcActive (248 + k) = (bit (s.regRead rKR_STAT) k && bit (s.regRead rKR_TMO) (24 + k))

/-- The divider of an engine is D = PZ_CLK.INT + PZ_CLK.FRAC/256, in 256ths; INT = 0 gives D = 1 and FRAC is then ignored (R357). -/
def Obligations.EngineDividerIsIntPlusFraction : Prop :=
  ∀ (s : State) (p : Nat), s.pzDiv p = if s.rf (rPZ_CLK p) 31 16 = 0 then 256 else 256 * s.rf (rPZ_CLK p) 31 16 + s.rf (rPZ_CLK p) 15 8

/-- A COMPLETE of a source in service for its target takes it out of service; one for a source that is not is ignored and counted in
CPL_BAD, with RECOVERY set or not (R404). -/
def Obligations.CompleteEndsServiceOrIsCounted : Prop :=
  ∀ (s : State) (g src : Nat), src ≠ 1023 → g ≤ 16 →
    (src < 320 → s.svcTgt src = g → s.complete g src = { s with svc := tabSet 31 s.svc src 31 }) ∧
    (320 ≤ src ∨ s.svcTgt src ≠ g → s.complete g src = s.bump (rINT_TCNT g) 23 16)
end

