-- ==== Sys2Proof/Laws/Bits.lean ====
section
/-! SUPPORT. Bit fields: what a written field reads, and that writing one leaves the others. -/

namespace Sys2Proof.Machine

/-- A field's bits are the word's bits from `lo` on. -/
theorem fld_testBit {w : Nat} (x : BitVec w) (hi lo i : Nat) : (fld x hi lo).testBit i = (decide (i < hi + 1 - lo) && x.toNat.testBit (lo + i)) := by
  simp [fld, Nat.testBit_mod_two_pow, Nat.testBit_div_two_pow, Nat.add_comm]

theorem bit_eq_testBit {w : Nat} (x : BitVec w) (b : Nat) : bit x b = x.toNat.testBit b := by
  rw [bit, Nat.testBit_eq_decide_div_mod_eq]

theorem fld_lt {w : Nat} (x : BitVec w) (hi lo : Nat) : fld x hi lo < 2 ^ (hi + 1 - lo) := Nat.mod_lt _ (Nat.two_pow_pos _)

theorem bit_eq_fld {w : Nat} (x : BitVec w) (b : Nat) : bit x b = decide (fld x b b = 1) := by simp [bit, fld]

/-- The bits of a word after a field is written. -/
theorem setFld_testBit {w : Nat} (x : BitVec w) (hi lo v i : Nat) (hlo : lo ≤ hi + 1) (hi' : i < w) :
    (setFld x hi lo v).toNat.testBit i = if lo ≤ i ∧ i ≤ hi then v.testBit (i - lo) else x.toNat.testBit i := by
  obtain ⟨n, hn⟩ : ∃ n, n = hi + 1 - lo := ⟨_, rfl⟩
  have hx : x.toNat = 2 ^ lo * (2 ^ n * (x.toNat / 2 ^ lo / 2 ^ n) + fld x hi lo) + x.toNat % 2 ^ lo := by
    rw [fld, ← hn, Nat.div_add_mod, Nat.div_add_mod]
  have hs : x.toNat - fld x hi lo * 2 ^ lo + v % 2 ^ n * 2 ^ lo
      = 2 ^ lo * (2 ^ n * (x.toNat / 2 ^ lo / 2 ^ n) + v % 2 ^ n) + x.toNat % 2 ^ lo := by
    have e1 := Nat.mul_add (2 ^ lo) (2 ^ n * (x.toNat / 2 ^ lo / 2 ^ n)) (fld x hi lo)
    have e2 := Nat.mul_add (2 ^ lo) (2 ^ n * (x.toNat / 2 ^ lo / 2 ^ n)) (v % 2 ^ n)
    rw [Nat.mul_comm (2 ^ lo) (fld x hi lo)] at e1
    rw [Nat.mul_comm (2 ^ lo) (v % 2 ^ n)] at e2
    omega
  have hc : x.toNat % 2 ^ lo < 2 ^ lo := Nat.mod_lt _ (Nat.two_pow_pos _)
  rw [setFld, ← hn, BitVec.toNat_ofNat, Nat.testBit_mod_two_pow, hs, Nat.testBit_two_pow_mul_add _ hc]
  simp only [hi', decide_true, Bool.true_and]
  split
  · next h => rw [if_neg (by omega), Nat.testBit_mod_two_pow]; simp [h]
  · next h =>
    rw [Nat.testBit_two_pow_mul_add _ (Nat.mod_lt _ (Nat.two_pow_pos _))]
    split
    · next h2 => rw [if_pos (by omega), Nat.testBit_mod_two_pow]; simp [h2]
    · next h2 =>
      rw [if_neg (by omega), Nat.testBit_div_two_pow, Nat.testBit_div_two_pow]
      congr 1; omega

/-- A field reads what was written to it. -/
@[simp] theorem fld_setFld {w : Nat} (x : BitVec w) (hi lo v : Nat) (h : lo ≤ hi) (hw : hi < w) :
    fld (setFld x hi lo v) hi lo = v % 2 ^ (hi + 1 - lo) := by
  apply Nat.eq_of_testBit_eq; intro i
  rw [fld_testBit, Nat.testBit_mod_two_pow]
  by_cases hi' : i < hi + 1 - lo
  · rw [setFld_testBit x hi lo v _ (by omega) (by omega), if_pos (by omega)]; simp
  · simp [hi']

/-- Writing a field leaves a disjoint field. -/
theorem fld_setFld_of_disjoint {w : Nat} (x : BitVec w) (hi lo v h l : Nat) (hlo : lo ≤ hi + 1) (hw : h < w) (hd : h < lo ∨ hi < l) :
    fld (setFld x hi lo v) h l = fld x h l := by
  apply Nat.eq_of_testBit_eq; intro i
  rw [fld_testBit, fld_testBit]
  by_cases hi' : i < h + 1 - l
  · rw [setFld_testBit x hi lo v _ hlo (by omega), if_neg (by omega)]
  · simp [hi']

@[simp] theorem bit_setBit {w : Nat} (x : BitVec w) (b : Nat) (v : Bool) (hw : b < w) : bit (setBit x b v) b = v := by
  rw [bit_eq_fld, setBit, fld_setFld x b b _ (Nat.le_refl _) hw]; cases v <;> simp

theorem bit_setBit_of_ne {w : Nat} (x : BitVec w) (b c : Nat) (v : Bool) (hw : c < w) (h : c ≠ b) : bit (setBit x b v) c = bit x c := by
  rw [bit_eq_fld, bit_eq_fld, setBit, fld_setFld_of_disjoint x b b _ c c (by omega) hw (by omega)]

theorem bit_setFld_of_disjoint {w : Nat} (x : BitVec w) (hi lo v b : Nat) (hlo : lo ≤ hi + 1) (hw : b < w) (hd : b < lo ∨ hi < b) :
    bit (setFld x hi lo v) b = bit x b := by
  rw [bit_eq_fld, bit_eq_fld, fld_setFld_of_disjoint x hi lo v b b hlo hw hd]

theorem fld_setBit_of_disjoint {w : Nat} (x : BitVec w) (b h l : Nat) (v : Bool) (hw : h < w) (hd : h < b ∨ b < l) :
    fld (setBit x b v) h l = fld x h l := fld_setFld_of_disjoint x b b _ h l (by omega) hw hd

/-- Writing a field with what it holds changes nothing. -/
theorem setFld_self {w : Nat} (x : BitVec w) (hi lo : Nat) (hlo : lo ≤ hi + 1) : setFld x hi lo (fld x hi lo) = x := by
  apply BitVec.eq_of_toNat_eq; apply Nat.eq_of_testBit_eq; intro i
  by_cases hi' : i < w
  · rw [setFld_testBit x hi lo _ i hlo hi']
    split
    · next h => rw [fld_testBit]; simp [show i - lo < hi + 1 - lo by omega, show lo + (i - lo) = i by omega]
    · rfl
  · have hw : 2 ^ w ≤ 2 ^ i := Nat.pow_le_pow_right (by omega) (by omega)
    rw [Nat.testBit_lt_two_pow (Nat.lt_of_lt_of_le (BitVec.isLt _) hw), Nat.testBit_lt_two_pow (Nat.lt_of_lt_of_le (BitVec.isLt _) hw)]

theorem setBit_self {w : Nat} (x : BitVec w) (b : Nat) (v : Bool) (h : bit x b = v) : setBit x b v = x := by
  have h1 : v.toNat = fld x b b := by
    have := fld_lt x b b; rw [bit_eq_fld] at h
    simp only [Nat.add_sub_cancel_left, Nat.pow_one] at this
    subst h; by_cases e : fld x b b = 1 <;> simp [e]; omega
  rw [setBit, h1, setFld_self x b b (by omega)]

theorem bit_pow {w : Nat} (b i : Nat) (hb : b < w) : bit (BitVec.ofNat w (2 ^ b)) i = decide (i = b) := by
  rw [bit_eq_testBit, BitVec.toNat_ofNat, Nat.mod_eq_of_lt (Nat.pow_lt_pow_right (by omega) hb), Nat.testBit_two_pow]
  simp [eq_comm]

end Sys2Proof.Machine
end

