-- ==== Sys2Proof/Laws/Tab.lean ====
section
/-! SUPPORT. What reading and writing a sparse table do: read after write, and the canonical form every write keeps. -/

namespace Sys2Proof.Machine

section
variable {α : Type}

theorem tabGet_put (e : α) (i j : Nat) (v : α) : ∀ t : Tab α, tabGet e (tabPut i v t) j = if j = i then v else tabGet e t j
  | [] => rfl
  | (k, w) :: t => by
    have ih := tabGet_put e i j v t
    simp only [tabPut]
    split
    · rfl
    · split
      · subst_vars
        by_cases hj : j = k <;> simp [tabGet, hj]
      · by_cases hj : j = k
        · have : j ≠ i := by omega
          simp [tabGet, hj]
          omega
        · simp [tabGet, hj, ih]

theorem tabGet_del (e : α) (i j : Nat) : ∀ t : Tab α, tabGet e (t.filter (fun p => p.1 != i)) j = if j = i then e else tabGet e t j
  | [] => by simp [tabGet]
  | (k, w) :: t => by
    have ih := tabGet_del e i j t
    by_cases hk : k = i
    · by_cases hj : j = i
      · simp [hk, hj] at ih ⊢
        simpa [hj] using ih
      · have hjk : j ≠ k := by omega
        simp [hk, hj, tabGet] at ih ⊢
        simpa [hj] using ih
    · by_cases hj : j = k
      · have hji : j ≠ i := by omega
        simp [hk, tabGet, hj]
      · simp [hk, tabGet, hj, ih]

theorem tabPut_put (i : Nat) (v w : α) : ∀ t : Tab α, tabPut i w (tabPut i v t) = tabPut i w t
  | [] => by simp [tabPut]
  | (k, x) :: t => by
    have ih := tabPut_put i v w t
    simp only [tabPut]
    split
    · simp [tabPut]
    · split
      · simp [tabPut]
      · simp [tabPut, *]

theorem tabDel_put (i : Nat) (v : α) : ∀ t : Tab α, (tabPut i v t).filter (fun p => p.1 != i) = t.filter (fun p => p.1 != i)
  | [] => by simp [tabPut]
  | (k, x) :: t => by
    have ih := tabDel_put i v t
    simp only [tabPut]
    split
    · simp
    · split
      · subst_vars
        simp
      · simp [List.filter_cons, ih]

variable [DecidableEq α]

/-- What a read gives after a write, whatever the table. -/
theorem tabGet_tabSet (d : α) (t : Tab α) (i j : Nat) (v : α) : tabGet d (tabSet d t i v) j = if j = i then v else tabGet d t j := by
  unfold tabSet
  split
  · subst_vars
    exact tabGet_del _ i j t
  · exact tabGet_put d i j v t

/-- A key holds what was written to it. -/
@[simp] theorem tabGet_tabSet_self (d : α) (t : Tab α) (i : Nat) (v : α) : tabGet d (tabSet d t i v) i = v := by simp [tabGet_tabSet]

/-- A write leaves every other key alone, whatever default it is read with. -/
theorem tabGet_tabSet_other (d e : α) (t : Tab α) (i j : Nat) (v : α) (h : j ≠ i) : tabGet e (tabSet d t i v) j = tabGet e t j := by
  unfold tabSet
  split
  · simp [tabGet_del, h]
  · simp [tabGet_put, h]

/-- A second write to a key replaces the first, where the first was no default. -/
theorem tabSet_tabSet_of_ne (d : α) (t : Tab α) (i : Nat) (v w : α) (h : v ≠ d) : tabSet d (tabSet d t i v) i w = tabSet d t i w := by
  unfold tabSet
  simp only [h, if_false, tabPut_put, tabDel_put]

/-! ### The canonical form -/

theorem tabWfFrom_mono (f : Nat → α) : ∀ (t : Tab α) (b c : Nat), tabWfFrom f b t = true → c ≤ b → tabWfFrom f c t = true
  | [], _, _, _, _ => rfl
  | (k, w) :: t, b, c, h, hc => by
    simp only [tabWfFrom, Bool.and_eq_true, decide_eq_true_eq] at h ⊢
    exact ⟨⟨by omega, h.1.2⟩, h.2⟩

theorem tabWfFrom_filter (f : Nat → α) (p : Nat × α → Bool) :
    ∀ (t : Tab α) (b : Nat), tabWfFrom f b t = true → tabWfFrom f b (t.filter p) = true
  | [], _, _ => rfl
  | (k, w) :: t, b, h => by
    simp only [tabWfFrom, Bool.and_eq_true, decide_eq_true_eq] at h
    have ih := tabWfFrom_filter f p t (k + 1) h.2
    simp only [List.filter_cons]
    split
    · simp only [tabWfFrom, Bool.and_eq_true, decide_eq_true_eq]
      exact ⟨h.1, ih⟩
    · exact tabWfFrom_mono f _ _ _ ih (by omega)

theorem tabWfFrom_put (f : Nat → α) (i : Nat) (v : α) (hv : v ≠ f i) :
    ∀ (t : Tab α) (b : Nat), tabWfFrom f b t = true → b ≤ i → tabWfFrom f b (tabPut i v t) = true
  | [], b, _, hb => by simp [tabPut, tabWfFrom, hv, hb]
  | (k, w) :: t, b, h, hb => by
    simp only [tabWfFrom, Bool.and_eq_true, decide_eq_true_eq] at h
    simp only [tabPut]
    split
    · simp only [tabWfFrom, Bool.and_eq_true, decide_eq_true_eq]
      exact ⟨⟨hb, hv⟩, ⟨by omega, h.1.2⟩, h.2⟩
    · split
      · subst_vars
        simp [tabWfFrom, hv, hb, h.2]
      · simp only [tabWfFrom, Bool.and_eq_true, decide_eq_true_eq]
        exact ⟨h.1, tabWfFrom_put f i v hv t (k + 1) h.2 (by omega)⟩

/-- A write keeps the canonical form. -/
theorem tabWf_tabSet (f : Nat → α) (t : Tab α) (i : Nat) (v : α) (h : tabWf f t = true) : tabWf f (tabSet (f i) t i v) = true := by
  unfold tabSet tabWf
  split
  · exact tabWfFrom_filter f _ t 0 h
  · exact tabWfFrom_put f i v ‹_› t 0 h (Nat.zero_le i)

/-- Clearing a range of keys keeps the canonical form. -/
theorem tabWf_clear (f : Nat → α) (lo hi : Nat) (t : Tab α) (h : tabWf f t = true) : tabWf f (tabClear lo hi t) = true :=
  tabWfFrom_filter f _ t 0 h

end

end Sys2Proof.Machine
end

