-- ==== Sys2Proof/Laws/State.lean ====
section
/-! SUPPORT. What each named update of the state does to the fields, and what a read gives after it. -/

namespace Sys2Proof.Machine

variable (s : State)

/-! ### setReg -/

@[simp] theorem State.setReg_pending (a : Nat) (v : Word) : (s.setReg a v).pending = s.pending := rfl
@[simp] theorem State.setReg_time (a : Nat) (v : Word) : (s.setReg a v).time = s.time := rfl
@[simp] theorem State.setReg_boot (a : Nat) (v : Word) : (s.setReg a v).boot = s.boot := rfl
@[simp] theorem State.setReg_run (a : Nat) (v : Word) : (s.setReg a v).run = s.run := rfl
@[simp] theorem State.setReg_watch (a : Nat) (v : Word) : (s.setReg a v).watch = s.watch := rfl
@[simp] theorem State.setReg_held (a : Nat) (v : Word) : (s.setReg a v).held = s.held := rfl
@[simp] theorem State.setReg_safePend (a : Nat) (v : Word) : (s.setReg a v).safePend = s.safePend := rfl
@[simp] theorem State.setReg_regs (a : Nat) (v : Word) : (s.setReg a v).regs = tabSet (resetOf a) s.regs a v := rfl
@[simp] theorem State.setReg_mon (a : Nat) (v : Word) : (s.setReg a v).mon = s.mon := rfl
@[simp] theorem State.setReg_out (a : Nat) (v : Word) : (s.setReg a v).out = s.out := rfl
@[simp] theorem State.setReg_free (a : Nat) (v : Word) : (s.setReg a v).free = s.free := rfl
@[simp] theorem State.setReg_wheels (a : Nat) (v : Word) : (s.setReg a v).wheels = s.wheels := rfl
@[simp] theorem State.setReg_doms (a : Nat) (v : Word) : (s.setReg a v).doms = s.doms := rfl
@[simp] theorem State.setReg_slots (a : Nat) (v : Word) : (s.setReg a v).slots = s.slots := rfl
@[simp] theorem State.setReg_acts (a : Nat) (v : Word) : (s.setReg a v).acts = s.acts := rfl
@[simp] theorem State.setReg_lanes (a : Nat) (v : Word) : (s.setReg a v).lanes = s.lanes := rfl
@[simp] theorem State.setReg_rails (a : Nat) (v : Word) : (s.setReg a v).rails = s.rails := rfl
@[simp] theorem State.setReg_cmds (a : Nat) (v : Word) : (s.setReg a v).cmds = s.cmds := rfl
@[simp] theorem State.setReg_qps (a : Nat) (v : Word) : (s.setReg a v).qps = s.qps := rfl
@[simp] theorem State.setReg_rss (a : Nat) (v : Word) : (s.setReg a v).rss = s.rss := rfl
@[simp] theorem State.setReg_pwr (a : Nat) (v : Word) : (s.setReg a v).pwr = s.pwr := rfl
@[simp] theorem State.setReg_hands (a : Nat) (v : Word) : (s.setReg a v).hands = s.hands := rfl
@[simp] theorem State.setReg_skew (a : Nat) (v : Word) : (s.setReg a v).skew = s.skew := rfl
@[simp] theorem State.setReg_setNow (a : Nat) (v : Word) : (s.setReg a v).setNow = s.setNow := rfl
@[simp] theorem State.setReg_tmrCycs (a : Nat) (v : Word) : (s.setReg a v).tmrCycs = s.tmrCycs := rfl
@[simp] theorem State.setReg_holdOffAt (a : Nat) (v : Word) : (s.setReg a v).holdOffAt = s.holdOffAt := rfl
@[simp] theorem State.setReg_upsets (a : Nat) (v : Word) : (s.setReg a v).upsets = s.upsets := rfl
@[simp] theorem State.setReg_barWait (a : Nat) (v : Word) : (s.setReg a v).barWait = s.barWait := rfl
@[simp] theorem State.setReg_xings (a : Nat) (v : Word) : (s.setReg a v).xings = s.xings := rfl
@[simp] theorem State.setReg_live (a : Nat) (v : Word) : (s.setReg a v).live = s.live := rfl

/-! ### setWheel -/

@[simp] theorem State.setWheel_pending (n : Nat) (w : Wheel) : (s.setWheel n w).pending = s.pending := rfl
@[simp] theorem State.setWheel_time (n : Nat) (w : Wheel) : (s.setWheel n w).time = s.time := rfl
@[simp] theorem State.setWheel_boot (n : Nat) (w : Wheel) : (s.setWheel n w).boot = s.boot := rfl
@[simp] theorem State.setWheel_run (n : Nat) (w : Wheel) : (s.setWheel n w).run = s.run := rfl
@[simp] theorem State.setWheel_watch (n : Nat) (w : Wheel) : (s.setWheel n w).watch = s.watch := rfl
@[simp] theorem State.setWheel_held (n : Nat) (w : Wheel) : (s.setWheel n w).held = s.held := rfl
@[simp] theorem State.setWheel_safePend (n : Nat) (w : Wheel) : (s.setWheel n w).safePend = s.safePend := rfl
@[simp] theorem State.setWheel_regs (n : Nat) (w : Wheel) : (s.setWheel n w).regs = s.regs := rfl
@[simp] theorem State.setWheel_mon (n : Nat) (w : Wheel) : (s.setWheel n w).mon = s.mon := rfl
@[simp] theorem State.setWheel_out (n : Nat) (w : Wheel) : (s.setWheel n w).out = s.out := rfl
@[simp] theorem State.setWheel_free (n : Nat) (w : Wheel) : (s.setWheel n w).free = s.free := rfl
@[simp] theorem State.setWheel_wheels (n : Nat) (w : Wheel) : (s.setWheel n w).wheels = tabSet {} s.wheels n w := rfl
@[simp] theorem State.setWheel_doms (n : Nat) (w : Wheel) : (s.setWheel n w).doms = s.doms := rfl
@[simp] theorem State.setWheel_slots (n : Nat) (w : Wheel) : (s.setWheel n w).slots = s.slots := rfl
@[simp] theorem State.setWheel_acts (n : Nat) (w : Wheel) : (s.setWheel n w).acts = s.acts := rfl
@[simp] theorem State.setWheel_lanes (n : Nat) (w : Wheel) : (s.setWheel n w).lanes = s.lanes := rfl
@[simp] theorem State.setWheel_rails (n : Nat) (w : Wheel) : (s.setWheel n w).rails = s.rails := rfl
@[simp] theorem State.setWheel_cmds (n : Nat) (w : Wheel) : (s.setWheel n w).cmds = s.cmds := rfl
@[simp] theorem State.setWheel_qps (n : Nat) (w : Wheel) : (s.setWheel n w).qps = s.qps := rfl
@[simp] theorem State.setWheel_rss (n : Nat) (w : Wheel) : (s.setWheel n w).rss = s.rss := rfl
@[simp] theorem State.setWheel_pwr (n : Nat) (w : Wheel) : (s.setWheel n w).pwr = s.pwr := rfl
@[simp] theorem State.setWheel_hands (n : Nat) (w : Wheel) : (s.setWheel n w).hands = s.hands := rfl
@[simp] theorem State.setWheel_skew (n : Nat) (w : Wheel) : (s.setWheel n w).skew = s.skew := rfl
@[simp] theorem State.setWheel_setNow (n : Nat) (w : Wheel) : (s.setWheel n w).setNow = s.setNow := rfl
@[simp] theorem State.setWheel_tmrCycs (n : Nat) (w : Wheel) : (s.setWheel n w).tmrCycs = s.tmrCycs := rfl
@[simp] theorem State.setWheel_holdOffAt (n : Nat) (w : Wheel) : (s.setWheel n w).holdOffAt = s.holdOffAt := rfl
@[simp] theorem State.setWheel_upsets (n : Nat) (w : Wheel) : (s.setWheel n w).upsets = s.upsets := rfl
@[simp] theorem State.setWheel_barWait (n : Nat) (w : Wheel) : (s.setWheel n w).barWait = s.barWait := rfl
@[simp] theorem State.setWheel_xings (n : Nat) (w : Wheel) : (s.setWheel n w).xings = s.xings := rfl
@[simp] theorem State.setWheel_live (n : Nat) (w : Wheel) : (s.setWheel n w).live = s.live := rfl

/-! ### setDom -/

@[simp] theorem State.setDom_pending (d : Nat) (x : Domain) : (s.setDom d x).pending = s.pending := rfl
@[simp] theorem State.setDom_time (d : Nat) (x : Domain) : (s.setDom d x).time = s.time := rfl
@[simp] theorem State.setDom_boot (d : Nat) (x : Domain) : (s.setDom d x).boot = s.boot := rfl
@[simp] theorem State.setDom_run (d : Nat) (x : Domain) : (s.setDom d x).run = s.run := rfl
@[simp] theorem State.setDom_watch (d : Nat) (x : Domain) : (s.setDom d x).watch = s.watch := rfl
@[simp] theorem State.setDom_held (d : Nat) (x : Domain) : (s.setDom d x).held = s.held := rfl
@[simp] theorem State.setDom_safePend (d : Nat) (x : Domain) : (s.setDom d x).safePend = s.safePend := rfl
@[simp] theorem State.setDom_regs (d : Nat) (x : Domain) : (s.setDom d x).regs = s.regs := rfl
@[simp] theorem State.setDom_mon (d : Nat) (x : Domain) : (s.setDom d x).mon = s.mon := rfl
@[simp] theorem State.setDom_out (d : Nat) (x : Domain) : (s.setDom d x).out = s.out := rfl
@[simp] theorem State.setDom_free (d : Nat) (x : Domain) : (s.setDom d x).free = s.free := rfl
@[simp] theorem State.setDom_wheels (d : Nat) (x : Domain) : (s.setDom d x).wheels = s.wheels := rfl
@[simp] theorem State.setDom_doms (d : Nat) (x : Domain) : (s.setDom d x).doms = tabSet {} s.doms d x := rfl
@[simp] theorem State.setDom_slots (d : Nat) (x : Domain) : (s.setDom d x).slots = s.slots := rfl
@[simp] theorem State.setDom_acts (d : Nat) (x : Domain) : (s.setDom d x).acts = s.acts := rfl
@[simp] theorem State.setDom_lanes (d : Nat) (x : Domain) : (s.setDom d x).lanes = s.lanes := rfl
@[simp] theorem State.setDom_rails (d : Nat) (x : Domain) : (s.setDom d x).rails = s.rails := rfl
@[simp] theorem State.setDom_cmds (d : Nat) (x : Domain) : (s.setDom d x).cmds = s.cmds := rfl
@[simp] theorem State.setDom_qps (d : Nat) (x : Domain) : (s.setDom d x).qps = s.qps := rfl
@[simp] theorem State.setDom_rss (d : Nat) (x : Domain) : (s.setDom d x).rss = s.rss := rfl
@[simp] theorem State.setDom_pwr (d : Nat) (x : Domain) : (s.setDom d x).pwr = s.pwr := rfl
@[simp] theorem State.setDom_hands (d : Nat) (x : Domain) : (s.setDom d x).hands = s.hands := rfl
@[simp] theorem State.setDom_skew (d : Nat) (x : Domain) : (s.setDom d x).skew = s.skew := rfl
@[simp] theorem State.setDom_setNow (d : Nat) (x : Domain) : (s.setDom d x).setNow = s.setNow := rfl
@[simp] theorem State.setDom_tmrCycs (d : Nat) (x : Domain) : (s.setDom d x).tmrCycs = s.tmrCycs := rfl
@[simp] theorem State.setDom_holdOffAt (d : Nat) (x : Domain) : (s.setDom d x).holdOffAt = s.holdOffAt := rfl
@[simp] theorem State.setDom_upsets (d : Nat) (x : Domain) : (s.setDom d x).upsets = s.upsets := rfl
@[simp] theorem State.setDom_barWait (d : Nat) (x : Domain) : (s.setDom d x).barWait = s.barWait := rfl
@[simp] theorem State.setDom_xings (d : Nat) (x : Domain) : (s.setDom d x).xings = s.xings := rfl
@[simp] theorem State.setDom_live (d : Nat) (x : Domain) : (s.setDom d x).live = s.live := rfl

/-! ### setAct -/

@[simp] theorem State.setAct_pending (a : Nat) (x : Act) : (s.setAct a x).pending = s.pending := rfl
@[simp] theorem State.setAct_time (a : Nat) (x : Act) : (s.setAct a x).time = s.time := rfl
@[simp] theorem State.setAct_boot (a : Nat) (x : Act) : (s.setAct a x).boot = s.boot := rfl
@[simp] theorem State.setAct_run (a : Nat) (x : Act) : (s.setAct a x).run = s.run := rfl
@[simp] theorem State.setAct_watch (a : Nat) (x : Act) : (s.setAct a x).watch = s.watch := rfl
@[simp] theorem State.setAct_held (a : Nat) (x : Act) : (s.setAct a x).held = s.held := rfl
@[simp] theorem State.setAct_safePend (a : Nat) (x : Act) : (s.setAct a x).safePend = s.safePend := rfl
@[simp] theorem State.setAct_regs (a : Nat) (x : Act) : (s.setAct a x).regs = s.regs := rfl
@[simp] theorem State.setAct_mon (a : Nat) (x : Act) : (s.setAct a x).mon = s.mon := rfl
@[simp] theorem State.setAct_out (a : Nat) (x : Act) : (s.setAct a x).out = s.out := rfl
@[simp] theorem State.setAct_free (a : Nat) (x : Act) : (s.setAct a x).free = s.free := rfl
@[simp] theorem State.setAct_wheels (a : Nat) (x : Act) : (s.setAct a x).wheels = s.wheels := rfl
@[simp] theorem State.setAct_doms (a : Nat) (x : Act) : (s.setAct a x).doms = s.doms := rfl
@[simp] theorem State.setAct_slots (a : Nat) (x : Act) : (s.setAct a x).slots = s.slots := rfl
@[simp] theorem State.setAct_acts (a : Nat) (x : Act) : (s.setAct a x).acts = tabSet {} s.acts a x := rfl
@[simp] theorem State.setAct_lanes (a : Nat) (x : Act) : (s.setAct a x).lanes = s.lanes := rfl
@[simp] theorem State.setAct_rails (a : Nat) (x : Act) : (s.setAct a x).rails = s.rails := rfl
@[simp] theorem State.setAct_cmds (a : Nat) (x : Act) : (s.setAct a x).cmds = s.cmds := rfl
@[simp] theorem State.setAct_qps (a : Nat) (x : Act) : (s.setAct a x).qps = s.qps := rfl
@[simp] theorem State.setAct_rss (a : Nat) (x : Act) : (s.setAct a x).rss = s.rss := rfl
@[simp] theorem State.setAct_pwr (a : Nat) (x : Act) : (s.setAct a x).pwr = s.pwr := rfl
@[simp] theorem State.setAct_hands (a : Nat) (x : Act) : (s.setAct a x).hands = s.hands := rfl
@[simp] theorem State.setAct_skew (a : Nat) (x : Act) : (s.setAct a x).skew = s.skew := rfl
@[simp] theorem State.setAct_setNow (a : Nat) (x : Act) : (s.setAct a x).setNow = s.setNow := rfl
@[simp] theorem State.setAct_tmrCycs (a : Nat) (x : Act) : (s.setAct a x).tmrCycs = s.tmrCycs := rfl
@[simp] theorem State.setAct_holdOffAt (a : Nat) (x : Act) : (s.setAct a x).holdOffAt = s.holdOffAt := rfl
@[simp] theorem State.setAct_upsets (a : Nat) (x : Act) : (s.setAct a x).upsets = s.upsets := rfl
@[simp] theorem State.setAct_barWait (a : Nat) (x : Act) : (s.setAct a x).barWait = s.barWait := rfl
@[simp] theorem State.setAct_xings (a : Nat) (x : Act) : (s.setAct a x).xings = s.xings := rfl
@[simp] theorem State.setAct_live (a : Nat) (x : Act) : (s.setAct a x).live = s.live := rfl

/-! ### setSlot -/

@[simp] theorem State.setSlot_pending (a k : Nat) (x : Slot) : (s.setSlot a k x).pending = s.pending := rfl
@[simp] theorem State.setSlot_time (a k : Nat) (x : Slot) : (s.setSlot a k x).time = s.time := rfl
@[simp] theorem State.setSlot_boot (a k : Nat) (x : Slot) : (s.setSlot a k x).boot = s.boot := rfl
@[simp] theorem State.setSlot_run (a k : Nat) (x : Slot) : (s.setSlot a k x).run = s.run := rfl
@[simp] theorem State.setSlot_watch (a k : Nat) (x : Slot) : (s.setSlot a k x).watch = s.watch := rfl
@[simp] theorem State.setSlot_held (a k : Nat) (x : Slot) : (s.setSlot a k x).held = s.held := rfl
@[simp] theorem State.setSlot_safePend (a k : Nat) (x : Slot) : (s.setSlot a k x).safePend = s.safePend := rfl
@[simp] theorem State.setSlot_regs (a k : Nat) (x : Slot) : (s.setSlot a k x).regs = s.regs := rfl
@[simp] theorem State.setSlot_mon (a k : Nat) (x : Slot) : (s.setSlot a k x).mon = s.mon := rfl
@[simp] theorem State.setSlot_out (a k : Nat) (x : Slot) : (s.setSlot a k x).out = s.out := rfl
@[simp] theorem State.setSlot_free (a k : Nat) (x : Slot) : (s.setSlot a k x).free = s.free := rfl
@[simp] theorem State.setSlot_wheels (a k : Nat) (x : Slot) : (s.setSlot a k x).wheels = s.wheels := rfl
@[simp] theorem State.setSlot_doms (a k : Nat) (x : Slot) : (s.setSlot a k x).doms = s.doms := rfl
@[simp] theorem State.setSlot_slots (a k : Nat) (x : Slot) : (s.setSlot a k x).slots = tabSet {} s.slots (8 * a + k) x := rfl
@[simp] theorem State.setSlot_acts (a k : Nat) (x : Slot) : (s.setSlot a k x).acts = s.acts := rfl
@[simp] theorem State.setSlot_lanes (a k : Nat) (x : Slot) : (s.setSlot a k x).lanes = s.lanes := rfl
@[simp] theorem State.setSlot_rails (a k : Nat) (x : Slot) : (s.setSlot a k x).rails = s.rails := rfl
@[simp] theorem State.setSlot_cmds (a k : Nat) (x : Slot) : (s.setSlot a k x).cmds = s.cmds := rfl
@[simp] theorem State.setSlot_qps (a k : Nat) (x : Slot) : (s.setSlot a k x).qps = s.qps := rfl
@[simp] theorem State.setSlot_rss (a k : Nat) (x : Slot) : (s.setSlot a k x).rss = s.rss := rfl
@[simp] theorem State.setSlot_pwr (a k : Nat) (x : Slot) : (s.setSlot a k x).pwr = s.pwr := rfl
@[simp] theorem State.setSlot_hands (a k : Nat) (x : Slot) : (s.setSlot a k x).hands = s.hands := rfl
@[simp] theorem State.setSlot_skew (a k : Nat) (x : Slot) : (s.setSlot a k x).skew = s.skew := rfl
@[simp] theorem State.setSlot_setNow (a k : Nat) (x : Slot) : (s.setSlot a k x).setNow = s.setNow := rfl
@[simp] theorem State.setSlot_tmrCycs (a k : Nat) (x : Slot) : (s.setSlot a k x).tmrCycs = s.tmrCycs := rfl
@[simp] theorem State.setSlot_holdOffAt (a k : Nat) (x : Slot) : (s.setSlot a k x).holdOffAt = s.holdOffAt := rfl
@[simp] theorem State.setSlot_upsets (a k : Nat) (x : Slot) : (s.setSlot a k x).upsets = s.upsets := rfl
@[simp] theorem State.setSlot_barWait (a k : Nat) (x : Slot) : (s.setSlot a k x).barWait = s.barWait := rfl
@[simp] theorem State.setSlot_xings (a k : Nat) (x : Slot) : (s.setSlot a k x).xings = s.xings := rfl
@[simp] theorem State.setSlot_live (a k : Nat) (x : Slot) : (s.setSlot a k x).live = s.live := rfl

/-! ### setLane -/

@[simp] theorem State.setLane_pending (n : Nat) (x : Lane) : (s.setLane n x).pending = s.pending := rfl
@[simp] theorem State.setLane_time (n : Nat) (x : Lane) : (s.setLane n x).time = s.time := rfl
@[simp] theorem State.setLane_boot (n : Nat) (x : Lane) : (s.setLane n x).boot = s.boot := rfl
@[simp] theorem State.setLane_run (n : Nat) (x : Lane) : (s.setLane n x).run = s.run := rfl
@[simp] theorem State.setLane_watch (n : Nat) (x : Lane) : (s.setLane n x).watch = s.watch := rfl
@[simp] theorem State.setLane_held (n : Nat) (x : Lane) : (s.setLane n x).held = s.held := rfl
@[simp] theorem State.setLane_safePend (n : Nat) (x : Lane) : (s.setLane n x).safePend = s.safePend := rfl
@[simp] theorem State.setLane_regs (n : Nat) (x : Lane) : (s.setLane n x).regs = s.regs := rfl
@[simp] theorem State.setLane_mon (n : Nat) (x : Lane) : (s.setLane n x).mon = s.mon := rfl
@[simp] theorem State.setLane_out (n : Nat) (x : Lane) : (s.setLane n x).out = s.out := rfl
@[simp] theorem State.setLane_free (n : Nat) (x : Lane) : (s.setLane n x).free = s.free := rfl
@[simp] theorem State.setLane_wheels (n : Nat) (x : Lane) : (s.setLane n x).wheels = s.wheels := rfl
@[simp] theorem State.setLane_doms (n : Nat) (x : Lane) : (s.setLane n x).doms = s.doms := rfl
@[simp] theorem State.setLane_slots (n : Nat) (x : Lane) : (s.setLane n x).slots = s.slots := rfl
@[simp] theorem State.setLane_acts (n : Nat) (x : Lane) : (s.setLane n x).acts = s.acts := rfl
@[simp] theorem State.setLane_lanes (n : Nat) (x : Lane) : (s.setLane n x).lanes = tabSet {} s.lanes n x := rfl
@[simp] theorem State.setLane_rails (n : Nat) (x : Lane) : (s.setLane n x).rails = s.rails := rfl
@[simp] theorem State.setLane_cmds (n : Nat) (x : Lane) : (s.setLane n x).cmds = s.cmds := rfl
@[simp] theorem State.setLane_qps (n : Nat) (x : Lane) : (s.setLane n x).qps = s.qps := rfl
@[simp] theorem State.setLane_rss (n : Nat) (x : Lane) : (s.setLane n x).rss = s.rss := rfl
@[simp] theorem State.setLane_pwr (n : Nat) (x : Lane) : (s.setLane n x).pwr = s.pwr := rfl
@[simp] theorem State.setLane_hands (n : Nat) (x : Lane) : (s.setLane n x).hands = s.hands := rfl
@[simp] theorem State.setLane_skew (n : Nat) (x : Lane) : (s.setLane n x).skew = s.skew := rfl
@[simp] theorem State.setLane_setNow (n : Nat) (x : Lane) : (s.setLane n x).setNow = s.setNow := rfl
@[simp] theorem State.setLane_tmrCycs (n : Nat) (x : Lane) : (s.setLane n x).tmrCycs = s.tmrCycs := rfl
@[simp] theorem State.setLane_holdOffAt (n : Nat) (x : Lane) : (s.setLane n x).holdOffAt = s.holdOffAt := rfl
@[simp] theorem State.setLane_upsets (n : Nat) (x : Lane) : (s.setLane n x).upsets = s.upsets := rfl
@[simp] theorem State.setLane_barWait (n : Nat) (x : Lane) : (s.setLane n x).barWait = s.barWait := rfl
@[simp] theorem State.setLane_xings (n : Nat) (x : Lane) : (s.setLane n x).xings = s.xings := rfl
@[simp] theorem State.setLane_live (n : Nat) (x : Lane) : (s.setLane n x).live = s.live := rfl

/-! ### setRail -/

@[simp] theorem State.setRail_pending (r : Nat) (x : Rail) : (s.setRail r x).pending = s.pending := rfl
@[simp] theorem State.setRail_time (r : Nat) (x : Rail) : (s.setRail r x).time = s.time := rfl
@[simp] theorem State.setRail_boot (r : Nat) (x : Rail) : (s.setRail r x).boot = s.boot := rfl
@[simp] theorem State.setRail_run (r : Nat) (x : Rail) : (s.setRail r x).run = s.run := rfl
@[simp] theorem State.setRail_watch (r : Nat) (x : Rail) : (s.setRail r x).watch = s.watch := rfl
@[simp] theorem State.setRail_held (r : Nat) (x : Rail) : (s.setRail r x).held = s.held := rfl
@[simp] theorem State.setRail_safePend (r : Nat) (x : Rail) : (s.setRail r x).safePend = s.safePend := rfl
@[simp] theorem State.setRail_regs (r : Nat) (x : Rail) : (s.setRail r x).regs = s.regs := rfl
@[simp] theorem State.setRail_mon (r : Nat) (x : Rail) : (s.setRail r x).mon = s.mon := rfl
@[simp] theorem State.setRail_out (r : Nat) (x : Rail) : (s.setRail r x).out = s.out := rfl
@[simp] theorem State.setRail_free (r : Nat) (x : Rail) : (s.setRail r x).free = s.free := rfl
@[simp] theorem State.setRail_wheels (r : Nat) (x : Rail) : (s.setRail r x).wheels = s.wheels := rfl
@[simp] theorem State.setRail_doms (r : Nat) (x : Rail) : (s.setRail r x).doms = s.doms := rfl
@[simp] theorem State.setRail_slots (r : Nat) (x : Rail) : (s.setRail r x).slots = s.slots := rfl
@[simp] theorem State.setRail_acts (r : Nat) (x : Rail) : (s.setRail r x).acts = s.acts := rfl
@[simp] theorem State.setRail_lanes (r : Nat) (x : Rail) : (s.setRail r x).lanes = s.lanes := rfl
@[simp] theorem State.setRail_rails (r : Nat) (x : Rail) : (s.setRail r x).rails = tabSet {} s.rails r x := rfl
@[simp] theorem State.setRail_cmds (r : Nat) (x : Rail) : (s.setRail r x).cmds = s.cmds := rfl
@[simp] theorem State.setRail_qps (r : Nat) (x : Rail) : (s.setRail r x).qps = s.qps := rfl
@[simp] theorem State.setRail_rss (r : Nat) (x : Rail) : (s.setRail r x).rss = s.rss := rfl
@[simp] theorem State.setRail_pwr (r : Nat) (x : Rail) : (s.setRail r x).pwr = s.pwr := rfl
@[simp] theorem State.setRail_hands (r : Nat) (x : Rail) : (s.setRail r x).hands = s.hands := rfl
@[simp] theorem State.setRail_skew (r : Nat) (x : Rail) : (s.setRail r x).skew = s.skew := rfl
@[simp] theorem State.setRail_setNow (r : Nat) (x : Rail) : (s.setRail r x).setNow = s.setNow := rfl
@[simp] theorem State.setRail_tmrCycs (r : Nat) (x : Rail) : (s.setRail r x).tmrCycs = s.tmrCycs := rfl
@[simp] theorem State.setRail_holdOffAt (r : Nat) (x : Rail) : (s.setRail r x).holdOffAt = s.holdOffAt := rfl
@[simp] theorem State.setRail_upsets (r : Nat) (x : Rail) : (s.setRail r x).upsets = s.upsets := rfl
@[simp] theorem State.setRail_barWait (r : Nat) (x : Rail) : (s.setRail r x).barWait = s.barWait := rfl
@[simp] theorem State.setRail_xings (r : Nat) (x : Rail) : (s.setRail r x).xings = s.xings := rfl
@[simp] theorem State.setRail_live (r : Nat) (x : Rail) : (s.setRail r x).live = s.live := rfl

/-! ### setQp -/

@[simp] theorem State.setQp_pending (q : Nat) (x : Qp) : (s.setQp q x).pending = s.pending := rfl
@[simp] theorem State.setQp_time (q : Nat) (x : Qp) : (s.setQp q x).time = s.time := rfl
@[simp] theorem State.setQp_boot (q : Nat) (x : Qp) : (s.setQp q x).boot = s.boot := rfl
@[simp] theorem State.setQp_run (q : Nat) (x : Qp) : (s.setQp q x).run = s.run := rfl
@[simp] theorem State.setQp_watch (q : Nat) (x : Qp) : (s.setQp q x).watch = s.watch := rfl
@[simp] theorem State.setQp_held (q : Nat) (x : Qp) : (s.setQp q x).held = s.held := rfl
@[simp] theorem State.setQp_safePend (q : Nat) (x : Qp) : (s.setQp q x).safePend = s.safePend := rfl
@[simp] theorem State.setQp_regs (q : Nat) (x : Qp) : (s.setQp q x).regs = s.regs := rfl
@[simp] theorem State.setQp_mon (q : Nat) (x : Qp) : (s.setQp q x).mon = s.mon := rfl
@[simp] theorem State.setQp_out (q : Nat) (x : Qp) : (s.setQp q x).out = s.out := rfl
@[simp] theorem State.setQp_free (q : Nat) (x : Qp) : (s.setQp q x).free = s.free := rfl
@[simp] theorem State.setQp_wheels (q : Nat) (x : Qp) : (s.setQp q x).wheels = s.wheels := rfl
@[simp] theorem State.setQp_doms (q : Nat) (x : Qp) : (s.setQp q x).doms = s.doms := rfl
@[simp] theorem State.setQp_slots (q : Nat) (x : Qp) : (s.setQp q x).slots = s.slots := rfl
@[simp] theorem State.setQp_acts (q : Nat) (x : Qp) : (s.setQp q x).acts = s.acts := rfl
@[simp] theorem State.setQp_lanes (q : Nat) (x : Qp) : (s.setQp q x).lanes = s.lanes := rfl
@[simp] theorem State.setQp_rails (q : Nat) (x : Qp) : (s.setQp q x).rails = s.rails := rfl
@[simp] theorem State.setQp_cmds (q : Nat) (x : Qp) : (s.setQp q x).cmds = s.cmds := rfl
@[simp] theorem State.setQp_qps (q : Nat) (x : Qp) : (s.setQp q x).qps = tabSet {} s.qps q x := rfl
@[simp] theorem State.setQp_rss (q : Nat) (x : Qp) : (s.setQp q x).rss = s.rss := rfl
@[simp] theorem State.setQp_pwr (q : Nat) (x : Qp) : (s.setQp q x).pwr = s.pwr := rfl
@[simp] theorem State.setQp_hands (q : Nat) (x : Qp) : (s.setQp q x).hands = s.hands := rfl
@[simp] theorem State.setQp_skew (q : Nat) (x : Qp) : (s.setQp q x).skew = s.skew := rfl
@[simp] theorem State.setQp_setNow (q : Nat) (x : Qp) : (s.setQp q x).setNow = s.setNow := rfl
@[simp] theorem State.setQp_tmrCycs (q : Nat) (x : Qp) : (s.setQp q x).tmrCycs = s.tmrCycs := rfl
@[simp] theorem State.setQp_holdOffAt (q : Nat) (x : Qp) : (s.setQp q x).holdOffAt = s.holdOffAt := rfl
@[simp] theorem State.setQp_upsets (q : Nat) (x : Qp) : (s.setQp q x).upsets = s.upsets := rfl
@[simp] theorem State.setQp_barWait (q : Nat) (x : Qp) : (s.setQp q x).barWait = s.barWait := rfl
@[simp] theorem State.setQp_xings (q : Nat) (x : Qp) : (s.setQp q x).xings = s.xings := rfl
@[simp] theorem State.setQp_live (q : Nat) (x : Qp) : (s.setQp q x).live = s.live := rfl

/-! ### setRs -/

@[simp] theorem State.setRs_pending (r : Nat) (x : Rs) : (s.setRs r x).pending = s.pending := rfl
@[simp] theorem State.setRs_time (r : Nat) (x : Rs) : (s.setRs r x).time = s.time := rfl
@[simp] theorem State.setRs_boot (r : Nat) (x : Rs) : (s.setRs r x).boot = s.boot := rfl
@[simp] theorem State.setRs_run (r : Nat) (x : Rs) : (s.setRs r x).run = s.run := rfl
@[simp] theorem State.setRs_watch (r : Nat) (x : Rs) : (s.setRs r x).watch = s.watch := rfl
@[simp] theorem State.setRs_held (r : Nat) (x : Rs) : (s.setRs r x).held = s.held := rfl
@[simp] theorem State.setRs_safePend (r : Nat) (x : Rs) : (s.setRs r x).safePend = s.safePend := rfl
@[simp] theorem State.setRs_regs (r : Nat) (x : Rs) : (s.setRs r x).regs = s.regs := rfl
@[simp] theorem State.setRs_mon (r : Nat) (x : Rs) : (s.setRs r x).mon = s.mon := rfl
@[simp] theorem State.setRs_out (r : Nat) (x : Rs) : (s.setRs r x).out = s.out := rfl
@[simp] theorem State.setRs_free (r : Nat) (x : Rs) : (s.setRs r x).free = s.free := rfl
@[simp] theorem State.setRs_wheels (r : Nat) (x : Rs) : (s.setRs r x).wheels = s.wheels := rfl
@[simp] theorem State.setRs_doms (r : Nat) (x : Rs) : (s.setRs r x).doms = s.doms := rfl
@[simp] theorem State.setRs_slots (r : Nat) (x : Rs) : (s.setRs r x).slots = s.slots := rfl
@[simp] theorem State.setRs_acts (r : Nat) (x : Rs) : (s.setRs r x).acts = s.acts := rfl
@[simp] theorem State.setRs_lanes (r : Nat) (x : Rs) : (s.setRs r x).lanes = s.lanes := rfl
@[simp] theorem State.setRs_rails (r : Nat) (x : Rs) : (s.setRs r x).rails = s.rails := rfl
@[simp] theorem State.setRs_cmds (r : Nat) (x : Rs) : (s.setRs r x).cmds = s.cmds := rfl
@[simp] theorem State.setRs_qps (r : Nat) (x : Rs) : (s.setRs r x).qps = s.qps := rfl
@[simp] theorem State.setRs_rss (r : Nat) (x : Rs) : (s.setRs r x).rss = tabSet {} s.rss r x := rfl
@[simp] theorem State.setRs_pwr (r : Nat) (x : Rs) : (s.setRs r x).pwr = s.pwr := rfl
@[simp] theorem State.setRs_hands (r : Nat) (x : Rs) : (s.setRs r x).hands = s.hands := rfl
@[simp] theorem State.setRs_skew (r : Nat) (x : Rs) : (s.setRs r x).skew = s.skew := rfl
@[simp] theorem State.setRs_setNow (r : Nat) (x : Rs) : (s.setRs r x).setNow = s.setNow := rfl
@[simp] theorem State.setRs_tmrCycs (r : Nat) (x : Rs) : (s.setRs r x).tmrCycs = s.tmrCycs := rfl
@[simp] theorem State.setRs_holdOffAt (r : Nat) (x : Rs) : (s.setRs r x).holdOffAt = s.holdOffAt := rfl
@[simp] theorem State.setRs_upsets (r : Nat) (x : Rs) : (s.setRs r x).upsets = s.upsets := rfl
@[simp] theorem State.setRs_barWait (r : Nat) (x : Rs) : (s.setRs r x).barWait = s.barWait := rfl
@[simp] theorem State.setRs_xings (r : Nat) (x : Rs) : (s.setRs r x).xings = s.xings := rfl
@[simp] theorem State.setRs_live (r : Nat) (x : Rs) : (s.setRs r x).live = s.live := rfl

/-! ### setPz -/

@[simp] theorem State.setPz_pending (p : Nat) (e : Pz) : (s.setPz p e).pending = s.pending := rfl
@[simp] theorem State.setPz_time (p : Nat) (e : Pz) : (s.setPz p e).time = s.time := rfl
@[simp] theorem State.setPz_boot (p : Nat) (e : Pz) : (s.setPz p e).boot = s.boot := rfl
@[simp] theorem State.setPz_run (p : Nat) (e : Pz) : (s.setPz p e).run = s.run := rfl
@[simp] theorem State.setPz_watch (p : Nat) (e : Pz) : (s.setPz p e).watch = s.watch := rfl
@[simp] theorem State.setPz_held (p : Nat) (e : Pz) : (s.setPz p e).held = s.held := rfl
@[simp] theorem State.setPz_safePend (p : Nat) (e : Pz) : (s.setPz p e).safePend = s.safePend := rfl
@[simp] theorem State.setPz_regs (p : Nat) (e : Pz) : (s.setPz p e).regs = s.regs := rfl
@[simp] theorem State.setPz_mon (p : Nat) (e : Pz) : (s.setPz p e).mon = s.mon := rfl
@[simp] theorem State.setPz_out (p : Nat) (e : Pz) : (s.setPz p e).out = s.out := rfl
@[simp] theorem State.setPz_free (p : Nat) (e : Pz) : (s.setPz p e).free = s.free := rfl
@[simp] theorem State.setPz_wheels (p : Nat) (e : Pz) : (s.setPz p e).wheels = s.wheels := rfl
@[simp] theorem State.setPz_doms (p : Nat) (e : Pz) : (s.setPz p e).doms = s.doms := rfl
@[simp] theorem State.setPz_slots (p : Nat) (e : Pz) : (s.setPz p e).slots = s.slots := rfl
@[simp] theorem State.setPz_acts (p : Nat) (e : Pz) : (s.setPz p e).acts = s.acts := rfl
@[simp] theorem State.setPz_lanes (p : Nat) (e : Pz) : (s.setPz p e).lanes = s.lanes := rfl
@[simp] theorem State.setPz_rails (p : Nat) (e : Pz) : (s.setPz p e).rails = s.rails := rfl
@[simp] theorem State.setPz_cmds (p : Nat) (e : Pz) : (s.setPz p e).cmds = s.cmds := rfl
@[simp] theorem State.setPz_qps (p : Nat) (e : Pz) : (s.setPz p e).qps = s.qps := rfl
@[simp] theorem State.setPz_rss (p : Nat) (e : Pz) : (s.setPz p e).rss = s.rss := rfl
@[simp] theorem State.setPz_pwr (p : Nat) (e : Pz) : (s.setPz p e).pwr = s.pwr := rfl
@[simp] theorem State.setPz_hands (p : Nat) (e : Pz) : (s.setPz p e).hands = s.hands := rfl
@[simp] theorem State.setPz_skew (p : Nat) (e : Pz) : (s.setPz p e).skew = s.skew := rfl
@[simp] theorem State.setPz_setNow (p : Nat) (e : Pz) : (s.setPz p e).setNow = s.setNow := rfl
@[simp] theorem State.setPz_tmrCycs (p : Nat) (e : Pz) : (s.setPz p e).tmrCycs = s.tmrCycs := rfl
@[simp] theorem State.setPz_holdOffAt (p : Nat) (e : Pz) : (s.setPz p e).holdOffAt = s.holdOffAt := rfl
@[simp] theorem State.setPz_upsets (p : Nat) (e : Pz) : (s.setPz p e).upsets = s.upsets := rfl
@[simp] theorem State.setPz_barWait (p : Nat) (e : Pz) : (s.setPz p e).barWait = s.barWait := rfl
@[simp] theorem State.setPz_xings (p : Nat) (e : Pz) : (s.setPz p e).xings = s.xings := rfl
@[simp] theorem State.setPz_pzs (p : Nat) (e : Pz) : (s.setPz p e).pzs = tabSet {} s.pzs p e := rfl
@[simp] theorem State.setPz_live (p : Nat) (e : Pz) : (s.setPz p e).live = s.live := rfl

/-! ### setActLog -/

@[simp] theorem State.setActLog_pending (a : Nat) (l : ActLog) : (s.setActLog a l).pending = s.pending := rfl
@[simp] theorem State.setActLog_time (a : Nat) (l : ActLog) : (s.setActLog a l).time = s.time := rfl
@[simp] theorem State.setActLog_boot (a : Nat) (l : ActLog) : (s.setActLog a l).boot = s.boot := rfl
@[simp] theorem State.setActLog_run (a : Nat) (l : ActLog) : (s.setActLog a l).run = s.run := rfl
@[simp] theorem State.setActLog_watch (a : Nat) (l : ActLog) : (s.setActLog a l).watch = s.watch := rfl
@[simp] theorem State.setActLog_held (a : Nat) (l : ActLog) : (s.setActLog a l).held = s.held := rfl
@[simp] theorem State.setActLog_safePend (a : Nat) (l : ActLog) : (s.setActLog a l).safePend = s.safePend := rfl
@[simp] theorem State.setActLog_regs (a : Nat) (l : ActLog) : (s.setActLog a l).regs = s.regs := rfl
@[simp] theorem State.setActLog_mon (a : Nat) (l : ActLog) : (s.setActLog a l).mon = s.mon := rfl
@[simp] theorem State.setActLog_out (a : Nat) (l : ActLog) : (s.setActLog a l).out = s.out := rfl
@[simp] theorem State.setActLog_free (a : Nat) (l : ActLog) : (s.setActLog a l).free = s.free := rfl
@[simp] theorem State.setActLog_wheels (a : Nat) (l : ActLog) : (s.setActLog a l).wheels = s.wheels := rfl
@[simp] theorem State.setActLog_doms (a : Nat) (l : ActLog) : (s.setActLog a l).doms = s.doms := rfl
@[simp] theorem State.setActLog_slots (a : Nat) (l : ActLog) : (s.setActLog a l).slots = s.slots := rfl
@[simp] theorem State.setActLog_acts (a : Nat) (l : ActLog) : (s.setActLog a l).acts = s.acts := rfl
@[simp] theorem State.setActLog_lanes (a : Nat) (l : ActLog) : (s.setActLog a l).lanes = s.lanes := rfl
@[simp] theorem State.setActLog_rails (a : Nat) (l : ActLog) : (s.setActLog a l).rails = s.rails := rfl
@[simp] theorem State.setActLog_cmds (a : Nat) (l : ActLog) : (s.setActLog a l).cmds = s.cmds := rfl
@[simp] theorem State.setActLog_qps (a : Nat) (l : ActLog) : (s.setActLog a l).qps = s.qps := rfl
@[simp] theorem State.setActLog_rss (a : Nat) (l : ActLog) : (s.setActLog a l).rss = s.rss := rfl
@[simp] theorem State.setActLog_pwr (a : Nat) (l : ActLog) : (s.setActLog a l).pwr = s.pwr := rfl
@[simp] theorem State.setActLog_hands (a : Nat) (l : ActLog) : (s.setActLog a l).hands = s.hands := rfl
@[simp] theorem State.setActLog_skew (a : Nat) (l : ActLog) : (s.setActLog a l).skew = s.skew := rfl
@[simp] theorem State.setActLog_setNow (a : Nat) (l : ActLog) : (s.setActLog a l).setNow = s.setNow := rfl
@[simp] theorem State.setActLog_tmrCycs (a : Nat) (l : ActLog) : (s.setActLog a l).tmrCycs = s.tmrCycs := rfl
@[simp] theorem State.setActLog_holdOffAt (a : Nat) (l : ActLog) : (s.setActLog a l).holdOffAt = s.holdOffAt := rfl
@[simp] theorem State.setActLog_upsets (a : Nat) (l : ActLog) : (s.setActLog a l).upsets = s.upsets := rfl
@[simp] theorem State.setActLog_barWait (a : Nat) (l : ActLog) : (s.setActLog a l).barWait = s.barWait := rfl
@[simp] theorem State.setActLog_xings (a : Nat) (l : ActLog) : (s.setActLog a l).xings = s.xings := rfl
@[simp] theorem State.setActLog_actLogs (a : Nat) (l : ActLog) : (s.setActLog a l).actLogs = tabSet {} s.actLogs a l := rfl
@[simp] theorem State.setActLog_live (a : Nat) (l : ActLog) : (s.setActLog a l).live = s.live := rfl

/-! ### setMon -/

@[simp] theorem State.setMon_pending (a : Nat) (v : MonWord) : (s.setMon a v).pending = s.pending := rfl
@[simp] theorem State.setMon_time (a : Nat) (v : MonWord) : (s.setMon a v).time = s.time := rfl
@[simp] theorem State.setMon_boot (a : Nat) (v : MonWord) : (s.setMon a v).boot = s.boot := rfl
@[simp] theorem State.setMon_run (a : Nat) (v : MonWord) : (s.setMon a v).run = s.run := rfl
@[simp] theorem State.setMon_watch (a : Nat) (v : MonWord) : (s.setMon a v).watch = s.watch := rfl
@[simp] theorem State.setMon_held (a : Nat) (v : MonWord) : (s.setMon a v).held = s.held := rfl
@[simp] theorem State.setMon_safePend (a : Nat) (v : MonWord) : (s.setMon a v).safePend = s.safePend := rfl
@[simp] theorem State.setMon_regs (a : Nat) (v : MonWord) : (s.setMon a v).regs = s.regs := rfl
@[simp] theorem State.setMon_mon (a : Nat) (v : MonWord) : (s.setMon a v).mon = tabSet (monReset a) s.mon a v := rfl
@[simp] theorem State.setMon_out (a : Nat) (v : MonWord) : (s.setMon a v).out = s.out := rfl
@[simp] theorem State.setMon_free (a : Nat) (v : MonWord) : (s.setMon a v).free = s.free := rfl
@[simp] theorem State.setMon_wheels (a : Nat) (v : MonWord) : (s.setMon a v).wheels = s.wheels := rfl
@[simp] theorem State.setMon_doms (a : Nat) (v : MonWord) : (s.setMon a v).doms = s.doms := rfl
@[simp] theorem State.setMon_slots (a : Nat) (v : MonWord) : (s.setMon a v).slots = s.slots := rfl
@[simp] theorem State.setMon_acts (a : Nat) (v : MonWord) : (s.setMon a v).acts = s.acts := rfl
@[simp] theorem State.setMon_lanes (a : Nat) (v : MonWord) : (s.setMon a v).lanes = s.lanes := rfl
@[simp] theorem State.setMon_rails (a : Nat) (v : MonWord) : (s.setMon a v).rails = s.rails := rfl
@[simp] theorem State.setMon_cmds (a : Nat) (v : MonWord) : (s.setMon a v).cmds = s.cmds := rfl
@[simp] theorem State.setMon_qps (a : Nat) (v : MonWord) : (s.setMon a v).qps = s.qps := rfl
@[simp] theorem State.setMon_rss (a : Nat) (v : MonWord) : (s.setMon a v).rss = s.rss := rfl
@[simp] theorem State.setMon_pwr (a : Nat) (v : MonWord) : (s.setMon a v).pwr = s.pwr := rfl
@[simp] theorem State.setMon_hands (a : Nat) (v : MonWord) : (s.setMon a v).hands = s.hands := rfl
@[simp] theorem State.setMon_skew (a : Nat) (v : MonWord) : (s.setMon a v).skew = s.skew := rfl
@[simp] theorem State.setMon_setNow (a : Nat) (v : MonWord) : (s.setMon a v).setNow = s.setNow := rfl
@[simp] theorem State.setMon_tmrCycs (a : Nat) (v : MonWord) : (s.setMon a v).tmrCycs = s.tmrCycs := rfl
@[simp] theorem State.setMon_holdOffAt (a : Nat) (v : MonWord) : (s.setMon a v).holdOffAt = s.holdOffAt := rfl
@[simp] theorem State.setMon_upsets (a : Nat) (v : MonWord) : (s.setMon a v).upsets = s.upsets := rfl
@[simp] theorem State.setMon_barWait (a : Nat) (v : MonWord) : (s.setMon a v).barWait = s.barWait := rfl
@[simp] theorem State.setMon_xings (a : Nat) (v : MonWord) : (s.setMon a v).xings = s.xings := rfl
@[simp] theorem State.setMon_live (a : Nat) (v : MonWord) : (s.setMon a v).live = s.live := rfl

/-! ### emit -/

@[simp] theorem State.emit_pending (o : Out) : (s.emit o).pending = s.pending := rfl
@[simp] theorem State.emit_time (o : Out) : (s.emit o).time = s.time := rfl
@[simp] theorem State.emit_boot (o : Out) : (s.emit o).boot = s.boot := rfl
@[simp] theorem State.emit_run (o : Out) : (s.emit o).run = s.run := rfl
@[simp] theorem State.emit_watch (o : Out) : (s.emit o).watch = s.watch := rfl
@[simp] theorem State.emit_held (o : Out) : (s.emit o).held = s.held := rfl
@[simp] theorem State.emit_safePend (o : Out) : (s.emit o).safePend = s.safePend := rfl
@[simp] theorem State.emit_regs (o : Out) : (s.emit o).regs = s.regs := rfl
@[simp] theorem State.emit_mon (o : Out) : (s.emit o).mon = s.mon := rfl
@[simp] theorem State.emit_out (o : Out) : (s.emit o).out = o :: s.out := rfl
@[simp] theorem State.emit_free (o : Out) : (s.emit o).free = s.free := rfl
@[simp] theorem State.emit_wheels (o : Out) : (s.emit o).wheels = s.wheels := rfl
@[simp] theorem State.emit_doms (o : Out) : (s.emit o).doms = s.doms := rfl
@[simp] theorem State.emit_slots (o : Out) : (s.emit o).slots = s.slots := rfl
@[simp] theorem State.emit_acts (o : Out) : (s.emit o).acts = s.acts := rfl
@[simp] theorem State.emit_lanes (o : Out) : (s.emit o).lanes = s.lanes := rfl
@[simp] theorem State.emit_rails (o : Out) : (s.emit o).rails = s.rails := rfl
@[simp] theorem State.emit_cmds (o : Out) : (s.emit o).cmds = s.cmds := rfl
@[simp] theorem State.emit_qps (o : Out) : (s.emit o).qps = s.qps := rfl
@[simp] theorem State.emit_rss (o : Out) : (s.emit o).rss = s.rss := rfl
@[simp] theorem State.emit_pwr (o : Out) : (s.emit o).pwr = s.pwr := rfl
@[simp] theorem State.emit_hands (o : Out) : (s.emit o).hands = s.hands := rfl
@[simp] theorem State.emit_skew (o : Out) : (s.emit o).skew = s.skew := rfl
@[simp] theorem State.emit_setNow (o : Out) : (s.emit o).setNow = s.setNow := rfl
@[simp] theorem State.emit_tmrCycs (o : Out) : (s.emit o).tmrCycs = s.tmrCycs := rfl
@[simp] theorem State.emit_holdOffAt (o : Out) : (s.emit o).holdOffAt = s.holdOffAt := rfl
@[simp] theorem State.emit_upsets (o : Out) : (s.emit o).upsets = s.upsets := rfl
@[simp] theorem State.emit_barWait (o : Out) : (s.emit o).barWait = s.barWait := rfl
@[simp] theorem State.emit_xings (o : Out) : (s.emit o).xings = s.xings := rfl
@[simp] theorem State.emit_live (o : Out) : (s.emit o).live = s.live := rfl

/-! ### mark -/

@[simp] theorem State.mark_pending (a t : Nat) (b : Bool) : (s.mark a t b).pending = s.pending := rfl
@[simp] theorem State.mark_time (a t : Nat) (b : Bool) : (s.mark a t b).time = s.time := rfl
@[simp] theorem State.mark_boot (a t : Nat) (b : Bool) : (s.mark a t b).boot = s.boot := rfl
@[simp] theorem State.mark_run (a t : Nat) (b : Bool) : (s.mark a t b).run = s.run := rfl
@[simp] theorem State.mark_watch (a t : Nat) (b : Bool) : (s.mark a t b).watch = s.watch := rfl
@[simp] theorem State.mark_held (a t : Nat) (b : Bool) : (s.mark a t b).held = s.held := rfl
@[simp] theorem State.mark_safePend (a t : Nat) (b : Bool) : (s.mark a t b).safePend = s.safePend := rfl
@[simp] theorem State.mark_regs (a t : Nat) (b : Bool) : (s.mark a t b).regs = s.regs := rfl
@[simp] theorem State.mark_mon (a t : Nat) (b : Bool) : (s.mark a t b).mon = s.mon := rfl
@[simp] theorem State.mark_out (a t : Nat) (b : Bool) : (s.mark a t b).out = s.out := rfl
@[simp] theorem State.mark_free (a t : Nat) (b : Bool) : (s.mark a t b).free = s.free := rfl
@[simp] theorem State.mark_wheels (a t : Nat) (b : Bool) : (s.mark a t b).wheels = s.wheels := rfl
@[simp] theorem State.mark_doms (a t : Nat) (b : Bool) : (s.mark a t b).doms = s.doms := rfl
@[simp] theorem State.mark_slots (a t : Nat) (b : Bool) : (s.mark a t b).slots = s.slots := rfl
@[simp] theorem State.mark_acts (a t : Nat) (b : Bool) : (s.mark a t b).acts = s.acts := rfl
@[simp] theorem State.mark_lanes (a t : Nat) (b : Bool) : (s.mark a t b).lanes = s.lanes := rfl
@[simp] theorem State.mark_rails (a t : Nat) (b : Bool) : (s.mark a t b).rails = s.rails := rfl
@[simp] theorem State.mark_cmds (a t : Nat) (b : Bool) : (s.mark a t b).cmds = s.cmds := rfl
@[simp] theorem State.mark_qps (a t : Nat) (b : Bool) : (s.mark a t b).qps = s.qps := rfl
@[simp] theorem State.mark_rss (a t : Nat) (b : Bool) : (s.mark a t b).rss = s.rss := rfl
@[simp] theorem State.mark_pwr (a t : Nat) (b : Bool) : (s.mark a t b).pwr = s.pwr := rfl
@[simp] theorem State.mark_hands (a t : Nat) (b : Bool) : (s.mark a t b).hands = s.hands := rfl
@[simp] theorem State.mark_skew (a t : Nat) (b : Bool) : (s.mark a t b).skew = s.skew := rfl
@[simp] theorem State.mark_setNow (a t : Nat) (b : Bool) : (s.mark a t b).setNow = s.setNow := rfl
@[simp] theorem State.mark_tmrCycs (a t : Nat) (b : Bool) : (s.mark a t b).tmrCycs = s.tmrCycs := rfl
@[simp] theorem State.mark_holdOffAt (a t : Nat) (b : Bool) : (s.mark a t b).holdOffAt = s.holdOffAt := rfl
@[simp] theorem State.mark_upsets (a t : Nat) (b : Bool) : (s.mark a t b).upsets = s.upsets := rfl
@[simp] theorem State.mark_barWait (a t : Nat) (b : Bool) : (s.mark a t b).barWait = s.barWait := rfl
@[simp] theorem State.mark_xings (a t : Nat) (b : Bool) : (s.mark a t b).xings = s.xings := rfl
@[simp] theorem State.mark_actMarks (a t : Nat) (b : Bool) : (s.mark a t b).actMarks = s.actMarks ++ [(ceilTo 4 t, a, b)] := rfl
@[simp] theorem State.mark_live (a t : Nat) (b : Bool) : (s.mark a t b).live = s.live := rfl

/-! ### setRb -/

@[simp] theorem State.setRb_pending (a b : Nat) (v : Bool) : (s.setRb a b v).pending = s.pending := rfl
@[simp] theorem State.setRb_time (a b : Nat) (v : Bool) : (s.setRb a b v).time = s.time := rfl
@[simp] theorem State.setRb_boot (a b : Nat) (v : Bool) : (s.setRb a b v).boot = s.boot := rfl
@[simp] theorem State.setRb_run (a b : Nat) (v : Bool) : (s.setRb a b v).run = s.run := rfl
@[simp] theorem State.setRb_watch (a b : Nat) (v : Bool) : (s.setRb a b v).watch = s.watch := rfl
@[simp] theorem State.setRb_held (a b : Nat) (v : Bool) : (s.setRb a b v).held = s.held := rfl
@[simp] theorem State.setRb_safePend (a b : Nat) (v : Bool) : (s.setRb a b v).safePend = s.safePend := rfl
@[simp] theorem State.setRb_mon (a b : Nat) (v : Bool) : (s.setRb a b v).mon = s.mon := rfl
@[simp] theorem State.setRb_out (a b : Nat) (v : Bool) : (s.setRb a b v).out = s.out := rfl
@[simp] theorem State.setRb_free (a b : Nat) (v : Bool) : (s.setRb a b v).free = s.free := rfl
@[simp] theorem State.setRb_wheels (a b : Nat) (v : Bool) : (s.setRb a b v).wheels = s.wheels := rfl
@[simp] theorem State.setRb_doms (a b : Nat) (v : Bool) : (s.setRb a b v).doms = s.doms := rfl
@[simp] theorem State.setRb_slots (a b : Nat) (v : Bool) : (s.setRb a b v).slots = s.slots := rfl
@[simp] theorem State.setRb_acts (a b : Nat) (v : Bool) : (s.setRb a b v).acts = s.acts := rfl
@[simp] theorem State.setRb_lanes (a b : Nat) (v : Bool) : (s.setRb a b v).lanes = s.lanes := rfl
@[simp] theorem State.setRb_rails (a b : Nat) (v : Bool) : (s.setRb a b v).rails = s.rails := rfl
@[simp] theorem State.setRb_cmds (a b : Nat) (v : Bool) : (s.setRb a b v).cmds = s.cmds := rfl
@[simp] theorem State.setRb_qps (a b : Nat) (v : Bool) : (s.setRb a b v).qps = s.qps := rfl
@[simp] theorem State.setRb_rss (a b : Nat) (v : Bool) : (s.setRb a b v).rss = s.rss := rfl
@[simp] theorem State.setRb_pwr (a b : Nat) (v : Bool) : (s.setRb a b v).pwr = s.pwr := rfl
@[simp] theorem State.setRb_hands (a b : Nat) (v : Bool) : (s.setRb a b v).hands = s.hands := rfl
@[simp] theorem State.setRb_skew (a b : Nat) (v : Bool) : (s.setRb a b v).skew = s.skew := rfl
@[simp] theorem State.setRb_tmrCycs (a b : Nat) (v : Bool) : (s.setRb a b v).tmrCycs = s.tmrCycs := rfl
@[simp] theorem State.setRb_holdOffAt (a b : Nat) (v : Bool) : (s.setRb a b v).holdOffAt = s.holdOffAt := rfl
@[simp] theorem State.setRb_upsets (a b : Nat) (v : Bool) : (s.setRb a b v).upsets = s.upsets := rfl
@[simp] theorem State.setRb_barWait (a b : Nat) (v : Bool) : (s.setRb a b v).barWait = s.barWait := rfl
@[simp] theorem State.setRb_xings (a b : Nat) (v : Bool) : (s.setRb a b v).xings = s.xings := rfl
@[simp] theorem State.setRb_live (a b : Nat) (v : Bool) : (s.setRb a b v).live = s.live := rfl
@[simp] theorem State.setRb_setNow (a b : Nat) (v : Bool) :
    (s.setRb a b v).setNow = if v then tabSet 0 s.setNow a (setBit (s.justSet a) b true) else s.setNow := rfl
/-- A bit the device clears holds off no write. -/
theorem State.justSet_setRb_false (a b c : Nat) : (s.setRb a b false).justSet c = s.justSet c := rfl
/-- What an event pulse may do as it enters a crossing (R449): it passes, or it waits as the pending one, or it merges and counts. -/
theorem State.crossPulse_cases (k t most : Nat) (f : State → State) :
    (∃ x, s.crossPulse k t most f = f { s with xings := x }) ∨ s.crossPulse k t most f = s.bump rXING_CNT 31 16 := by
  simp only [State.crossPulse]
  split
  · exact .inl ⟨_, rfl⟩
  · split
    · exact .inl ⟨_, rfl⟩
    · exact .inr rfl

/-! ### Reads after writes -/

/-- What a register reads as after a write of a register. -/
theorem State.reg_setReg (a b : Nat) (v : Word) : (s.setReg a v).reg b = if b = a then v else s.reg b := by
  unfold State.reg State.setReg
  split
  · subst_vars
    exact tabGet_tabSet_self _ _ _ _
  · exact tabGet_tabSet_other _ _ _ _ _ _ ‹_›

@[simp] theorem State.reg_setReg_self (a : Nat) (v : Word) : (s.setReg a v).reg a = v := by simp [State.reg_setReg]
theorem State.reg_setRb (a b c : Nat) (v : Bool) : (s.setRb a b v).reg c = if c = a then setBit (s.reg a) b v else s.reg c :=
  s.reg_setReg a c _
@[simp] theorem State.reg_setRb_self (a b : Nat) (v : Bool) : (s.setRb a b v).reg a = setBit (s.reg a) b v := s.reg_setReg_self a _

/-- A register write keeps the register table canonical. -/
theorem State.setReg_wf (a : Nat) (v : Word) (h : tabWf resetOf s.regs = true) : tabWf resetOf (s.setReg a v).regs = true :=
  tabWf_tabSet resetOf s.regs a v h

theorem State.slot_setSlot (a k b j : Nat) (x : Slot) :
    (s.setSlot a k x).slot b j = if 8 * b + j = 8 * a + k then x else s.slot b j := tabGet_tabSet _ _ _ _ _
@[simp] theorem State.slot_setSlot_self (a k : Nat) (x : Slot) : (s.setSlot a k x).slot a k = x := by simp [State.slot_setSlot]

theorem State.monReg_setMon (a b : Nat) (v : MonWord) : (s.setMon a v).monReg b = if b = a then v else s.monReg b := by
  unfold State.monReg State.setMon
  split
  · subst_vars
    exact tabGet_tabSet_self _ _ _ _
  · exact tabGet_tabSet_other _ _ _ _ _ _ ‹_›

theorem State.wheel_setWheel (n m : Nat) (x : Wheel) : (s.setWheel n x).wheel m = if m = n then x else s.wheel m := tabGet_tabSet _ _ _ _ _
@[simp] theorem State.wheel_setWheel_self (n : Nat) (x : Wheel) : (s.setWheel n x).wheel n = x := tabGet_tabSet_self _ _ _ _
theorem State.setWheel_setWheel_of_ne (n : Nat) (x y : Wheel) (h : x ≠ {}) : (s.setWheel n x).setWheel n y = s.setWheel n y := by
  simp only [State.setWheel, tabSet_tabSet_of_ne _ _ n x y h]
theorem State.dom_setDom (n m : Nat) (x : Domain) : (s.setDom n x).dom m = if m = n then x else s.dom m := tabGet_tabSet _ _ _ _ _
@[simp] theorem State.dom_setDom_self (n : Nat) (x : Domain) : (s.setDom n x).dom n = x := tabGet_tabSet_self _ _ _ _
theorem State.setDom_setDom_of_ne (n : Nat) (x y : Domain) (h : x ≠ {}) : (s.setDom n x).setDom n y = s.setDom n y := by
  simp only [State.setDom, tabSet_tabSet_of_ne _ _ n x y h]
theorem State.act_setAct (n m : Nat) (x : Act) : (s.setAct n x).act m = if m = n then x else s.act m := tabGet_tabSet _ _ _ _ _
@[simp] theorem State.act_setAct_self (n : Nat) (x : Act) : (s.setAct n x).act n = x := tabGet_tabSet_self _ _ _ _
theorem State.setAct_setAct_of_ne (n : Nat) (x y : Act) (h : x ≠ {}) : (s.setAct n x).setAct n y = s.setAct n y := by
  simp only [State.setAct, tabSet_tabSet_of_ne _ _ n x y h]
theorem State.lane_setLane (n m : Nat) (x : Lane) : (s.setLane n x).lane m = if m = n then x else s.lane m := tabGet_tabSet _ _ _ _ _
@[simp] theorem State.lane_setLane_self (n : Nat) (x : Lane) : (s.setLane n x).lane n = x := tabGet_tabSet_self _ _ _ _
theorem State.setLane_setLane_of_ne (n : Nat) (x y : Lane) (h : x ≠ {}) : (s.setLane n x).setLane n y = s.setLane n y := by
  simp only [State.setLane, tabSet_tabSet_of_ne _ _ n x y h]
theorem State.rail_setRail (n m : Nat) (x : Rail) : (s.setRail n x).rail m = if m = n then x else s.rail m := tabGet_tabSet _ _ _ _ _
@[simp] theorem State.rail_setRail_self (n : Nat) (x : Rail) : (s.setRail n x).rail n = x := tabGet_tabSet_self _ _ _ _
theorem State.setRail_setRail_of_ne (n : Nat) (x y : Rail) (h : x ≠ {}) : (s.setRail n x).setRail n y = s.setRail n y := by
  simp only [State.setRail, tabSet_tabSet_of_ne _ _ n x y h]
theorem State.qp_setQp (n m : Nat) (x : Qp) : (s.setQp n x).qp m = if m = n then x else s.qp m := tabGet_tabSet _ _ _ _ _
@[simp] theorem State.qp_setQp_self (n : Nat) (x : Qp) : (s.setQp n x).qp n = x := tabGet_tabSet_self _ _ _ _
theorem State.setQp_setQp_of_ne (n : Nat) (x y : Qp) (h : x ≠ {}) : (s.setQp n x).setQp n y = s.setQp n y := by
  simp only [State.setQp, tabSet_tabSet_of_ne _ _ n x y h]
theorem State.rs_setRs (n m : Nat) (x : Rs) : (s.setRs n x).rs m = if m = n then x else s.rs m := tabGet_tabSet _ _ _ _ _
@[simp] theorem State.rs_setRs_self (n : Nat) (x : Rs) : (s.setRs n x).rs n = x := tabGet_tabSet_self _ _ _ _
theorem State.setRs_setRs_of_ne (n : Nat) (x y : Rs) (h : x ≠ {}) : (s.setRs n x).setRs n y = s.setRs n y := by
  simp only [State.setRs, tabSet_tabSet_of_ne _ _ n x y h]
theorem State.pz_setPz (n m : Nat) (x : Pz) : (s.setPz n x).pz m = if m = n then x else s.pz m := tabGet_tabSet _ _ _ _ _
@[simp] theorem State.pz_setPz_self (n : Nat) (x : Pz) : (s.setPz n x).pz n = x := tabGet_tabSet_self _ _ _ _
theorem State.setPz_setPz_of_ne (n : Nat) (x y : Pz) (h : x ≠ {}) : (s.setPz n x).setPz n y = s.setPz n y := by
  simp only [State.setPz, tabSet_tabSet_of_ne _ _ n x y h]
theorem State.actLog_setActLog (n m : Nat) (x : ActLog) : (s.setActLog n x).actLog m = if m = n then x else s.actLog m := tabGet_tabSet _ _ _ _ _
@[simp] theorem State.actLog_setActLog_self (n : Nat) (x : ActLog) : (s.setActLog n x).actLog n = x := tabGet_tabSet_self _ _ _ _
theorem State.setActLog_setActLog_of_ne (n : Nat) (x y : ActLog) (h : x ≠ {}) : (s.setActLog n x).setActLog n y = s.setActLog n y := by
  simp only [State.setActLog, tabSet_tabSet_of_ne _ _ n x y h]

/-! ### Reads through writes elsewhere -/

@[simp] theorem State.setReg_wheel (a : Nat) (v : Word) (m : Nat) : (s.setReg a v).wheel m = s.wheel m := rfl
@[simp] theorem State.setReg_dom (a : Nat) (v : Word) (m : Nat) : (s.setReg a v).dom m = s.dom m := rfl
@[simp] theorem State.setReg_act (a : Nat) (v : Word) (m : Nat) : (s.setReg a v).act m = s.act m := rfl
@[simp] theorem State.setReg_slot (a : Nat) (v : Word) (m j : Nat) : (s.setReg a v).slot m j = s.slot m j := rfl
@[simp] theorem State.setReg_lane (a : Nat) (v : Word) (m : Nat) : (s.setReg a v).lane m = s.lane m := rfl
@[simp] theorem State.setReg_rail (a : Nat) (v : Word) (m : Nat) : (s.setReg a v).rail m = s.rail m := rfl
@[simp] theorem State.setReg_qp (a : Nat) (v : Word) (m : Nat) : (s.setReg a v).qp m = s.qp m := rfl
@[simp] theorem State.setReg_rs (a : Nat) (v : Word) (m : Nat) : (s.setReg a v).rs m = s.rs m := rfl
@[simp] theorem State.setReg_pz (a : Nat) (v : Word) (m : Nat) : (s.setReg a v).pz m = s.pz m := rfl
@[simp] theorem State.setReg_actLog (a : Nat) (v : Word) (m : Nat) : (s.setReg a v).actLog m = s.actLog m := rfl
@[simp] theorem State.setReg_monReg (a : Nat) (v : Word) (m : Nat) : (s.setReg a v).monReg m = s.monReg m := rfl
@[simp] theorem State.setWheel_dom (n : Nat) (w : Wheel) (m : Nat) : (s.setWheel n w).dom m = s.dom m := rfl
@[simp] theorem State.setWheel_act (n : Nat) (w : Wheel) (m : Nat) : (s.setWheel n w).act m = s.act m := rfl
@[simp] theorem State.setWheel_slot (n : Nat) (w : Wheel) (m j : Nat) : (s.setWheel n w).slot m j = s.slot m j := rfl
@[simp] theorem State.setWheel_lane (n : Nat) (w : Wheel) (m : Nat) : (s.setWheel n w).lane m = s.lane m := rfl
@[simp] theorem State.setWheel_rail (n : Nat) (w : Wheel) (m : Nat) : (s.setWheel n w).rail m = s.rail m := rfl
@[simp] theorem State.setWheel_qp (n : Nat) (w : Wheel) (m : Nat) : (s.setWheel n w).qp m = s.qp m := rfl
@[simp] theorem State.setWheel_rs (n : Nat) (w : Wheel) (m : Nat) : (s.setWheel n w).rs m = s.rs m := rfl
@[simp] theorem State.setWheel_pz (n : Nat) (w : Wheel) (m : Nat) : (s.setWheel n w).pz m = s.pz m := rfl
@[simp] theorem State.setWheel_reg (n : Nat) (w : Wheel) (m : Nat) : (s.setWheel n w).reg m = s.reg m := rfl
@[simp] theorem State.setWheel_actLog (n : Nat) (w : Wheel) (m : Nat) : (s.setWheel n w).actLog m = s.actLog m := rfl
@[simp] theorem State.setWheel_monReg (n : Nat) (w : Wheel) (m : Nat) : (s.setWheel n w).monReg m = s.monReg m := rfl
@[simp] theorem State.setDom_wheel (d : Nat) (x : Domain) (m : Nat) : (s.setDom d x).wheel m = s.wheel m := rfl
@[simp] theorem State.setDom_act (d : Nat) (x : Domain) (m : Nat) : (s.setDom d x).act m = s.act m := rfl
@[simp] theorem State.setDom_slot (d : Nat) (x : Domain) (m j : Nat) : (s.setDom d x).slot m j = s.slot m j := rfl
@[simp] theorem State.setDom_lane (d : Nat) (x : Domain) (m : Nat) : (s.setDom d x).lane m = s.lane m := rfl
@[simp] theorem State.setDom_rail (d : Nat) (x : Domain) (m : Nat) : (s.setDom d x).rail m = s.rail m := rfl
@[simp] theorem State.setDom_qp (d : Nat) (x : Domain) (m : Nat) : (s.setDom d x).qp m = s.qp m := rfl
@[simp] theorem State.setDom_rs (d : Nat) (x : Domain) (m : Nat) : (s.setDom d x).rs m = s.rs m := rfl
@[simp] theorem State.setDom_pz (d : Nat) (x : Domain) (m : Nat) : (s.setDom d x).pz m = s.pz m := rfl
@[simp] theorem State.setDom_reg (d : Nat) (x : Domain) (m : Nat) : (s.setDom d x).reg m = s.reg m := rfl
@[simp] theorem State.setDom_actLog (d : Nat) (x : Domain) (m : Nat) : (s.setDom d x).actLog m = s.actLog m := rfl
@[simp] theorem State.setDom_monReg (d : Nat) (x : Domain) (m : Nat) : (s.setDom d x).monReg m = s.monReg m := rfl
@[simp] theorem State.setAct_wheel (a : Nat) (x : Act) (m : Nat) : (s.setAct a x).wheel m = s.wheel m := rfl
@[simp] theorem State.setAct_dom (a : Nat) (x : Act) (m : Nat) : (s.setAct a x).dom m = s.dom m := rfl
@[simp] theorem State.setAct_slot (a : Nat) (x : Act) (m j : Nat) : (s.setAct a x).slot m j = s.slot m j := rfl
@[simp] theorem State.setAct_lane (a : Nat) (x : Act) (m : Nat) : (s.setAct a x).lane m = s.lane m := rfl
@[simp] theorem State.setAct_rail (a : Nat) (x : Act) (m : Nat) : (s.setAct a x).rail m = s.rail m := rfl
@[simp] theorem State.setAct_qp (a : Nat) (x : Act) (m : Nat) : (s.setAct a x).qp m = s.qp m := rfl
@[simp] theorem State.setAct_rs (a : Nat) (x : Act) (m : Nat) : (s.setAct a x).rs m = s.rs m := rfl
@[simp] theorem State.setAct_pz (a : Nat) (x : Act) (m : Nat) : (s.setAct a x).pz m = s.pz m := rfl
@[simp] theorem State.setAct_reg (a : Nat) (x : Act) (m : Nat) : (s.setAct a x).reg m = s.reg m := rfl
@[simp] theorem State.setAct_actLog (a : Nat) (x : Act) (m : Nat) : (s.setAct a x).actLog m = s.actLog m := rfl
@[simp] theorem State.setAct_monReg (a : Nat) (x : Act) (m : Nat) : (s.setAct a x).monReg m = s.monReg m := rfl
@[simp] theorem State.setSlot_wheel (a k : Nat) (x : Slot) (m : Nat) : (s.setSlot a k x).wheel m = s.wheel m := rfl
@[simp] theorem State.setSlot_dom (a k : Nat) (x : Slot) (m : Nat) : (s.setSlot a k x).dom m = s.dom m := rfl
@[simp] theorem State.setSlot_act (a k : Nat) (x : Slot) (m : Nat) : (s.setSlot a k x).act m = s.act m := rfl
@[simp] theorem State.setSlot_lane (a k : Nat) (x : Slot) (m : Nat) : (s.setSlot a k x).lane m = s.lane m := rfl
@[simp] theorem State.setSlot_rail (a k : Nat) (x : Slot) (m : Nat) : (s.setSlot a k x).rail m = s.rail m := rfl
@[simp] theorem State.setSlot_qp (a k : Nat) (x : Slot) (m : Nat) : (s.setSlot a k x).qp m = s.qp m := rfl
@[simp] theorem State.setSlot_rs (a k : Nat) (x : Slot) (m : Nat) : (s.setSlot a k x).rs m = s.rs m := rfl
@[simp] theorem State.setSlot_pz (a k : Nat) (x : Slot) (m : Nat) : (s.setSlot a k x).pz m = s.pz m := rfl
@[simp] theorem State.setSlot_reg (a k : Nat) (x : Slot) (m : Nat) : (s.setSlot a k x).reg m = s.reg m := rfl
@[simp] theorem State.setSlot_actLog (a k : Nat) (x : Slot) (m : Nat) : (s.setSlot a k x).actLog m = s.actLog m := rfl
@[simp] theorem State.setSlot_monReg (a k : Nat) (x : Slot) (m : Nat) : (s.setSlot a k x).monReg m = s.monReg m := rfl
@[simp] theorem State.setLane_wheel (n : Nat) (x : Lane) (m : Nat) : (s.setLane n x).wheel m = s.wheel m := rfl
@[simp] theorem State.setLane_dom (n : Nat) (x : Lane) (m : Nat) : (s.setLane n x).dom m = s.dom m := rfl
@[simp] theorem State.setLane_act (n : Nat) (x : Lane) (m : Nat) : (s.setLane n x).act m = s.act m := rfl
@[simp] theorem State.setLane_slot (n : Nat) (x : Lane) (m j : Nat) : (s.setLane n x).slot m j = s.slot m j := rfl
@[simp] theorem State.setLane_rail (n : Nat) (x : Lane) (m : Nat) : (s.setLane n x).rail m = s.rail m := rfl
@[simp] theorem State.setLane_qp (n : Nat) (x : Lane) (m : Nat) : (s.setLane n x).qp m = s.qp m := rfl
@[simp] theorem State.setLane_rs (n : Nat) (x : Lane) (m : Nat) : (s.setLane n x).rs m = s.rs m := rfl
@[simp] theorem State.setLane_pz (n : Nat) (x : Lane) (m : Nat) : (s.setLane n x).pz m = s.pz m := rfl
@[simp] theorem State.setLane_reg (n : Nat) (x : Lane) (m : Nat) : (s.setLane n x).reg m = s.reg m := rfl
@[simp] theorem State.setLane_actLog (n : Nat) (x : Lane) (m : Nat) : (s.setLane n x).actLog m = s.actLog m := rfl
@[simp] theorem State.setLane_monReg (n : Nat) (x : Lane) (m : Nat) : (s.setLane n x).monReg m = s.monReg m := rfl
@[simp] theorem State.setRail_wheel (r : Nat) (x : Rail) (m : Nat) : (s.setRail r x).wheel m = s.wheel m := rfl
@[simp] theorem State.setRail_dom (r : Nat) (x : Rail) (m : Nat) : (s.setRail r x).dom m = s.dom m := rfl
@[simp] theorem State.setRail_act (r : Nat) (x : Rail) (m : Nat) : (s.setRail r x).act m = s.act m := rfl
@[simp] theorem State.setRail_slot (r : Nat) (x : Rail) (m j : Nat) : (s.setRail r x).slot m j = s.slot m j := rfl
@[simp] theorem State.setRail_lane (r : Nat) (x : Rail) (m : Nat) : (s.setRail r x).lane m = s.lane m := rfl
@[simp] theorem State.setRail_qp (r : Nat) (x : Rail) (m : Nat) : (s.setRail r x).qp m = s.qp m := rfl
@[simp] theorem State.setRail_rs (r : Nat) (x : Rail) (m : Nat) : (s.setRail r x).rs m = s.rs m := rfl
@[simp] theorem State.setRail_pz (r : Nat) (x : Rail) (m : Nat) : (s.setRail r x).pz m = s.pz m := rfl
@[simp] theorem State.setRail_reg (r : Nat) (x : Rail) (m : Nat) : (s.setRail r x).reg m = s.reg m := rfl
@[simp] theorem State.setRail_actLog (r : Nat) (x : Rail) (m : Nat) : (s.setRail r x).actLog m = s.actLog m := rfl
@[simp] theorem State.setRail_monReg (r : Nat) (x : Rail) (m : Nat) : (s.setRail r x).monReg m = s.monReg m := rfl
@[simp] theorem State.setQp_wheel (q : Nat) (x : Qp) (m : Nat) : (s.setQp q x).wheel m = s.wheel m := rfl
@[simp] theorem State.setQp_dom (q : Nat) (x : Qp) (m : Nat) : (s.setQp q x).dom m = s.dom m := rfl
@[simp] theorem State.setQp_act (q : Nat) (x : Qp) (m : Nat) : (s.setQp q x).act m = s.act m := rfl
@[simp] theorem State.setQp_slot (q : Nat) (x : Qp) (m j : Nat) : (s.setQp q x).slot m j = s.slot m j := rfl
@[simp] theorem State.setQp_lane (q : Nat) (x : Qp) (m : Nat) : (s.setQp q x).lane m = s.lane m := rfl
@[simp] theorem State.setQp_rail (q : Nat) (x : Qp) (m : Nat) : (s.setQp q x).rail m = s.rail m := rfl
@[simp] theorem State.setQp_rs (q : Nat) (x : Qp) (m : Nat) : (s.setQp q x).rs m = s.rs m := rfl
@[simp] theorem State.setQp_pz (q : Nat) (x : Qp) (m : Nat) : (s.setQp q x).pz m = s.pz m := rfl
@[simp] theorem State.setQp_reg (q : Nat) (x : Qp) (m : Nat) : (s.setQp q x).reg m = s.reg m := rfl
@[simp] theorem State.setQp_actLog (q : Nat) (x : Qp) (m : Nat) : (s.setQp q x).actLog m = s.actLog m := rfl
@[simp] theorem State.setQp_monReg (q : Nat) (x : Qp) (m : Nat) : (s.setQp q x).monReg m = s.monReg m := rfl
@[simp] theorem State.setRs_wheel (r : Nat) (x : Rs) (m : Nat) : (s.setRs r x).wheel m = s.wheel m := rfl
@[simp] theorem State.setRs_dom (r : Nat) (x : Rs) (m : Nat) : (s.setRs r x).dom m = s.dom m := rfl
@[simp] theorem State.setRs_act (r : Nat) (x : Rs) (m : Nat) : (s.setRs r x).act m = s.act m := rfl
@[simp] theorem State.setRs_slot (r : Nat) (x : Rs) (m j : Nat) : (s.setRs r x).slot m j = s.slot m j := rfl
@[simp] theorem State.setRs_lane (r : Nat) (x : Rs) (m : Nat) : (s.setRs r x).lane m = s.lane m := rfl
@[simp] theorem State.setRs_rail (r : Nat) (x : Rs) (m : Nat) : (s.setRs r x).rail m = s.rail m := rfl
@[simp] theorem State.setRs_qp (r : Nat) (x : Rs) (m : Nat) : (s.setRs r x).qp m = s.qp m := rfl
@[simp] theorem State.setRs_pz (r : Nat) (x : Rs) (m : Nat) : (s.setRs r x).pz m = s.pz m := rfl
@[simp] theorem State.setRs_reg (r : Nat) (x : Rs) (m : Nat) : (s.setRs r x).reg m = s.reg m := rfl
@[simp] theorem State.setRs_actLog (r : Nat) (x : Rs) (m : Nat) : (s.setRs r x).actLog m = s.actLog m := rfl
@[simp] theorem State.setRs_monReg (r : Nat) (x : Rs) (m : Nat) : (s.setRs r x).monReg m = s.monReg m := rfl
@[simp] theorem State.setPz_wheel (p : Nat) (e : Pz) (m : Nat) : (s.setPz p e).wheel m = s.wheel m := rfl
@[simp] theorem State.setPz_dom (p : Nat) (e : Pz) (m : Nat) : (s.setPz p e).dom m = s.dom m := rfl
@[simp] theorem State.setPz_act (p : Nat) (e : Pz) (m : Nat) : (s.setPz p e).act m = s.act m := rfl
@[simp] theorem State.setPz_slot (p : Nat) (e : Pz) (m j : Nat) : (s.setPz p e).slot m j = s.slot m j := rfl
@[simp] theorem State.setPz_lane (p : Nat) (e : Pz) (m : Nat) : (s.setPz p e).lane m = s.lane m := rfl
@[simp] theorem State.setPz_rail (p : Nat) (e : Pz) (m : Nat) : (s.setPz p e).rail m = s.rail m := rfl
@[simp] theorem State.setPz_qp (p : Nat) (e : Pz) (m : Nat) : (s.setPz p e).qp m = s.qp m := rfl
@[simp] theorem State.setPz_rs (p : Nat) (e : Pz) (m : Nat) : (s.setPz p e).rs m = s.rs m := rfl
@[simp] theorem State.setPz_reg (p : Nat) (e : Pz) (m : Nat) : (s.setPz p e).reg m = s.reg m := rfl
@[simp] theorem State.setPz_actLog (p : Nat) (e : Pz) (m : Nat) : (s.setPz p e).actLog m = s.actLog m := rfl
@[simp] theorem State.setPz_monReg (p : Nat) (e : Pz) (m : Nat) : (s.setPz p e).monReg m = s.monReg m := rfl
@[simp] theorem State.setActLog_wheel (a : Nat) (l : ActLog) (m : Nat) : (s.setActLog a l).wheel m = s.wheel m := rfl
@[simp] theorem State.setActLog_dom (a : Nat) (l : ActLog) (m : Nat) : (s.setActLog a l).dom m = s.dom m := rfl
@[simp] theorem State.setActLog_act (a : Nat) (l : ActLog) (m : Nat) : (s.setActLog a l).act m = s.act m := rfl
@[simp] theorem State.setActLog_slot (a : Nat) (l : ActLog) (m j : Nat) : (s.setActLog a l).slot m j = s.slot m j := rfl
@[simp] theorem State.setActLog_lane (a : Nat) (l : ActLog) (m : Nat) : (s.setActLog a l).lane m = s.lane m := rfl
@[simp] theorem State.setActLog_rail (a : Nat) (l : ActLog) (m : Nat) : (s.setActLog a l).rail m = s.rail m := rfl
@[simp] theorem State.setActLog_qp (a : Nat) (l : ActLog) (m : Nat) : (s.setActLog a l).qp m = s.qp m := rfl
@[simp] theorem State.setActLog_rs (a : Nat) (l : ActLog) (m : Nat) : (s.setActLog a l).rs m = s.rs m := rfl
@[simp] theorem State.setActLog_pz (a : Nat) (l : ActLog) (m : Nat) : (s.setActLog a l).pz m = s.pz m := rfl
@[simp] theorem State.setActLog_reg (a : Nat) (l : ActLog) (m : Nat) : (s.setActLog a l).reg m = s.reg m := rfl
@[simp] theorem State.setActLog_monReg (a : Nat) (l : ActLog) (m : Nat) : (s.setActLog a l).monReg m = s.monReg m := rfl
@[simp] theorem State.setMon_wheel (a : Nat) (v : MonWord) (m : Nat) : (s.setMon a v).wheel m = s.wheel m := rfl
@[simp] theorem State.setMon_dom (a : Nat) (v : MonWord) (m : Nat) : (s.setMon a v).dom m = s.dom m := rfl
@[simp] theorem State.setMon_act (a : Nat) (v : MonWord) (m : Nat) : (s.setMon a v).act m = s.act m := rfl
@[simp] theorem State.setMon_slot (a : Nat) (v : MonWord) (m j : Nat) : (s.setMon a v).slot m j = s.slot m j := rfl
@[simp] theorem State.setMon_lane (a : Nat) (v : MonWord) (m : Nat) : (s.setMon a v).lane m = s.lane m := rfl
@[simp] theorem State.setMon_rail (a : Nat) (v : MonWord) (m : Nat) : (s.setMon a v).rail m = s.rail m := rfl
@[simp] theorem State.setMon_qp (a : Nat) (v : MonWord) (m : Nat) : (s.setMon a v).qp m = s.qp m := rfl
@[simp] theorem State.setMon_rs (a : Nat) (v : MonWord) (m : Nat) : (s.setMon a v).rs m = s.rs m := rfl
@[simp] theorem State.setMon_pz (a : Nat) (v : MonWord) (m : Nat) : (s.setMon a v).pz m = s.pz m := rfl
@[simp] theorem State.setMon_reg (a : Nat) (v : MonWord) (m : Nat) : (s.setMon a v).reg m = s.reg m := rfl
@[simp] theorem State.setMon_actLog (a : Nat) (v : MonWord) (m : Nat) : (s.setMon a v).actLog m = s.actLog m := rfl
@[simp] theorem State.emit_wheel (o : Out) (m : Nat) : (s.emit o).wheel m = s.wheel m := rfl
@[simp] theorem State.emit_dom (o : Out) (m : Nat) : (s.emit o).dom m = s.dom m := rfl
@[simp] theorem State.emit_act (o : Out) (m : Nat) : (s.emit o).act m = s.act m := rfl
@[simp] theorem State.emit_slot (o : Out) (m j : Nat) : (s.emit o).slot m j = s.slot m j := rfl
@[simp] theorem State.emit_lane (o : Out) (m : Nat) : (s.emit o).lane m = s.lane m := rfl
@[simp] theorem State.emit_rail (o : Out) (m : Nat) : (s.emit o).rail m = s.rail m := rfl
@[simp] theorem State.emit_qp (o : Out) (m : Nat) : (s.emit o).qp m = s.qp m := rfl
@[simp] theorem State.emit_rs (o : Out) (m : Nat) : (s.emit o).rs m = s.rs m := rfl
@[simp] theorem State.emit_pz (o : Out) (m : Nat) : (s.emit o).pz m = s.pz m := rfl
@[simp] theorem State.emit_reg (o : Out) (m : Nat) : (s.emit o).reg m = s.reg m := rfl
@[simp] theorem State.emit_actLog (o : Out) (m : Nat) : (s.emit o).actLog m = s.actLog m := rfl
@[simp] theorem State.emit_monReg (o : Out) (m : Nat) : (s.emit o).monReg m = s.monReg m := rfl
@[simp] theorem State.mark_wheel (a t : Nat) (b : Bool) (m : Nat) : (s.mark a t b).wheel m = s.wheel m := rfl
@[simp] theorem State.mark_dom (a t : Nat) (b : Bool) (m : Nat) : (s.mark a t b).dom m = s.dom m := rfl
@[simp] theorem State.mark_act (a t : Nat) (b : Bool) (m : Nat) : (s.mark a t b).act m = s.act m := rfl
@[simp] theorem State.mark_slot (a t : Nat) (b : Bool) (m j : Nat) : (s.mark a t b).slot m j = s.slot m j := rfl
@[simp] theorem State.mark_lane (a t : Nat) (b : Bool) (m : Nat) : (s.mark a t b).lane m = s.lane m := rfl
@[simp] theorem State.mark_rail (a t : Nat) (b : Bool) (m : Nat) : (s.mark a t b).rail m = s.rail m := rfl
@[simp] theorem State.mark_qp (a t : Nat) (b : Bool) (m : Nat) : (s.mark a t b).qp m = s.qp m := rfl
@[simp] theorem State.mark_rs (a t : Nat) (b : Bool) (m : Nat) : (s.mark a t b).rs m = s.rs m := rfl
@[simp] theorem State.mark_pz (a t : Nat) (b : Bool) (m : Nat) : (s.mark a t b).pz m = s.pz m := rfl
@[simp] theorem State.mark_reg (a t : Nat) (b : Bool) (m : Nat) : (s.mark a t b).reg m = s.reg m := rfl
@[simp] theorem State.mark_actLog (a t : Nat) (b : Bool) (m : Nat) : (s.mark a t b).actLog m = s.actLog m := rfl
@[simp] theorem State.mark_monReg (a t : Nat) (b : Bool) (m : Nat) : (s.mark a t b).monReg m = s.monReg m := rfl

/-! ### SAFE -/

/-- Nothing waits: settling changes nothing. -/
theorem State.settle_of_not_pend (h : s.safePend = false) : s.settle = s := by simp [State.settle, h]

/-- What a command of the running main domain answers where it leaves no SAFE cause waiting. -/
theorem execute_next (f : State → State) (hl : s.live = true) (hp : (f s).safePend = false) : execute f s = .next (f s) := by
  simp [execute, hl, State.settle_of_not_pend _ hp]

/-- Nothing happens while the main domain does not run. -/
theorem execute_idle (f : State → State) (hl : s.live = false) : execute f s = .next s := by simp [execute, hl]

end Sys2Proof.Machine
end

