-- ==== Sys2Proof/Laws/Command.lean ====
section
/-! SUPPORT. What the shared start of an opcode command does. -/

namespace Sys2Proof.Machine

/-- Starting a command changes no ground of refusal. -/
theorem State.refusal_start (s : State) (c : Cmd) : (s.start c).refusal (s.go c) = s.refusal c := rfl

/-- A command for this device alone that has just started is judged here. -/
theorem State.launch_here (s : State) (c : Cmd) (f : State → Cmd → State) (ht : c.target = 0) : s.launch c f = s.vetted c f := by
  simp [State.launch, State.here, ht]

/-- A command for this device alone that may start runs its effect at once, as started. -/
theorem State.command_begins (s : State) (lo hi op e : Nat) (c : Cmd) (f : State → Cmd → State) (h : s.begins op e c)
    (h1 : lo ≤ op) (h2 : op ≤ hi) : s.command lo hi e f = f (s.start c) (s.go c) := by
  obtain ⟨_, hc, ho, hn, ht, hs, hr⟩ := h
  have ho' : ¬(c.opcode < lo ∨ hi < c.opcode) := by omega
  have ht' : (s.go c).target = 0 := ht
  simp only [State.command, hc, ho', hn, hs]
  simp [State.launch_here _ _ _ ht', State.vetted, State.refusal_start, hr]

/-- A command that has started goes on with its effect. -/
theorem State.command_runsOn (s : State) (lo hi op e : Nat) (c : Cmd) (f : State → Cmd → State) (h : s.runsOn op e c)
    (h1 : lo ≤ op) (h2 : op ≤ hi) : s.command lo hi e f = f s c := by
  obtain ⟨_, hc, ho, ⟨t, hn, _⟩, ht, hr⟩ := h
  have ho' : ¬(c.opcode < lo ∨ hi < c.opcode) := by omega
  simp [State.command, hc, ho', hn, State.here, ht, hr]

/-- A command that ownership or its operands refuse finishes with that status and a zero result (R298). -/
theorem State.command_refused (s : State) (lo hi op e st : Nat) (c : Cmd) (f : State → Cmd → State) (hc : s.cmdAt e = some c)
    (ho : c.opcode = op) (hn : c.started = none) (ht : c.target = 0) (hs : s.startable c = true) (hr : s.refusal c = some st)
    (h1 : lo ≤ op) (h2 : op ≤ hi) : s.command lo hi e f = (s.start c).finish (s.go c) st 0 := by
  have ho' : ¬(c.opcode < lo ∨ hi < c.opcode) := by omega
  have ht' : (s.go c).target = 0 := ht
  simp only [State.command, hc, ho', hn, hs]
  simp [State.launch_here _ _ _ ht', State.vetted, State.refusal_start, hr]

end Sys2Proof.Machine
end

