-- ==== Sys2Proof/Laws/Frames.lean ====
section
/-! SUPPORT. What the shared wrappers and group operations do: commands that take a ring frame, an engine's cycle, a bit mask of
timers, and the frames of the timer operations. -/

namespace Sys2Proof.Machine

/-! ### Ring frames -/

/-- A frame for this device alone is taken whole (R327). -/
theorem State.takeFrame_takes {s u : State} {typ : Nat} {f : Frame} (h : s.takes u typ f) (act : State → State) : s.takeFrame typ f act = act u := by
  obtain ⟨_, h2, h3, h4, rfl, h6, h7⟩ := h
  simp [State.takeFrame, *]

/-- A broadcast frame is passed on and taken (R327). -/
theorem State.takeFrame_hears {s v : State} {typ : Nat} {f : Frame} (h : s.hears v typ f) (act : State → State) :
    s.takeFrame typ f act = act v := by
  obtain ⟨_, h2, h3, h4, rfl, h6, h7, h8⟩ := h
  simp [State.takeFrame, *]

/-- A neighbour's frame is taken (Table 12.3). -/
theorem State.takeNear_meets {s : State} {typ : Nat} {f : Frame} (h : s.meets typ f) (act : State → State) : s.takeNear typ f act = act s := by
  obtain ⟨h1, h2, h3, h4⟩ := h
  simp [State.takeNear, *]

/-! ### A Pretzel engine's cycle -/

/-- A due engine runs the instruction it fetched, in the row of that instruction (R357, R361). -/
theorem execute_pzCycle {s u r : State} {p : Fin 16} {pins : BitVec 32} {i : PzOp} {t : Fin 4} (op : Nat) (hu : u = { s with pinIn := pins })
    (h : u.executes r p i t) (ho : i.op = op) :
    execute (fun s => s.pzCycle op p pins (fun s i => s.pzRun p i)) s = .next (r.pzTake p t (r.pzRun p i)).settle := by
  obtain ⟨a, b, c, d, rfl⟩ := h
  have hl : s.live = true := by rw [← a, hu]; rfl
  simp only [execute, hl, State.pzCycle, ← hu, b, d, ho]
  rcases c with c | c <;> simp [c]

/-! ### Masks and timers -/

/-- A mask that names one item acts on it alone. -/
theorem State.eachBit_one (s : State) (v : Word) (t : Fin 32) (f : State → Nat → State) (h : ∀ i < 32, bit v i = decide (i = t.val)) :
    s.eachBit v f = f s t := by
  have key : ∀ l : List Nat, (∀ i ∈ l, i < 32) → l.Nodup → ∀ x : State,
      l.foldl (fun s i => if bit v i then f s i else s) x = if t.val ∈ l then f x t else x := by
    intro l
    induction l with
    | nil => intros; simp
    | cons a l ih =>
      intro h1 h2 x
      have ha := h a (h1 a (by simp))
      rw [List.foldl_cons, ih (fun i hi => h1 i (by simp [hi])) (List.nodup_cons.1 h2).2]
      by_cases e : a = t.val
      · have e' : t.val ∉ l := e ▸ (List.nodup_cons.1 h2).1
        have b : bit v a = true := by rw [ha, decide_eq_true e]
        rw [if_pos b, if_neg e', e]; simp
      · have e' : t.val ≠ a := fun h => e h.symm
        have b : bit v a = false := by rw [ha, decide_eq_false e]
        simp [b, e']
  unfold State.eachBit
  rw [key (below 32) (by simp [below]) (by simp [below]; exact List.nodup_range) s]
  simp [below]

/-- A fold of timer changes changes the timers alone. -/
theorem foldl_tmrs (f : State → Nat → State) (hf : ∀ s n, ∃ u, f s n = { s with tmrs := u }) (l : List Nat) :
    ∀ s : State, ∃ u, l.foldl f s = { s with tmrs := u } := by
  induction l with
  | nil => intro s; exact ⟨_, rfl⟩
  | cons a l ih => intro s; obtain ⟨u, hu⟩ := hf s a; obtain ⟨v, hv⟩ := ih (f s a); exact ⟨v, by rw [List.foldl_cons, hv, hu]⟩

theorem State.startGroup_frame (s : State) (n : Nat) : ∃ u, s.startGroup n = { s with tmrs := u } := by
  apply foldl_tmrs; intro s x; split
  · exact ⟨_, rfl⟩
  · exact ⟨s.tmrs, rfl⟩

theorem State.resetTmr_frame (s : State) (n : Nat) : ∃ u, s.resetTmr n = { s with tmrs := u } := by
  apply foldl_tmrs; intro s x; exact ⟨_, rfl⟩

/-! ### SAFE -/

/-- Whatever a command did, once settled no cause waits outside DOZE (R464, R467). -/
theorem State.settled_settle (s : State) : s.settle.Settled := by
  intro h1 h2
  unfold State.settle at *
  split
  · unfold State.enterSafe; split <;> rfl
  · rename_i h; simp [h] at h1 h2; simpa [h1, h2] using h

end Sys2Proof.Machine
end

