-- ==== Sys2Proof/WellFormed.lean ====
section
/-! DEFINITION. Which commands a sender can form: operands that the types admit but the spec gives no sense are ill formed.
Nothing in the machine rests on it; the tests name one ill-formed term for each check. -/

namespace Sys2Proof

/-- Configuration writes: payload and read-request sizes are PCIe codes 0 to 5 (R249). -/
def CfgWrite.wellFormed : CfgWrite → Bool
  | .deviceControl mps mrrs => decide (mps.val ≤ 5 ∧ mrrs.val ≤ 5)
  | _ => true

/-- A frame's payload is at most 72 bytes, a multiple of 4 (Table 12.2), and has no bits beyond LEN (R326). -/
def Machine.Frame.wellFormed (f : Machine.Frame) : Bool :=
  decide (f.len.toNat ≤ 72) && decide (f.len.toNat % 4 = 0) && decide (f.pay.toNat < 2 ^ (8 * f.len.toNat))

/-- Keys of the device objects (Table 16.5); host crumbs are kinds 0x80 to 0xFE with KEY 0 (R314). -/
def crumbKeyOk (kind key : Nat) : Bool :=
  match kind with
  | 1 => decide (key < 64)
  | 2 => decide (key < 4)
  | 3 => decide (key < 96)
  | 4 => decide (key < 96)
  | 5 => decide (key = 0)
  | k => decide (0x80 ≤ k ∧ k ≤ 0xFE ∧ key = 0)

/-- The command is well formed. -/
def Instr.wellFormed : Instr → Bool
  | .comparatorTransition .. => true
  | .edgeQualified .. => true
  | .vrArm .. => true
  | .peakDecay .. => true
  | .dirMaxExceeded .. => true
  | .domainSlot .. => true
  | .missedTooth .. => true
  | .stall .. => true
  | .camSpanDecision .. => true
  | .solverSlot .. => true
  | .frameStart => true
  | .startFire .. => true
  | .endEdge .. => true
  | .laneSlot _ _ above bel => !(above && bel)
  | .phaseTimeExit .. => true
  | .phaseTminEnd .. => true
  | .phaseTmaxTimeout .. => true
  | .regulationCrossing .. => true
  | .exitCrossing .. => true
  | .turnOffTimeout .. => true
  | .overCurrentTrip .. => true
  | .ocBlankEnd .. => true
  | .bootstrapUndervoltage .. => true
  | .desatFault .. => true
  | .openLoadCheck .. => true
  | .idleFault .. => true
  | .openWatchEnd .. => true
  | .closeWatchTimeout .. => true
  | .softShutdownEnd .. => true
  | .coilTailEnd .. => true
  | .laneSettled .. => true
  | .boostSlot .. => true
  | .switchingPeriodStart .. => true
  | .ipkCrossing .. => true
  | .startQuietEnd .. => true
  | .startTimeout .. => true
  | .holdSwitchTimeout => true
  | .subwindowChange .. => true
  | .trayTempSample .. => true
  | .doorbellPoll => true
  | .pollData .. => true
  | .hostLost => true
  | .pcieReset .. => true
  | .configSpaceWrite w => w.write.wellFormed
  | .descriptorFetch .. => true
  | .completionWrite .. => true
  | .recordWrite .. => true
  | .abortDecision .. => true
  | .cancelDecision .. => true
  | .nop .. => true
  | .resync .. => true
  | .fence .. => true
  | .abort .. => true
  | .regWrite .. => true
  | .regRead .. => true
  | .loadTable .. => true
  | .readTable .. => true
  | .armEvent .. => true
  | .armBatch .. => true
  | .cancelEvent .. => true
  | .forceOn .. => true
  | .forceOff .. => true
  | .syncReset .. => true
  | .setCycle .. => true
  | .readAngle .. => true
  | .actRead .. => true
  | .actReenable .. => true
  | .actUnfreeze .. => true
  | .bstSetpoint .. => true
  | .bstEnable .. => true
  | .timerStart .. => true
  | .timerStopArm .. => true
  | .timerCapture .. => true
  | .globalStart .. => true
  | .globalStartAtTime .. => true
  | .pzInject .. => true
  | .pzPush .. => true
  | .pzPull .. => true
  | .pzControl .. => true
  | .jrnFlush .. => true
  | .jrnRead .. => true
  | .jrnWrite .. => true
  | .jrnCompact .. => true
  | .krEnumerate .. => true
  | .krStatus .. => true
  | .krRejoin .. => true
  | .rsStatus .. => true
  | .logClose .. => true
  | .fifoStatus .. => true
  | .vendorTest .. => true
  | .enumA f => f.wellFormed
  | .enumB f => f.wellFormed
  | .probe f => f.wellFormed
  | .echo f _ => f.wellFormed
  | .timeSync f => f.wellFormed
  | .angleState f => f.wellFormed
  | .hb f => f.wellFormed
  | .cmd f => f.wellFormed
  | .cpl f => f.wellFormed
  | .ecpl f => f.wellFormed
  | .ack f => f.wellFormed
  | .nack f => f.wellFormed
  | .abortFwd f => f.wellFormed
  | .dmaRd f => f.wellFormed
  | .dmaData f => f.wellFormed
  | .dmaWr f => f.wellFormed
  | .record f => f.wellFormed
  | .irqNote f => f.wellFormed
  | .breakFrame f => f.wellFormed
  | .rejoin f => f.wellFormed
  | .markSend => true
  | .markCapture .. => true
  | .markLoss => true
  | .followKb => true
  | .timeStep => true
  | .probeSend => true
  | .ringTimeout .. => true
  | .enumTimeout => true
  | .forwardRetry .. => true
  | .irqNoteRetry .. => true
  | .hbSend => true
  | .slaveHostLost => true
  | .angleRefresh .. => true
  | .angleSourceLost .. => true
  | .portLost .. => true
  | .portRepaired => true
  | .loopbackOpen => true
  | .wakeForward => true
  | .jmp .. => true
  | .wait .. => true
  | .in_ .. => true
  | .out .. => true
  | .push .. => true
  | .pull .. => true
  | .mov .. => true
  | .set .. => true
  | .flag .. => true
  | .xfer .. => true
  | .pause .. => true
  | .timerIncrement .. => true
  | .timerTrigger .. => true
  | .hostTargetArbitration .. => true
  | .monitorTargetArbitration => true
  | .watchWake .. => true
  | .crumbDue kind key => crumbKeyOk kind key
  | .crumbWordWritten .. => true
  | .sectorEraseDone => true
  | .scrubVisit .. => true
  | .fuseKey .. => true
  | .burnMap => true
  | .seal => true
  | .fuseOpDone n bad => decide (bad.toNat < 2 ^ n.val)
  | .shadowWrite .. => true
  | .vsupDipBegin .. => true
  | .vsupDipEnd .. => true
  | .brownout => true
  | .brownoutReset .. => true
  | .resetRelease => true
  | .railUndervoltage .. => true
  | .railFailure .. => true
  | .powerOnReset => true
  | .softReset .. => true
  | .trstReset => true
  | .pllUnlock => true
  | .pllRelock => true
  | .shellTempSample .. => true
  | .requestRun => true
  | .requestDoze => true
  | .requestWatch => true
  | .dozeExitDone => true
  | .watchEntryDone => true
  | .startupStep .. => true
  | .safeNLow .. => true
  | .hostReq => true
  | .safeExitRequest => true
  | .monitorTransaction .. => true
  | .watchdogWindowExpiry => true
  | .registerWrite .. => true
  | .whlLastTsLoRead .. => true
  | .idUidLoRead => true
  | .whlCfgWrite .. => true
  | .adomCfgWrite .. => true
  | .take .. => true
  | .schedPeekWrite .. => true
  | .actCfgWrite .. => true
  | .bankCfgWrite .. => true
  | .laneCfgWrite .. => true
  | .feedbackUnfreeze .. => true
  | .actuatorReenable .. => true
  | .boostSetpointWrite .. => true
  | .bstHoldWrite .. => true
  | .dbPollWrite .. => true
  | .hlLiveWrite .. => true
  | .qpCfgWrite .. => true
  | .rsCfgWrite .. => true
  | .ieTgtWrite .. => true
  | .intRnpopRead => true
  | .intRcplWrite .. => true
  | .tmrStart .. => true
  | .tmrStop .. => true
  | .tmrArm .. => true
  | .tmrCmpWrite .. => true
  | .pzgStart .. => true
  | .pzgStop .. => true
  | .pzgReset .. => true
  | .programWindowWrite .. => true
  | .pzFlagSet .. => true
  | .pzFlagClr .. => true
  | .send => true
  | .comparatorReturn .. => true
  | .chopTminExpiry .. => true
  | .switchingDutyLimit .. => true
  | .linkUp speed width => decide (1 ≤ speed.val ∧ speed.val ≤ 3 ∧ 1 ≤ width.val ∧ width.val ≤ 2)
  | .portDecodeLock .. => true
  | .dmaReadCompletion .. => true
  | .completionTimeout .. => true
  | .engineIdleCycle .. => true
  | .wakeMotionEdge .. => true
  | .msixTableWrite .. => true

end Sys2Proof
end

