-- ==== Sys2Proof/Tests/Slice0.lean ====
section
/-! SUPPORT. Tests: an ill-formed term for each check of WellFormed; words and values written out from the spec's tables; single
steps; and for the statements of Certificates/Slice0 a state that meets the hypotheses of each of their clauses. -/

namespace Sys2Proof.Tests

-- One theorem after the other: each waits for the kernel, and many at once need many threads.
set_option Elab.async false

open Sys2Proof Sys2Proof.Machine

/-! ### Helpers -/

/-- READY, the PLL locked, every queue pair a full one. -/
def up : State := ({ State.reset with boot := 7 }.setReg rPM_FULLQP 0xFFFFFFFF).setRb rCLK_STAT 29 true

/-- A command in entry 0 of the buffer. -/
def cmd (op : Nat) (ops : BitVec 192 := 0) : Cmd :=
  { ord := 0, ent := 0, qp := 0, seq := 0, tag := 0, opcode := op, flags := 1, target := 0, ops := ops }

/-- `up` with commands in the buffer. -/
def has (c : Cmd) : State := { up with cmds := [c] }

/-- A ring frame with the CRC of its bytes. -/
def frame (typ : Nat) (dst src tage len : Nat) (pay : Nat) (kb : Bool := false) : Frame :=
  let b := frameBytes typ false dst src tage len pay
  { kb := kb, err := false, cut := false, dir := false, dst := Fin.ofNat 4096 dst, src := Fin.ofNat 4096 src, tage := BitVec.ofNat 8 tage,
    len := BitVec.ofNat 8 len, pay := BitVec.ofNat 576 pay,
    crc := BitVec.ofNat 16 ((b.getD (8 + len) 0).toNat * 256 + (b.getD (9 + len) 0).toNat) }

/-- The premises of the statements, as Booleans. -/
def beginsB (s : State) (op e : Nat) (c : Cmd) : Bool :=
  decide (s.live = true ∧ s.cmdAt e = some c ∧ c.opcode = op ∧ c.started = none ∧ c.target = 0 ∧ s.startable c = true ∧ s.refusal c = none)
theorem begins_iff (s : State) (op e : Nat) (c : Cmd) : beginsB s op e c = true ↔ s.begins op e c := by simp [beginsB, State.begins]

def runsB (s : State) (op e : Nat) (c : Cmd) : Bool :=
  decide (s.live = true ∧ s.cmdAt e = some c ∧ c.opcode = op) && (c.started.any (· != s.time)) && decide (c.target = 0 ∧ c.replies = [])
theorem runs_iff (s : State) (op e : Nat) (c : Cmd) : runsB s op e c = true ↔ s.runsOn op e c := by
  cases h : c.started <;> simp [runsB, State.runsOn, h, and_assoc]

def takesB (s : State) (typ : Nat) (f : Frame) : Bool :=
  s.live && s.portsOn && !s.portLost f.kb && !f.bad typ && !(s.epochSeen f).ownFrame f && (s.epochSeen f).forMe f
theorem takes_iff (s : State) (typ : Nat) (f : Frame) : takesB s typ f = true ↔ s.takes (s.epochSeen f) typ f := by
  simp [takesB, State.takes, and_assoc]

def hearsB (s : State) (typ : Nat) (f : Frame) : Bool :=
  s.live && s.portsOn && !s.portLost f.kb && !f.bad typ && !(s.epochSeen f).ownFrame f && !(s.epochSeen f).forMe f && decide (f.dst.val = 4095)
theorem hears_iff (s : State) (typ : Nat) (f : Frame) : hearsB s typ f = true ↔ s.hears ((s.epochSeen f).passFrame typ f) typ f := by
  simp [hearsB, State.hears, and_assoc]

def meetsB (s : State) (typ : Nat) (f : Frame) : Bool := s.live && s.portsOn && !s.portLost f.kb && !f.bad typ
theorem meets_iff (s : State) (typ : Nat) (f : Frame) : meetsB s typ f = true ↔ s.meets typ f := by simp [meetsB, State.meets, and_assoc]

def executesB (s : State) (p : Nat) (i : PzOp) (t : Fin 4) : Bool :=
  s.live && s.pzDue p && ((s.pz p).inj.isSome || decide ((s.pz p).idle = 0)) && decide (s.pzFetch p = some (i, t))
theorem executes_iff (s : State) (p : Nat) (i : PzOp) (t : Fin 4) : executesB s p i t = true ↔ s.executes (s.pzRead p) p i t := by
  simp [executesB, State.executes, and_assoc]

/-- The opcode with these operands may start from `up`; it runs there, having started before, as changed by `f`. -/
def mayBegin (op : Nat) (ops : BitVec 192 := 0) : Bool := beginsB (has (cmd op ops)) op 0 (cmd op ops)

/-- A command that started in an earlier core cycle, in a later phase. -/
def begun (op : Nat) (ops : BitVec 192 := 0) (phase : Nat := 0) : Cmd := { cmd op ops with started := some 1, phase := phase }
def mayRun (op : Nat) (ops : BitVec 192 := 0) (phase : Nat := 0) : Bool := runsB (has (begun op ops phase)) op 0 (begun op ops phase)

/-! ### WellFormed refuses -/

theorem test_ill_above_and_below : (Instr.laneSlot 0 0 true true).wellFormed = false := by decide +kernel
theorem test_ill_payload_code : (Instr.configSpaceWrite ⟨.deviceControl 6 0, 0⟩).wellFormed = false := by decide +kernel
theorem test_ill_read_request_code : (Instr.configSpaceWrite ⟨.deviceControl 0 6, 0⟩).wellFormed = false := by decide +kernel
theorem test_ill_frame_len : (Instr.hb (frame 7 0 0 0 76 0)).wellFormed = false := by decide +kernel
theorem test_ill_frame_len_mod : (Instr.hb (frame 7 0 0 0 6 0)).wellFormed = false := by decide +kernel
theorem test_ill_frame_pay : (Instr.hb (frame 7 0 0 0 4 0x100000000)).wellFormed = false := by decide +kernel
theorem test_ill_crumb_key : (Instr.crumbDue 1 64).wellFormed = false := by decide +kernel
theorem test_ill_crumb_kind : (Instr.crumbDue 6 0).wellFormed = false := by decide +kernel
theorem test_ill_host_crumb_key : (Instr.crumbDue 0x80 1).wellFormed = false := by decide +kernel
theorem test_ill_fuse_bits : (Instr.fuseOpDone 1 2).wellFormed = false := by decide +kernel
theorem test_ill_link_speed : (Instr.linkUp 0 1).wellFormed = false := by decide +kernel
theorem test_ill_link_width : (Instr.linkUp 1 3).wellFormed = false := by decide +kernel

/-! ### Decoding: the table gives no bits (log entry 18) -/

theorem test_no_row_has_bits : decodeTableWord 0 0 = none ∧ decodeTableWord 32 0xFFFFFFFF = none := by decide +kernel
theorem test_fetch_word_places_nothing : State.reset.withFetchWord 8 0x55 = State.reset := by decide +kernel

/-! ### The block as a whole -/

theorem witness_StepRunsFrontCommand : ({ up with pending := [.take 0] } : State).pending = Instr.take 0 :: [] := by decide +kernel

theorem witness_IdleStepIsOneCoreCycle : up.pending = [] ∧ up.watch = false ∧ up.held = false ∧ 2 ≤ up.boot ∧ 7 ≤ up.boot ∧
    State.reset.boot < 2 ∧ ({ up with boot := 2 } : State).boot < 7 ∧ ({ up with watch := true } : State).watch = true := by decide +kernel

theorem witness_EveryCommandAnswersANextState : ∀ e, Instr.frameStart ≠ .vendorTest e := by intro e h; cases h

theorem witness_NothingElseActsWhileTheDomainIsDown : State.reset.live = false ∧
    Instr.frameStart ∉ [.powerOnReset, .trstReset, .brownout, .resetRelease, .pllUnlock, .pllRelock] := by decide +kernel

theorem witness_EveryStepLeavesNoSafeCauseWaiting : State.reset.Settled ∧ State.reset.pending = [] ∧
    (State.reset.boot < 2) := by unfold State.Settled; decide +kernel

theorem witness_SafeIsEnteredActedOnAndLeft : up.inSafe = false ∧ up.live = true ∧ up.run = 0 ∧ up.safePend = false ∧ up.pwr.safeNLow = false ∧
    up.watch = false ∧ up.held = false ∧ ({ up with pwr := { up.pwr with exitReq := true } } : State).pwr.exitReq = true ∧ up.exitJudge ≠ 0 ∧
    (let s := ({ up with run := 2 } : State).setRb rSAFE_STAT 30 true
     s.inSafe = true ∧ s.pwr.safeNLow = false ∧ s.safeActive = 0 ∧ s.rf rSAFE_CAUSE 9 0 = 0 ∧ s.rb rSAFE_STAT 30 = true ∧ s.monAuth ≠ 3) := by
  decide +kernel

/-! ### Wheels and domains -/

/-- WHL[0] in Hall mode, role 1 of ADOM[0], and a wheel-fed domain 0 with a two-entry table. -/
def whl : State := ((up.setReg (rWHL_CFG 0) 0x80600000).setReg (rADOM_CFG 0) 0x80000000)
def edge : WEdge := { inp := 0, role := 1, ts := 0, pres := 0, dir := 0 }

theorem witness_WheelPulsesAreFilteredAndDelivered :
    (whl.quiet ∧ whl.whlEn 0 = true ∧ (whl.wheel 0).raw = false ∧ (whl.whlHall 0 = true ∨ (whl.wheel 0).armed = true) ∧ (whl.wheel 0).trail = none) ∧
    (let s := whl.setWheel 0 { raw := true, hold := some (0, 8) }
     s.quiet ∧ s.whlEn 0 = true ∧ (s.wheel 0).raw = true ∧ (s.wheel 0).hold = some (0, 8) ∧ s.time + (3 : Fin 4) < 0 + 8) ∧
    (let s := { whl.setWheel 0 { raw := true, hold := some (0, 8) } with time := 5 }
     s.quiet ∧ s.whlEn 0 = true ∧ s.whlHall 0 = true ∧ s.whlDirdec 0 = false ∧ (s.wheel 0).hold = some (0, 8) ∧ 0 + 8 < s.time + 4) := by
  decide +kernel

theorem witness_VrArmingDecayAndOverlongPulses :
    (let s := up.setReg (rWHL_CFG 0) 0x80400000
     s.quiet ∧ s.whlEn 0 = true ∧ s.whlHall 0 = false ∧ (s.wheel 0).armed = false) ∧
    (let s := { (up.setReg (rWHL_CFG 0) 0x80400000).setWheel 0 { lastQual := some 0, quals := 2, interval := 100 } with time := 197 }
     s.quiet ∧ (s.wheel 0).lastQual = some 0 ∧ (s.wheel 0).quals = 2 ∧ 0 < (s.wheel 0).interval ∧
       0 + ((s.wheel 0).halvings + 1) * min (2 * (s.wheel 0).interval) 1000000000 < s.time + 4) ∧
    (let s := { (whl.setReg (rWHL_DIR 0) 0x00000001).setWheel 0 { pulse := some (0, 8) } with time := 261 }
     s.quiet ∧ s.whlEn 0 = true ∧ (s.wheel 0).pulse = some (0, 8) ∧ (s.wheel 0).trail = none ∧ 0 + 8 + s.rf (rWHL_DIR 0) 9 0 * 256 < s.time + 4) := by
  decide +kernel

theorem witness_WheelAndDomainRegisters :
    (whl.quiet ∧ whl.whlEn 0 = true ∧ bit (0x80600000 : Word) 31 = true ∧
      (0x80600000 &&& 0x07F80000 : Word) = (whl.reg (rWHL_CFG 0) &&& 0x07F80000) ∧
      (0x80400000 &&& 0x07F80000 : Word) ≠ (whl.reg (rWHL_CFG 0) &&& 0x07F80000)) ∧
    (up.whlEn 0 = false ∧ bit (0x80080000 : Word) 31 = true ∧ bit (0x80080000 : Word) 19 = true ∧ bit (0x80080000 : Word) 21 = false ∧
      bit (0x00600000 : Word) 31 = false) ∧
    (whl.rb (rADOM_CFG 0) 31 = true ∧ bit (0 : Word) 31 = false ∧ bit (0 : Word) 29 = whl.rb (rADOM_CFG 0) 29 ∧
      bit (0xA0000000 : Word) 31 = true ∧ bit (0xA0000000 : Word) 29 = !whl.rb (rADOM_CFG 0) 29) := by decide +kernel

theorem witness_DomainSlotTakesEdgesAndCamSpans :
    (up.live = true ∧ up.time % 16 ≠ 4 * (1 : Fin 4).val) ∧
    (let s := whl.setDom 0 { inbox := [edge], tableValid := true, tableLen := 60 }
     s.live = true ∧ s.time % 16 = 4 * (0 : Fin 4).val ∧ s.domRing 0 = false ∧ s.domEn 0 = true ∧ (s.dom 0).take = false ∧ (s.dom 0).lrnPend = [] ∧
       (s.dom 0).row1 = none ∧ (s.dom 0).inbox = [edge] ∧ edge.pres ≤ s.time ∧ edge.role = 1 ∧ edge.dir < 2 ∧
       ((s.setDom 0 { s.dom 0 with inbox := [] }).dom 0).cur.st = 0 ∧ ((s.setDom 0 { s.dom 0 with inbox := [] }).dom 0).tableValid = true) ∧
    2 ≤ ({ edge with dir := 2 } : WEdge).dir ∧
    (let y : Span := { entry := 0, start := 0, fin := 0, due := 0, wraps := false }
     let s := (whl.setReg (rWHL_CFG 1) 0x80A00000).setDom 0 { cur := { st := 2 }, spans := [y] }
     s.live = true ∧ s.time % 16 = 4 * (0 : Fin 4).val ∧ s.domEn 0 = true ∧ s.domRing 0 = false ∧ (s.dom 0).cur.st = 2 ∧ (s.dom 0).spans = [y] ∧
       y.due ≤ s.time ∧ s.camInputs 0 ≠ [] ∧ (s.dom 0).hyp0 = true ∧ (s.dom 0).hyp1 = true) := by decide +kernel

/-- A crank-synchronized domain with teeth at every 180 degrees, the last at 1 ms, turning at 128 au per microsecond. -/
def runs : State :=
  { whl.setDom 0 { cur := { st := 2, hasAngle := true, tk := 1000000, om := 2 ^ 27 }, tableValid := true, tableLen := 4, lastAcc := some 1000000 } with
    teeth := [(1, 184320), (2, 368640), (3, 552960)], time := 10000000 }

theorem witness_MissedTeethAndStalls :
    (runs.live = true ∧ runs.time % 16 = 4 * (0 : Fin 4).val ∧ runs.domEn 0 = true ∧ runs.domRing 0 = false ∧
      ((runs.dom 0).cur.st = 2 ∨ (runs.dom 0).cur.st = 3) ∧ runs.missAt 0 = some 3520000 ∧ 3520000 + runs.crankFilt 0 ≤ runs.time ∧ runs.stallAt 0 = some 1001000000 ∧
      3520000 < 1001000000 ∧ runs.edgeBefore 0 3520000 = false) ∧
    (let s := { runs.setDom 0 { runs.dom 0 with cur := { st := 1 } } with time := 1001000000 }
     s.live = true ∧ s.time % 16 = 4 * (0 : Fin 4).val ∧ s.domEn 0 = true ∧ s.domRing 0 = false ∧ s.stallAt 0 = some 1001000000 ∧
       1001000000 + s.crankFilt 0 ≤ s.time ∧ s.missAt 0 = none ∧ s.edgeBefore 0 1001000000 = false ∧ (s.dom 0).cur.st = 1) := by decide +kernel

theorem witness_DomainTransitionPublishesNextTick : (up.dom 0).cur.st ≠ 1 ∧ (up.dom 0).validAt ≠ 0 + 16 := by decide +kernel

/-! ### Event scheduling -/

/-- ACT[0] is bound with LANE[0] as its LS lane; event slot 0 of it is as given. -/
def sched (x : Slot) : State :=
  (((up.setReg (rACT_LANES 0) 0xFFFFFF00).setReg (rPM_ACT 0) 0x30000000).setAct 0 { bound := true }).setSlot 0 0 x

theorem witness_SolverSlotComputesAndPeeks :
    (up.live = true ∧ up.time % 64 ≠ 4 * ((1 : Fin 96).val % 16)) ∧
    (let s := (sched { st := 1, cyc := 1, endAngle := 1000, dur := 1000 }).setDom 0 { cur := { st := 3, hasAngle := true, om := 2 ^ 27, fence := 10000000 } }
     s.live = true ∧ s.time % 64 = 4 * ((0 : Fin 96).val % 16) ∧ s.inRun = true ∧ (s.act 0).shot = none ∧ (s.act 0).peek = false ∧
       (∀ j, j < 8 → j ≠ 0 → (s.slot 0 j).st = 0) ∧ (s.slot 0 0).st = 1 ∧ (s.slot 0 0).locked = none ∧ (s.slot 0 0).fire = none ∧
       permits (s.pubOf (s.slot 0 0)).st (s.coOk 0) = true ∧ (s.compute 0 (s.slot 0 0)).passed = false ∧
       ((s.compute 0 (s.slot 0 0)).inForce = true → ((frameOf s.time + 64 : Nat) : Int) ≤ (s.compute 0 (s.slot 0 0)).tS)) ∧
    up.quiet ∧ fld (0x5F00 : Word) 14 8 ≤ 95 ∧ ¬ fld (0x6000 : Word) 14 8 ≤ 95 := by decide +kernel

theorem witness_StartsAndEndsAreCarriedOut :
    (let s := sched { st := 1, fire := some 3, flagOnly := true }
     s.live = true ∧ (s.slot 0 (0 : Fin 8)).fire = some 3 ∧ 3 < s.time + 4 ∧ (s.slot 0 0).flagOnly = true) ∧
    (let s := sched { st := 1, fire := some 3 }
     (s.slot 0 0).flagOnly = false ∧ (s.act 0).shot = none ∧
       ((s.setAct 0 { shot := some { st := 1 } }).act 0).shot = some { st := 1 }) ∧
    (let s := sched { st := 4, flagOnly := true, endLock := some 3 }
     3 < s.time + 4 ∧ (s.slot 0 (0 : Fin 9)).endLock = some 3 ∧ (s.slot 0 0).st = 4 ∧ (s.slot 0 0).flagOnly = true ∧ (s.slot 0 0).cancelEnd = none) ∧
    (let s := (sched { st := 4, fixed := some 3 }).setAct 0 { bound := true, shot := some { endLock := some 3 } }
     s.live = true ∧ (s.act 0).shot = some { endLock := some 3 } ∧ s.runningSlots 0 = [0] ∧ (s.slot 0 0).safeOwn = false ∧
       (s.slot 0 0).dmaxCutNow = false) := by decide +kernel

theorem witness_ArmCommandsFinish :
    (mayRun 0x20 = true ∧ (has (begun 0x20)).time % 64 = 4 * ((begun 0x20).byte 8 % 16) ∧ (begun 0x20).byte 8 ≤ 95 ∧
      (let s := ({ has (begun 0x20) with regs := [] } : State).setAct 0 { bound := true }
       runsB s 0x20 0 (begun 0x20) = true ∧ s.inSafe = false ∧ (s.act 0).bound = true ∧ s.owns 0 0 = false) ∧
      runsB { has (begun 0x20) with run := 2 } 0x20 0 (begun 0x20) = true) ∧
    beginsB { has (cmd 0x21) with run := 2 } 0x21 0 (cmd 0x21) = true ∧
    (mayBegin 0x21 (16 <<< 64) = true ∧ (cmd 0x21 (16 <<< 64)).opnd 8 15 % 32 = 0 ∧ (cmd 0x21 (16 <<< 64)).byte 16 = 16 ∧
      (cmd 0x21 (16 <<< 64)).opnd 17 31 = 0) ∧
    (let c := { begun 0x21 (1 <<< 64) 1 with dataLen := 32, need := 32 }
     let s := { has c with time := 64 }
     runsB s 0x21 0 c = true ∧ c.failed = false ∧ c.ready = true ∧ s.time % 64 = 0 ∧ c.sentAt < s.time ∧ s.inSafe = false ∧
       (s.batchArm c.armer c.data (c.byte 16)).bad.isSome = true) := by decide +kernel

theorem witness_CancelAndForceCommandsFinish :
    (mayRun 0x22 = true ∧ (has (begun 0x22)).time % 64 = 4 * ((begun 0x22).byte 8 % 16)) ∧
    (let s := { has (begun 0x22 0 1) with time := 64 }
     runsB s 0x22 0 (begun 0x22 0 1) = true ∧ s.time % 64 = 0 ∧ (begun 0x22 0 1).sentAt < s.time ∧ ∀ k, k < 8 → s.cancelMatch (begun 0x22 0 1) k = false) ∧
    (let s := { sched { st := 3 } with cmds := [begun 0x22 0 1] }
     runsB s 0x22 0 (begun 0x22 0 1) = true ∧ s.cancelMatch (begun 0x22 0 1) 0 = true ∧ (s.slot 0 0).st ≤ 3) ∧
    (let s := { has (begun 0x23) with run := 2 }
     s.time % 64 = 0 ∧ runsB s 0x23 0 (begun 0x23) = true ∧ (s.forceCheck 0 0 0).2.1 = 0x26) ∧
    (mayRun 0x24 = true ∧ (begun 0x24).byte 8 ≤ 95 ∧ (begun 0x24).byte 9 = 0 ∧ ((has (begun 0x24)).act 0).shot = none) ∧
    (let s := (has (begun 0x24)).setAct 0 { bound := true, shot := some { forced := true } }
     runsB s 0x24 0 (begun 0x24) = true ∧ (s.act 0).shot = some { forced := true } ∧ s.runningSlots 0 = []) := by decide +kernel

/-! ### Actuators and lanes -/

/-- ACT[0], an INJECTOR on LANE[0], runs a shot. -/
def shoots (h : Shot) : State := (sched {}).setAct 0 { bound := true, shot := some h }

theorem witness_PhasesMoveOn :
    (let s := { (shoots {}) with profs := [(0, BitVec.ofNat 128 (1 * 2 ^ 56))], time := 64 }
     s.live = true ∧ (s.act 0).shot = some {} ∧ s.lsSlot 0 = true ∧ s.walking 0 = true ∧ phExit (s.phaseOf 0 {}) = 1 ∧
       0 + 64 * phTmax (s.phaseOf 0 {}) ≤ s.time) ∧
    (let s := shoots { early := true }
     s.walking 0 = true ∧ s.lsSlot 0 = true ∧ 0 + 64 * phTmin (s.phaseOf 0 { early := true }) ≤ s.time) ∧
    (let s := shoots {}
     s.walking 0 = true ∧ s.lsSlot 0 = true ∧ phExit (s.phaseOf 0 {}) = 0 ∧ 0 + 64 * phTmax (s.phaseOf 0 {}) ≤ s.time) ∧
    (let s := shoots { endLock := some 4 }
     (s.act 0).shot = some { endLock := some 4 } ∧ (4 : Nat) ≤ s.time + 4) := by decide +kernel

/-- Phase 0 of profile 0 is a last, regulated one. -/
def regulates (h : Shot) : State := { shoots h with profs := [(0, BitVec.ofNat 128 (2 ^ 73 + 2 ^ 68))], time := 500 }

theorem witness_CrossingsAndTurnOffs :
    (let s := (regulates { regOn := true }).setReg (rACT_CFG 0) 0
     s.live = true ∧ (s.act 0).shot = some { regOn := true } ∧ s.cls 0 ≠ 4 ∧ phReg (s.phaseOf 0 { regOn := true }) ≠ 0 ∧
       phLast (s.phaseOf 0 { regOn := true }) = true ∧ 0 + 500 * s.rf (rACT_CFG 0) 18 16 ≤ s.time + (0 : Fin 4).val) ∧
    (let s := (regulates {}).setReg (rACT_CFG 0) 0x00070000
     s.cls 0 ≠ 4 ∧ phReg (s.phaseOf 0 {}) ≠ 0 ∧ s.time + (3 : Fin 4).val < 0 + 500 * s.rf (rACT_CFG 0) 18 16) ∧
    (let s := (regulates { regWant := some true }).setReg (rACT_CFG 0) 0x00010000
     (s.act 0).shot = some { regWant := some true } ∧ 0 + 500 * s.rf (rACT_CFG 0) 18 16 < s.time + 4) ∧
    ((shoots {}).walking 0 = true ∧ phExit ((shoots {}).phaseOf 0 {}) = 0) ∧
    (let s := { shoots { st := 1, off := 2 } with time := 8160000 }
     s.lsSlot 0 = true ∧ 0 + 32000 * max 1 (s.rf (rACT_CFG 0) 7 0) ≤ s.time) ∧
    (let s := { shoots { st := 1, off := 3 } with time := 5184000 }
     s.lsSlot 0 = true ∧ 0 + 4000 * s.rf (rACT_SAFE 0) 9 0 ≤ s.time) ∧
    (let s := { shoots { st := 1, off := 4 } with time := 8000000 }
     0 + 1000000 * (s.rf (rACT_SAFE 0) 29 27 + 1) < s.time + 4) := by decide +kernel

/-- LANE[0] is powered, low-side, and settled. -/
def lit (l : Lane) : State :=
  (({ up with pwr := { up.pwr with trays := 15 } }.setReg (rPM_LANE 0) 1).setReg (rLANE_CFG 0) 0x40000000).setLane 0 l

theorem witness_LanesSampleSettleAndFollowSupplies :
    (let x : Held := { t := 0, code := 5, drain := false, uns := false, ph := none, hs := false, hsv := false, ls := false }
     let s := (lit { rdy := true, held := some x }).setReg (rTRAY_PEEK 0) 1
     s.live = true ∧ s.time % 64 = 4 * ((0 : Fin 192).val % 16) ∧ s.inDoze = false ∧ s.gmode 0 = 1 ∧ (s.lane 0).rdy = true ∧
       (s.lane 0).held = some x ∧ x.drain = false ∧ (∀ a, a < 96 → s.lsLane a ≠ 0) ∧ s.rf (rTRAY_PEEK (0 / 48)) 5 0 ≠ 0 % 48) ∧
    (let s := (lit { rdy := true, gate := true }).setReg (rLANE_CFG 0) 0x80000000
     s.gmode 0 = 2 ∧ (s.lane 0).rdy = true ∧ (s.lane 0).bootUv = false ∧ (s.lane 0).gate = true ∧ s.namers 0 = []) ∧
    (let s := lit { settle := some 3 }
     (s.lane 0).settle = some 3 ∧ 3 < s.time + 4 ∧ s.lsActs 0 = []) ∧
    ((lit { settle := some 4 }).time + 4 ≤ 4) ∧
    (let s := { sched {} with time := 640000000 }
     s.time % 64 = 0 ∧ (s.act 0).bound = true ∧ (s.act 0).shot = none ∧ s.time / s.subLen 0 ≠ (s.act 0).subWin) ∧
    (let s := up.setReg (rTRAY_TEMP 0) 0x20000000
     s.inRun = true ∧ (10 : Fin 1024).val + 20 < s.rf (rTRAY_TEMP 0) 31 22 ∧ (10 : Fin 1024).val < 0x1AC ∧ s.rb (rTRAY_TEMP 0) 21 = false ∧
       s.rb (rTRAY_TEMP 0) 20 = false) := by decide +kernel

theorem witness_FaultsOfShotsAreFound :
    (let h : Shot := { sfb := 0x80000000 }
     let s := { ((shoots h).setReg (rSFB_SIG_A 0 0) 0x00010000) with time := 6400 }
     s.live = true ∧ s.lsSlot 0 = true ∧ (s.act 0).shot = some h ∧ s.opens 0 h = true ∧ 0 + 4000 * fld (s.sigA 0 h) 23 16 ≤ s.time) ∧
    (let h : Shot := { st := 2 }
     let s := { ((sched {}).setAct 0 { watch := some h }) with time := 64000000 }
     (s.act 0).watch = some h ∧ s.lsSlot 0 = true ∧ 0 + 1000 * fld (s.sigB 0 h) 23 14 ≤ s.time) ∧
    (let h : Shot := { lim := 0x00004000 }
     let s := shoots h
     (s.act 0).shot = some h ∧ s.lsSlot 0 = true ∧ h.olDone = false ∧ fld h.lim 23 14 ≠ 0 ∧ 0 + 8000 * fld h.lim 13 8 ≤ s.time) ∧
    (let h : Shot := { lim := 0x00000010, desatRun := 1 }
     (shoots h).lsSlot 0 = true ∧ ((shoots h).act 0).shot = some h ∧ fld h.lim 7 4 ≠ 0 ∧ fld h.lim 7 4 ≤ h.desatRun) ∧
    (let s := { ((sched {}).setAct 0 { idleOn := [some 0, none, none] }) with time := 16000000 }
     s.lsSlot 0 = true ∧ (s.act 0).idleOn = [some 0, none, none] ∧ bit (s.act 0).idleRep 0 = false ∧
       0 + 1000000 * (s.rf (rDIAG_LIM 0) 27 24 + 1) ≤ s.time ∧ s.rb (rDIAG_REACT 0) 15 = false) ∧
    (let s := lit { gate := true }
     s.blankOver 0 = true ∧ (s.lane 0).gate = true ∧ (s.lane 0).oc = false ∧ s.namers 0 = []) ∧ (up.lane 0).gate = false := by decide +kernel

theorem witness_ActuatorRegistersGuardTheirFields :
    (let s := (sched {}).setReg (rACT_CFG 0) 0x80000000
     s.quiet ∧ s.rb (rACT_CFG 0) 31 = true ∧ (0x80000001 &&& 0x0FFFFFFF : Word) ≠ (s.reg (rACT_CFG 0) &&& 0x0FFFFFFF)) ∧
    (up.rb (rACT_CFG 0) 31 = false ∧ bit (0x80000000 : Word) 31 = true ∧ (up.setReg (rACT_CFG 0) (0x80000000 &&& 0x8FFFFFFF)).bindErr 0 ≠ 0) ∧
    (sched {}).laneFixed 0 = true ∧ up.disabled 0 = false ∧
    (let s := (up.setRb (rDIAG_DIS 0) 0 true).setReg (rACT_LANES 0) 0xFFFFFF00
     s.disabled 0 = true ∧ s.reenRefused 0 = false ∧ (s.setRb (rTRAY_TEMP 0) 21 true).reenRefused 0 = true) := by decide +kernel

theorem witness_BoostSlotsRailsAndConverters :
    (up.live = true ∧ up.time % 64 = 0 ∧ up.inDoze = false ∧ ({ up with run := 1 } : State).inDoze = true) ∧
    (up.quietLow 0 = false ∧ up.startLate 0 = false ∧
      (let s := up.setRail 0 { st := 3 }
       s.quietLow 0 = false ∧ s.startLate 0 = false ∧ s.rb (rBST_CFG 0) 31 = false ∧ (s.rail 0).st ≠ 5 ∧ (s.rail 0).st ≠ 0) ∧
      (let s := (up.setRail 0 { st := 2, setAct := 100 }).setRb (rBST_CFG 0) 31 true
       s.inRun = true ∧ s.rb (rBST_CFG 0) 31 = true ∧ (s.rail 0).st = 2 ∧
         ({ s with dip := true }.setReg rBST_HOLD 0x7FF00000).isHoldRail 0 = false ∧ s.dip = false ∧ (s.rail 0).setAct < ({ s with vsup := 100 } : State).vsup + 30) ∧
      (let s := (up.setRail 0 { st := 1, setAct := 100, vb := 100 }).setRb (rBST_CFG 0) 31 true
       s.quietLow 0 = false ∧ s.startLate 0 = false ∧ (s.rail 0).st = 1 ∧ s.dip = false ∧ s.vsup + 30 ≤ (s.rail 0).setAct ∧
         (s.rail 0).setAct ≤ (s.rail 0).vb + s.bstHyst 0)) ∧
    ((up.setRail 0 { st := 2, enable := true }).rail 0).enable = true ∧
    (let s := { up.setRail 0 { st := 2, gate := true, period := some 0 } with time := 100 }
     (s.rail 0).period = some 0 ∧ (s.rail 0).gate = true ∧ 0 + 100 ≤ s.time + (0 : Fin 4).val ∧ ¬ 0 + 100 ≤ ({ s with time := 96 } : State).time + (3 : Fin 4).val ∧
       0 + 9 * (8000 / 2 ^ s.rf (rBST_CFG 0) 30 29) / 10 < ({ s with time := 7200 } : State).time + 4) := by decide +kernel

theorem witness_StartLimitsAndRailWords :
    (let s := { (up.setRail 0 { st := 1, vb := 49 }).setReg (rBST_CFG 0) 0x80010000 with time := 1000000, vsup := 100 }
     s.live = true ∧ s.time % 64 = 0 ∧ s.inRun = true ∧ s.rb (rBST_CFG 0) 31 = true ∧ (s.rail 0).st = 1 ∧ 0 + 1000000 ≤ s.time ∧
       (s.rail 0).quietDone = false ∧ (s.rail 0).vb + 50 < s.vsup ∧ ({ s with vsup := 99 } : State).vsup ≤ (s.rail 0).vb + 50 ∧
       0 + 1000000 * max 1 (s.rf (rBST_CFG 0) 23 16) ≤ s.time) ∧
    (let s := { up with holdAt := some 0, time := 64000000 }
     s.quiet ∧ s.holdAt = some 0 ∧ s.time % 64 = 0 ∧ 0 + 250000 * max 1 (s.rf rBST_HOLD 7 0) ≤ s.time ∧ 192 ≤ s.rf rBST_HOLD 27 20) ∧
    (up.holdAt = none ∧ fld (0x0FF00000 : Word) 27 20 = 0xFF) := by decide +kernel

/-! ### Host link, queues and commands -/

/-- The link is up, with Bus Master Enable and Memory Space Enable. -/
def linked : State := { up.setReg rHL_STAT 0x84000000 with link := { mse := true } }

theorem witness_PollsReadThePageAndWatchTheHost :
    (let s := linked.setReg rDB_POLL 0x80000000
     s.live = true ∧ s.master = true ∧ s.rb rDB_POLL 31 = true ∧ s.poll.busy = false ∧ s.dmaOk = true ∧ s.pollDue < s.time + 4 ∧
       ({ s with poll := { last := some 0, busy := true } } : State).poll.busy = true ∧ up.dmaOk = false ∧
       (∃ r ∈ ({ s with reads := [{ kind := 0, arg := 0, addr := 0, len := 0x1C0, tag := some 0 }] } : State).reads, r.kind = 0) ∧
       ∀ r ∈ ({ s with reads := [{ kind := 0, arg := 0, addr := 0, len := 0x1C0, tag := some 0 }] } : State).reads, r.kind = 0 → r.tag.isSome = true) ∧
    (let s := { up.setReg rHL_LIVE 0x80000001 with time := 100000 }
     s.rb rHL_LIVE 31 = true ∧ s.poll.ref + 100000 * s.liveTmo < s.time + 4 ∧ ({ s with time := 0 } : State).time + 4 ≤ s.poll.ref + 100000 * s.liveTmo ∧
       s.poll.hbSent + 25000 * s.liveTmo < s.time + 4) ∧
    (let s := { up with master := false, time := 100000, poll := { hbEn := true } }
     s.master = false ∧ s.poll.hbEn = true ∧ s.poll.ref + 100000 * max s.poll.hbTmo 1 < s.time + 4) := by decide +kernel

theorem witness_LinkEventsReadsAndHostRegisters :
    (linked.live = true ∧ linked.master = true ∧ linked.rb rHL_STAT 31 = true ∧ linked.link.mse = true ∧ (63 : Fin 1024).val < 64 ∧
      up.rb rHL_STAT 31 = false) ∧
    (let r : Rd := { kind := 2, arg := 0, addr := 0, len := 4, tag := some 15 }
     let s := { linked with reads := [r] }
     s.reads.find? (fun x => x.tag == some (15 : Fin 16).val) = some r ∧ 2 ≤ r.kind) ∧
    (let s := (up.setReg rDB_POLL 0x80000000).setReg rHL_LIVE 0x80000000
     s.rb rDB_POLL 31 = true ∧ bit (0 : Word) 31 = false ∧ s.rb rHL_LIVE 31 = true ∧ bit (0x80000000 : Word) 31 = true ∧
       up.rb rHL_LIVE 31 = false ∧ up.rb rDB_POLL 31 = false ∧ (s.setRb rPM_GLOBAL 17 true).hostLostAct = true) := by decide +kernel

/-- QP[0] and RS[0] are enabled with rings of 16. -/
def queue : State := (linked.setReg (rQP_CFG 0) 0x84040000).setReg (rRS_CFG 0) 0x84000000

theorem witness_FetchedDescriptorIsJudgedBySequence :
    let s := { queue with reads := [{ kind := 1, arg := 0, addr := 0, len := 32, tag := some 0 }] }
    let u := { s with reads := s.reads.filter (fun r => !(r.kind = 1 && r.arg = 0)) }.issueReads
    s.live = true ∧ (∃ r ∈ s.reads, r.kind = 1 ∧ r.arg = 0 ∧ r.tag.isSome = true) ∧ u.qpEn 0 = true ∧ (u.qp 0).stall = false ∧ (u.qp 0).oob = false ∧
      fld (0 : BitVec 256) 23 16 ≠ 1 ∧ fld (0 : BitVec 256) 15 0 = (u.qp 0).e ∧ fld (0 : BitVec 256) 23 16 ≠ 3 ∧ u.cmds.length < 64 ∧
      u.inFlight 0 < u.maxIf 0 ∧ ({ u with cmds := [cmd 0] } : State).maxIf 0 ≤ ({ u with cmds := [cmd 0] } : State).inFlight 0 ∧
      fld (1 : BitVec 256) 15 0 ≠ (u.qp 0).e ∧ (u.qp 0).retry < 2 ∧ 2 ≤ ((u.setQp 0 { retry := 2 }).qp 0).retry := by decide +kernel

def done : Cpl := { qp := 0, opcode := 0, status := 0 }
def shotHand : Hand := { rs := 0, prod := 1, at_ := 0, entries := [(1, 0, 0, 0, 0, 0)] }

theorem witness_CompletionsAndRecordsAreWritten :
    (let s := queue.setQp 0 { wait := [done] }
     s.live = true ∧ s.master = true ∧ s.dmaOk = true ∧ s.qpEn 0 = true ∧ (s.qp 0).wait = done :: [] ∧ s.cplHeld done = false ∧ s.cqRoom 0 = true ∧ (∀ x ∈ [done], s.cplFree 0 x = false) ∧
       (queue.setQp 0 { wait := [done], nextCseq := 16 }).cqRoom 0 = false) ∧
    (let s := { queue with hands := [shotHand] }
     s.firstHand 0 = some shotHand ∧ s.rsNoRoom 0 shotHand.entries.length = false ∧ s.dmaOk = true ∧ shotHand.prod = 1 ∧
       (s.setRs 0 { next := 16 }).rsNoRoom 0 shotHand.entries.length = true ∧ ({ shotHand with prod := 0 } : Hand).prod ≠ 1 ∧
       (s.setReg rHL_STAT 0).dmaOk = false) := by decide +kernel

def aborts : AbortRq := { seq := 1, tag := 1, flags := 0, ops := 0, ord := 1, at_ := 0 }

theorem witness_ResyncAndAbortAreDecided :
    (let s := queue.setQp 0 { resync := some (0, 0, 0, 0) }
     s.live = true ∧ (s.qp 0).resync = some (0, 0, 0, 0) ∧ fld (0 : BitVec 192) 63 0 = 0 ∧ fld (0 : BitVec 192) 191 65 = 0 ∧ (s.qp 0).drain = false ∧
       ((({ s with cmds := [cmd 0] } : State).setQp 0 { resync := some (0, 0, 0, 0), drain := true }).qp 0).drain = true ∧
       ({ s with cmds := [cmd 0] } : State).inFlight 0 ≠ 0) ∧
    (let s := { queue.setQp 0 { aborts := [aborts] } with time := 64 }
     (s.qp 0).aborts = aborts :: [] ∧ aborts.fwd = none ∧ fld aborts.ops 191 17 = 0 ∧ s.time % 64 = 0 ∧ aborts.at_ < s.time ∧ s.victim 0 aborts = none ∧
       ({ s with cmds := [cmd 0] } : State).victim 0 aborts = some (cmd 0) ∧ (cmd 0).past = false ∧ s.here (cmd 0) = true ∧ (begun 0).past = true ∧
       ({ s with cmds := [begun 0] } : State).victim 0 aborts = some (begun 0) ∧ fld (0x20000 : BitVec 192) 191 17 ≠ 0) := by decide +kernel

theorem witness_QueueAndStreamSetupIsGuarded :
    let m (v : Word) : Word := v &&& 0x9F1F7F00
    (bit (up.reg (rQP_CFG 0)) 31 = false ∧ bit (m 0) 31 = false ∧ bit (m 0x84100000) 31 = true ∧ 4 ≤ fld (m 0x84100000) 28 24 ∧
      fld (m 0x84100000) 20 16 ≤ 16 ∧ bit (m 0x83040000) 31 = true ∧ fld (m 0x83040000) 28 24 < 4 ∧ 16 < fld (m 0x84110000) 20 16) ∧
    (bit (queue.reg (rQP_CFG 0)) 31 = true ∧ m 0x84040000 = queue.reg (rQP_CFG 0) ∧ setBit (m 0x85040000) 31 true ≠ queue.reg (rQP_CFG 0) ∧
      bit (m 0x04040000) 31 = false ∧ setBit (m 0x04040000) 31 true = queue.reg (rQP_CFG 0) ∧ ({ queue with cmds := [cmd 0] } : State).inFlight 0 ≠ 0) ∧
    (bit (up.reg (rRS_CFG 0)) 31 = false ∧ bit (0x90000000 : Word) 31 = true ∧ fld (0x90000000 : Word) 28 24 ≤ 16 ∧ 16 < fld (0x91000000 : Word) 28 24) := by
  decide +kernel

theorem witness_TableCommands :
    (mayBegin 0x12 (0x50 <<< 96) = true ∧ tableOperands (cmd 0x12 (0x50 <<< 96)) false = some 8 ∧
      ((has (cmd 0x12)).start (cmd 0x12)).tableTurn ((has (cmd 0x12)).go (cmd 0x12)) = true ∧ (cmd 0x12).phase = 0) ∧
    (let c := cmd 0x12 (0x40 <<< 96)
     let s := (has c).setPz 0 { run := true }
     beginsB s 0x12 0 c = true ∧ tableOperands c false = none ∧ c.tCount = 0 ∧ c.tKind = 4 ∧ (s.start c).groupStopped c.tIdx = false) ∧
    (mayBegin 0x12 (1 <<< 80) = true ∧ tableOperands (cmd 0x12 (1 <<< 80)) false = none ∧ 0 < (cmd 0x12 (1 <<< 80)).tCount) ∧
    (mayBegin 0x13 (0x50 <<< 96) = true ∧ tableOperands (cmd 0x13 (0x50 <<< 96)) true = some 8) ∧
    (let s := { has (cmd 0x13) with regs := linked.regs }
     beginsB s 0x13 0 (cmd 0x13) = true ∧ tableOperands (cmd 0x13) true = none ∧ s.master = true ∧ s.dmaOk = true) ∧
    (mayRun 0x12 (0x40 <<< 96) 1 = true ∧ (has (begun 0x12 (0x40 <<< 96) 1)).tableTurn (begun 0x12 (0x40 <<< 96) 1) = true ∧
      (begun 0x12 (0x40 <<< 96) 1).ready = true ∧ (begun 0x12 (0x40 <<< 96) 1).tKind = 4 ∧
      (has (begun 0x12 (0x40 <<< 96) 1)).groupStopped 0 = true ∧ ((has (begun 0x12)).setDom 0 { cur := { st := 3 } }).domBusy 0 = true ∧
      runsB ((has { begun 0x12 0 1 with failed := true })) 0x12 0 { begun 0x12 0 1 with failed := true } = true) := by decide +kernel

theorem witness_RingControlCommandsFinishAndReport :
    mayBegin 0 = true ∧ mayBegin 2 = true ∧ (cmd 2).byte 8 = 0 ∧ (∀ x ∈ (has (cmd 2)).cmds, x.qp = (cmd 2).qp → x.ord < (cmd 2).ord → x.done = true) ∧
    (let c := cmd 0x61 (2 <<< 8)
     let s := has c
     s.live = true ∧ s.cmdAt 0 = some c ∧ c.opcode = 0x61 ∧ c.started = none ∧ c.target = 0 ∧ s.startable c = true ∧ s.refusal c = some 0x16) ∧
    (cmd 0).ring = none ∧ ({ up with sealed := true } : State).sealed = true ∧ up.master = true ∧ (cmd 0).flags % 2 = 1 ∧
    ({ cmd 0 with flags := 0 } : Cmd).flags % 2 = 0 := by decide +kernel

theorem witness_SetupAndDomainCommandsFinish :
    (let c := cmd 0x10 (0x404 + (0xFFFFFFFF <<< 32))
     mayBegin 0x10 c.ops = true ∧ ((has c).start c).trayWait (c.opnd 8 11) = false ∧ (((has c).start c).regWrite (c.opnd 8 11) 0xFFFFFFFF).live = true) ∧
    mayBegin 0x11 = true ∧ mayBegin 0x40 = true ∧ mayBegin 0x41 = true ∧
    (mayRun 0x40 0 1 = true ∧ mayRun 0x41 0 1 = true ∧ mayRun 0x42 0 1 = true ∧ (begun 0x42 0 1).opnd 16 23 = 0 ∧
      (has (begun 0x42 0 1)).time % 16 = 4 * (begun 0x42 0 1).byte 8) := by decide +kernel

theorem witness_ActuatorAndBoostCommandsFinish :
    (mayBegin 0x50 = true ∧ 192 ≤ (has (cmd 0x50)).lsLane 0) ∧
    (mayBegin 0x51 (2 ^ 95) = true ∧ ∀ a ∈ (cmd 0x51 (2 ^ 95)).mask, (has (cmd 0x51)).disabled a = false) ∧
    (mayBegin 0x52 = true ∧ (cmd 0x52).mask = []) ∧ (mayBegin 0x52 (2 ^ 95) = true ∧ (cmd 0x52 (2 ^ 95)).mask = [95]) ∧
    (beginsB { has (cmd 0x61 0x101) with run := 2 } 0x61 0 (cmd 0x61 0x101) = true ∧ (cmd 0x61 0x101).byte 9 % 2 = 1) ∧
    (mayBegin 0x61 0xFF = true ∧ (cmd 0x61 0xFF).byte 9 % 2 = 0) ∧ (mayBegin 0x60 0x3FF0107 = true ∧ (cmd 0x60 0x3FF0107).byte 9 ≤ 1) ∧
    (mayRun 0x60 0 1 = true ∧ (has (begun 0x60 0 1)).time % 64 = 0 ∧ (has (begun 0x60 0 1)).inDoze = false) := by decide +kernel

theorem witness_TimerAndStatusCommandsFinish :
    mayBegin 0x70 31 = true ∧ (mayBegin 0x71 31 = true ∧ (cmd 0x71 31).byte 9 = 0 ∧ mayBegin 0x71 0x11F = true ∧ (cmd 0x71 0x11F).byte 9 = 1) ∧
    (mayBegin 0x72 = true ∧ (cmd 0x72).byte 9 = 0) ∧ (mayBegin 0x73 15 = true ∧ (cmd 0x73 15).opnd 16 23 = 0) ∧
    (mayBegin 0x73 (4 <<< 64) = true ∧ (has (cmd 0x73)).time < (cmd 0x73 (4 <<< 64)).opnd 16 23) ∧
    (beginsB { has (cmd 0x73 (4 <<< 64)) with time := 8 } 0x73 0 (cmd 0x73 (4 <<< 64)) = true ∧ (cmd 0x73 (4 <<< 64)).opnd 16 23 ≠ 0 ∧
      (cmd 0x73 (4 <<< 64)).opnd 16 23 < 8) ∧
    (mayRun 0x73 0 1 = true ∧ (begun 0x73 0 1).opnd 16 23 ≤ 0) ∧ mayBegin 0xB0 7 = true ∧ mayBegin 0xB1 3 = true ∧ mayBegin 0xB2 = true ∧
    (let c := cmd 0xFF
     let s := { has c with sealed := true }
     s.live = true ∧ s.cmdAt 0 = some c ∧ 0xF0 ≤ c.opcode ∧ c.opcode ≤ 0xFF ∧ c.started = none ∧ c.target = 0 ∧ s.startable c = true ∧
       s.vendorLocked = true) := by decide +kernel

/-! ### The ring -/

/-- A master with its ports on; a slave of address 1 in LOCK. -/
def ringMaster : State := up.setReg rKR_CFG 0x80000000
def ringSlave : State :=
  (({ up with master := false, enumd := true, addr := 1 } : State).setReg rKR_HOP 0x00000300).setReg rKR_DLY_A 0x00001000

theorem witness_FramesAreDroppedRemovedOrPassed :
    up.portsOn = false ∧ ringMaster.portsOn = true ∧ ringMaster.portLost false = false ∧ (frame 0x11 0 1 0 16 0).bad 0x11 = false ∧
    ({ frame 0x11 0 1 0 16 0 with err := true } : Frame).bad 0x11 = true ∧ (frame 0x11 0 1 0 16 0).cut = false ∧
    ringMaster.ownFrame (frame 0x10 1 0 0 40 0) = true ∧ ringMaster.ownFrame (frame 0x11 2 1 0 16 0) = false ∧
    ringMaster.forMe (frame 0x11 2 1 0 16 0) = false ∧ (frame 0x11 2 1 0 16 0).dst.val ≠ 4095 := by decide +kernel

theorem witness_MasterTakesRingFrames :
    (let f := frame 0x11 0 1 0 16 0
     let c := { begun 0 with target := 1 }
     takesB ringMaster 0x11 f = true ∧ ringMaster.oldEpoch f = false ∧ f.get 23 16 ≠ 3 ∧
       ringMaster.cmds.find? (fun c => c.ent = f.tag && ringMaster.forwarded c) = none ∧
       ({ ringMaster with cmds := [c] } : State).cmds.find? (fun c => c.ent = f.tag && ringMaster.forwarded c) = some c) ∧
    (let f := frame 0x12 0 1 0 32 0
     let s := { ringMaster with regs := queue.regs }.setReg rKR_CFG 0x80000000
     takesB s 0x12 f = true ∧ s.oldEntry f = false ∧ f.get 84 80 = 0 ∧ s.qpEn 0 = true ∧ s.cqRoom 0 = true ∧ s.heldEntries < 16 ∧ ringMaster.qpEn 0 = false) ∧
    (let f := frame 0x20 0 1 0 36 0
     let s := { ringMaster with regs := queue.regs }.setReg rKR_CFG 0x80000000
     takesB s 0x20 f = true ∧ s.oldEntry f = false ∧ (f.len.toNat - 4) / 32 = 1 ∧ s.rsNoRoom (f.get 2 0) 1 = false ∧ s.heldEntries + 1 ≤ 16 ∧
       ringMaster.rsNoRoom 0 1 = true) ∧
    (takesB ringMaster 0x21 (frame 0x21 0 1 0 4 0) = true ∧ ringMaster.ring.notices.length < 16 ∧
      16 ≤ ({ ringMaster with ring := { ringMaster.ring with notices := List.replicate 16 (0, 0, 0) } } : State).ring.notices.length) ∧
    takesB ringMaster 0x18 (frame 0x18 0 1 0 12 0) = true ∧ takesB ringMaster 0x1A (frame 0x1A 0 1 0 12 0) = true ∧
    takesB ringMaster 0x30 (frame 0x30 0 1 0 4 0) = true := by decide +kernel

theorem witness_SlaveTakesRingFrames :
    (takesB ringSlave 0x10 (frame 0x10 1 0 0 40 0) = true ∧ ringSlave.master = false ∧ ringSlave.enumd = true ∧
      (frame 0x10 1 0 0 40 0).dst.val ≠ 4095) ∧ takesB ringSlave 0x15 (frame 0x15 1 0 0 4 0) = true ∧
    (takesB ringSlave 0x13 (frame 0x13 1 0 0 4 0x20) = true ∧ (frame 0x13 1 0 0 4 0x20).get 7 0 = 0x20 ∧ ringSlave.oldEpoch (frame 0x13 1 0 0 4 0x20) = false) ∧
    (takesB ringSlave 0x13 (frame 0x13 1 0 0 4 0x12) = true ∧ (frame 0x13 1 0 0 4 0x12).get 7 0 = 0x12) ∧
    (let s := ringSlave.setTgt 15 { await := some 3, sent := [(15, 3)] }
     takesB s 0x13 (frame 0x13 1 0 0 4 0xF21) = true ∧ (frame 0x13 1 0 0 4 0xF21).get 7 0 = 0x21 ∧
       s.noteOf ((frame 0x13 1 0 0 4 0xF21).get 13 8) = some 3) ∧
    (takesB ringSlave 0x14 (frame 0x14 1 0 0 4 0x12) = true ∧ (frame 0x14 1 0 0 4 0x12).get 7 0 = 0x12) ∧
    (let a : Acc := { ord := 0, write := false, addr := 0, len := 4, tag := some 5 }
     let s := { ringSlave with ring := { ringSlave.ring with accs := [a] } }
     let f := frame 0x19 1 0 5 4 0
     takesB s 0x19 f = true ∧ s.accOf f.tag false = some a ∧ ringSlave.accOf f.tag false = none) := by decide +kernel

theorem witness_SlaveTakesRingFrames_broadcast :
    hearsB ringSlave 7 (frame 7 4095 0 0 4 0) = true ∧ hearsB ringSlave 0x31 (frame 0x31 4095 0 0 8 0) = true ∧
    (let f := frame 5 4095 0 0 8 0
     let u := ringSlave.passOn 5 f
     hearsB ringSlave 5 f = true ∧ u.enumd = true ∧ u.tstate = 0 ∧
       ((u.ring.markL : Int) - ((16 * f.get 63 0 : Nat) + u.acquire.delay u.acquire.dirB)).natAbs ≤ 256) ∧
    (let f := frame 6 4095 0 0 36 0
     let s := ringSlave.setReg (rADOM_CFG 0) 0xA0000000
     hearsB ringSlave 6 f = true ∧ (∀ d < 4, ringSlave.domRing d = false) ∧ hearsB s 6 f = true ∧
       ∀ k < 4, (s.domEn k && s.domRing k && decide (s.ring.map / 4 ^ k % 4 = f.get 1 0)) = decide (k = (0 : Fin 4).val)) := by decide +kernel

theorem witness_RingEnumerationProbesAndTimeouts :
    (let f := frame 1 4095 0 0 12 4094
     meetsB ringSlave 1 f = true ∧ ringSlave.onRing false f.kb = true ∧ ringSlave.rf rKR_HOP 15 0 ≠ 0xFFFF ∧ f.get 15 0 ≤ 4094 ∧
       meetsB ringSlave 1 (frame 1 4095 0 0 12 0 true) = true ∧ ringSlave.onRing false true = false) ∧
    (let f := frame 2 4095 0 0 4 0 true
     meetsB ringSlave 2 f = true ∧ ringSlave.onRing true f.kb = true ∧
       (let s := { ringMaster with cmds := [begun 0xA0], ring := { ringMaster.ring with run := some (0, 1, 0) } }
        meetsB s 2 f = true ∧ s.onRing true f.kb = true ∧ s.master = true ∧ s.ring.run = some (0, 1, 0) ∧ f.epoch = s.epoch ∧
          (s.setReg rKR_DLY_B 0).cmdOf 0 = some (begun 0xA0))) ∧
    meetsB ringMaster 3 (frame 3 4095 1 0 0 0 true) = true ∧
    (meetsB ringMaster 4 (frame 4 0 1 0 0 0) = true ∧ ({ ringMaster with ring := { ringMaster.ring with probe := true } } : State).ring.probe = true) ∧
    (let c := { cmd 0xA0 with ord := 1 }
     let s := { has c with ring := { run := some (0, 0, 0) } }
     beginsB s 0xA0 0 c = true ∧ s.ring.run = some (0, 0, 0) ∧ 0 ≠ c.ord) ∧
    (mayBegin 0xA0 = true ∧ mayBegin 0xA2 = true ∧ mayBegin 0xA1 = true ∧ up.ring.run = none ∧ up.ring.epochAt = none) ∧
    (let s := { has (begun 0xA0) with ring := { run := some (0, 1, 0) }, time := 64000000 }
     s.live = true ∧ 0 + 64 * s.ringTo < s.time + 4 ∧ s.cmdOf 0 = some (begun 0xA0)) ∧
    (let c := { begun 0x11 with target := 1 }
     let s := { has c with time := 1000000 }
     s.live = true ∧ s.master = true ∧ s.abortsOut = [] ∧ s.cmds.find? (fun c => c.ent = (0 : Fin 64).val && s.forwarded c) = some c ∧
       c.sentAt + 192 + s.ringTo < s.time + 4 ∧ (has c).time + 4 ≤ c.sentAt + 192 + (has c).ringTo) := by decide +kernel

theorem witness_RingSendsTimeAndPorts :
    (ringMaster.live = true ∧ ringMaster.portsOn = true ∧ ringMaster.time % 1048576 = 0 ∧ ({ ringMaster with time := 1024 } : State).time % 1048576 ≠ 0 ∧
      ({ ringMaster with time := 4 } : State).time % 1024 ≠ 0) ∧
    (let u : Unans := { key := 8, sent := 0, again := some 3 }
     let s := { ringSlave with ring := { ringSlave.ring with unans := [u] } }
     s.ring.unans.find? (fun u => u.key = (8 : Fin 9).val) = some u ∧ 3 < s.time + 4 ∧ ({ u with again := some 4 } : Unans).again = some 4 ∧ s.time + 4 ≤ 4) ∧
    (let s := ringSlave.setTgt 15 { await := some 3, retry := some 0 }
     (s.tgt 15).retry = some 0 ∧ (s.tgt 15).await = some 3 ∧ 0 ≤ s.time ∧ s.best 15 ≠ some 3) ∧
    (let s := { ringMaster.setReg rKR_CFG 0x81000000 with time := 6400000 }
     s.angTx 0 = true ∧ (s.dom 0).txTime + 100000 * max 1 (s.rf rKR_CFG 23 16) < s.time + 4) ∧
    (ringSlave.live = true ∧ ringSlave.master = false ∧ ringSlave.portLost false = false ∧ (ringSlave.setRb rKR_PORT 25 true).portLost true = true ∧
      ringSlave.dirB = false ∧ ringSlave.tstate = 0) ∧
    (let s := { ringSlave with time := 16000 }
     s.enumd = true ∧ s.rb rKR_STAT 24 = false ∧ s.ring.markAt + 16000 < s.time + 4) ∧
    8 ≤ ({ ringSlave with ring := { ringSlave.ring with missA := 8 } } : State).ring.missA ∧ ringSlave.ring.missA < 8 ∧
    (let s := ({ ringSlave with ring := { ringSlave.ring with step := some (-4) } } : State).setRf rKR_TIME 31 30 1
     s.ring.step = some (-4) ∧ s.tstate = 1 ∧ s.anyShot = false ∧ (s.setAct 0 { shot := some {} }).anyShot = true) ∧
    (let s := { ((ringSlave.setReg (rADOM_CFG 0) 0xA0000000).setDom 0 { rxSeq := some 0 }) with time := 64000000 }
     s.time % 16 = 4 * (0 : Fin 4).val ∧ (s.dom 0).rxTime + s.lossTo ≤ s.time ∧ s.domEn 0 = true ∧ s.domRing 0 = true ∧ (s.dom 0).rxSeq.isSome = true ∧
       (s.dom 0).rxLost = none) ∧
    (ringMaster.rb rKR_CFG 30 = false ∧ (ringMaster.setReg rKR_CFG 0xC0000000).rb rKR_CFG 30 = true ∧
      ({ ringMaster with ring := { ringMaster.ring with wakeFwd := true } } : State).ring.wakeFwd = true) ∧
    (let s := { (ringMaster.setRb rKR_PORT 29 true).setRb rKR_PORT 24 true with time := 1000000, ring := { cleanAt := some 0, openAt := some 0 } }
     s.ring.cleanAt = some 0 ∧ s.portLost false = true ∧ 0 + 1000000 < s.time + 4 ∧ (4 : Nat) ≤ 0 + 1000000 ∧ s.ring.openAt = some 0 ∧
       s.rb rKR_PORT 24 = true ∧ s.ring.run = none) := by decide +kernel

/-! ### Pretzel and timers -/

/-- PZ[0] runs and has the instruction injected; `e` gives the rest of the engine. -/
def fetches (i : PzOp) (e : Pz := {}) : State := up.setPz 0 { e with run := true, inj := some (pzEncode i 0) }

theorem witness_EnginesExecuteAndOperationsComplete :
    executesB (fetches (.jmp 0 63)) 0 (.jmp 0 63) 0 = true ∧ (PzOp.jmp 0 63).op = 0 ∧
    (let s := up.setPz 0 { run := true, inj := some 0xFFFF }
     s.pzDue 0 = true ∧ (s.pz 0).inj.isSome = true ∧ s.pzFetch 0 = none) ∧ up.pzDue 0 = false ∧
    (let s := up.setPz 0 { run := true, idle := 1 }
     s.pzDue 0 = true ∧ (s.pz 0).inj = none ∧ 0 < (s.pz 0).idle) ∧
    (executesB (fetches (.jmp 2 0)) 0 (.jmp 2 0) 0 = true ∧ ((fetches (.jmp 2 0)).pz 0).x = 0 ∧ ((fetches (.jmp 2 0) { x := 1 }).pz 0).x ≠ 0) ∧
    (executesB (fetches .waitTick) 0 .waitTick 0 = true ∧ (fetches .waitTick).time % 16 = 0 ∧
      executesB { fetches .waitTick with time := 4 } 0 .waitTick 0 = true ∧ ({ fetches .waitTick with time := 4 } : State).time % 16 ≠ 0) ∧
    (executesB (fetches (.in_ 1 0)) 0 (.in_ 1 0) 0 = true ∧ (fetches (.in_ 1 0)).autoStore 0 = false) ∧
    (executesB (fetches (.out 3 31)) 0 (.out 3 31) 0 = true ∧ (fetches (.out 3 31)).autoLoad 0 = false) ∧
    (executesB (fetches (.push true false false)) 0 (.push true false false) 0 = true ∧ (fetches (.push true false false)).uqSize 0 = 4 ∧
      4 ≤ ((fetches (.push true false false) { uq := List.replicate 4 { val := 0, time := 0 } }).pz 0).uq.length) ∧
    (executesB (fetches (.pull true false)) 0 (.pull true false) 0 = true ∧ (fetches (.pull true false)).dqSize 0 ≠ 0 ∧
      ((fetches (.pull true false)).pz 0).dq = [] ∧ ((fetches (.pull true false) { dq := [7] }).pz 0).dq = 7 :: []) ∧
    executesB (fetches (.mov 1 2 0)) 0 (.mov 1 2 0) 0 = true ∧ executesB (fetches (.set 2 31)) 0 (.set 2 31) 0 = true ∧
    executesB (fetches (.flag 1 31)) 0 (.flag 1 31) 0 = true ∧ executesB (fetches (.xfer 2 3 0)) 0 (.xfer 2 3 0) 0 = true ∧
    executesB (fetches (.pause 0)) 0 (.pause 0) 0 = true := by decide +kernel

theorem witness_PretzelControlActsOnEngines :
    (up.live = true ∧ (up.pz 0).run = false ∧ ({ up with run := 2 } : State).inSafe = true ∧ up.inSafe = false ∧ up.safePend = false) ∧
    ((up.setPz 0 { run := true }).pz 0).run = true ∧ up.groupStopped 3 = true ∧ (up.setPz 0 { run := true }).groupStopped 0 = false ∧
    (mayBegin 0x80 15 = true ∧ ((has (cmd 0x80 15)).start (cmd 0x80 15)).groupStopped 3 = true ∧
      beginsB ((has (cmd 0x80)).setPz 0 { run := true }) 0x80 0 (cmd 0x80) = true) ∧
    (let s := (has (cmd 0x81 0x100)).setPz 0 { dq := [0, 0, 0, 0] }
     beginsB s 0x81 0 (cmd 0x81 0x100) = true ∧ (s.start (cmd 0x81 0x100)).dqSize 0 ≤ ((s.start (cmd 0x81 0x100)).pz 0).dq.length) ∧
    mayBegin 0x82 0x100 = true ∧ (beginsB { has (cmd 0x83 0x100) with run := 2 } 0x83 0 (cmd 0x83 0x100) = true ∧ (cmd 0x83 0x100).byte 9 = 1) ∧
    mayBegin 0x83 3 = true ∧ (cmd 0x83 3).byte 9 = 0 := by decide +kernel

theorem witness_PretzelOperationsKeepTheRest : ∃ t pc idle, up.pzRun 0 (.jmp 0 1) = .done t pc idle := ⟨_, _, _, rfl⟩

theorem witness_TimersIncrementStartStopAndArm :
    (let s := { (up.setReg (rTMR_CFG 0) 0).setTmr 0 { st := 1, count := 2 ^ 32 - 1, startedAt := some 0, presc := 0 } with time := 4 }
     s.live = true ∧ s.govern 0 = (0 : Fin 32).val ∧ s.incDue 0 0 = true ∧ s.linked 0 = false ∧ (s.tmr 0).count < 2 ^ 32 ∧
       s.cmpOf 0 < 2 ^ 32) ∧ up.incDue 0 0 = false ∧
    (up.linked 0 = false ∧ up.rf (rTMR_CFG 0) 10 8 = 0 ∧
      (let s := (up.setReg (rTMR_CFG 0) 0x00000100).setReg (rTMR_AUX 0) 31
       let s := { s with flags := 0x80000000, flagsVis := 0x80000000 }
       s.rf (rTMR_CFG 0) 10 8 = 1 ∧ s.govern 0 = (0 : Fin 32).val ∧ bit s.flagsPrev (s.rf (rTMR_AUX 0) 6 0 % 32) = false ∧
         s.flag (s.rf (rTMR_AUX 0) 6 0 % 32) = true)) ∧
    ((∀ i < 32, bit (0x80000000 : Word) i = decide (i = (31 : Fin 32).val)) ∧ up.privileged 31 = false ∧ (up.tmr 31).st = 0 ∧
      (up.setReg rPM_GLOBAL 0x00200000).privileged 31 = true ∧ ((up.setTmr 31 { st := 1 }).tmr 31).st = 1) := by decide +kernel

/-! ### Interrupts -/

/-- ADOM[0]'s source 16 is active, of priority 15 and routed to target `g`; every target is enabled. -/
def raises (g : Nat) : State := (up.setReg rIE_TGT 0x1FFFF).setReg (rINT_SRC 16) (BitVec.ofNat 32 (g * 65536 + 15))

theorem witness_InterruptsAreDeliveredClaimedAndWake :
    (up.live = true ∧ up.time % 64 = 4 * (0 : Fin 16).val ∧ (up.tgt 0).await = none ∧ up.best 0 = none) ∧
    ((raises 0).best 0 = some 16 ∧ ((raises 0).tgt 0).await = none) ∧
    (let s := ((raises 0).setReg (rINT_SRC 17) 14).setTgt 0 { await := some 17 }
     (s.tgt 0).await = some 17 ∧ s.best 0 = some 16 ∧ s.eligible 0 17 = true ∧ 16 ≠ 17 ∧ s.srcPrio 17 < s.srcPrio 16) ∧
    (let s := (raises 0).setTgt 0 { await := some 16 }
     s.eligible 0 16 = true ∧ s.srcPrio 16 ≤ s.srcPrio 16) ∧
    (let s := (raises 0).setTgt 0 { await := some 300 }
     s.best 0 = some 16 ∧ s.eligible 0 300 = false) ∧
    (let s := up.setTgt 0 { await := some 300 }
     s.best 0 = none ∧ s.eligible 0 300 = false) ∧ up.master = true ∧
    (let s := raises 0
     s.srcTgt 16 = 0 ∧ s.srcPend 16 = true ∧ s.rf (rINT_THR 0) 3 0 < s.srcPrio 16 ∧ (s.setRf (rINT_THR 0) 3 0 15).rf (rINT_THR 0) 3 0 = 15) ∧
    ({ up with svc := [(5, 0)] } : State).svcTgt 5 = 0 ∧ up.svcTgt 319 ≠ 0 ∧
    (bit (1 : Word) 0 = true ∧ bit (up.reg rIE_TGT) 0 = false ∧ ∀ i < 17, i ≠ 0 → bit (1 : Word) i = bit (up.reg rIE_TGT) i) ∧
    (∀ i < 17, bit (0 : Word) i = bit (up.reg rIE_TGT) i) ∧ up.aon.armed = false ∧
    (let s := ({ up with watch := true, boot := 0, aon := { armed := true } } : State).setReg rAON_WATCH 0xFFFFFFFF
     s.aon.armed = true ∧ s.wakeOk (.pin false true 2) 2 = true ∧ s.wakeOk (.pin false true 2) 1 = false ∧ s.wakeOk (.vsup 0 1023) 0 = true ∧ s.watch = true ∧ ({ s with watch := false } : State).watch = false ∧ s.watchEn (2 + (1 : Fin 2)) = true ∧
       (s.aon.motion.getD 1 (0, 0)).1 = 0 ∧
       (({ s with aon := { s.aon with motion := [(1, 0), (15, 0)] } } : State).aon.motion.getD 1 (0, 0)).1 ≠ 0 ∧ (8192 : BitVec 32).toNat ≤ 0 + 8192 ∧ (s.wakeThr 1).1 ≤ (32767 : BitVec 16).toInt ∧ (0x8000 : BitVec 16).toInt ≤ (s.wakeThr 1).2) := by
  decide +kernel

theorem witness_BestSourceIsHighestThenLowest : (raises 16).best 16 = some 16 ∧ (raises 16).eligible 16 16 = true := by decide +kernel

/-! ### Memories, journal, fuses -/

theorem witness_ScrubberAndFuses :
    (let s := { up with time := 1000000 }
     s.live = true ∧ s.scrub.last + 64 * (s.rf rMEM_CFG 7 0 + 1) < s.time + 4 ∧ s.scrub.word + 1 < memSize s.scrub.id ∧
       up.time + 4 ≤ up.scrub.last + 64 * (up.rf rMEM_CFG 7 0 + 1)) ∧
    (let s := { up with time := 1000000, scrub := { id := 2, word := 4094 } }
     s.scrub.id = 2 ∧ s.scrub.word + 1 < memSize 2) ∧
    (let s := { up with time := 1000000, scrub := { id := 12, word := 6143 } }
     s.scrub.id = 12 ∧ memSize 12 ≤ s.scrub.word + 1) ∧
    up.fuseMay = false ∧
    (let s := { up with fuses := { keyAt := some 0 }, vsup := 300 }
     up.fuses.op = none ∧ s.rb rFUSE_STAT 30 = false ∧ (s.setRb rFUSE_STAT 30 true).rb rFUSE_STAT 30 = true ∧ s.rb rFUSE_STAT 29 = false) ∧
    (let s := { up with fuses := { op := some (2, 0) } }
     s.fuses.op = some (2, 0) ∧ s.fuses.blown ≤ 28) ∧
    ({ up with sealed := true } : State).sealed = true ∧ up.sealed = false ∧ (up.setAct 0 { bound := true }).mapIdle = false := by decide +kernel

theorem witness_JournalCommitsAndCommands :
    (let s := { up.setReg rJRN_CFG 0xF8000000 with time := 64000000000, jrn := { since := [(objKey 1 63, 1)] } }
     s.live = true ∧ s.dip = false ∧ 1 ≤ (1 : Fin 256).val ∧ s.rb rJRN_CFG (26 + (5 : Fin 256).val) = true ∧ tabGet 0 s.jrn.since (objKey 1 63) = 1 ∧
       s.jrn.due = [] ∧ s.jrn.commit = none ∧ 1 - 1 + 1000000000 * max 1 (s.rf rJRN_CFG 15 8) < s.time + 4 ∧
       up.time + 4 ≤ 1 - 1 + 1000000000 * max 1 (s.rf rJRN_CFG 15 8)) ∧
    (let c : Commit := { kind := 5, key := 0, words := [0, 0, 0], bank := 0, at_ := 8, seq := 1, done := 1 }
     let s := { up with jrn := { commit := some c } }
     s.jrn.commit = some c ∧ c.done + 1 < c.words.length) ∧ up.jrn.compact = none ∧
    (let k : Compact := { step := 1, sectors := 62 }
     ({ up with jrn := { compact := some k } } : State).jrn.compact = some k ∧ k.step = 1 ∧ k.sectors ≠ 0 ∧ k.sectors + 1 < 64) ∧
    (mayBegin 0x93 = true ∧ mayBegin 0x92 ((0x80 <<< 64) + (90 <<< 80)) = true ∧
      beginsB { has (cmd 0x93) with jrn := { compact := some {} } } 0x93 0 (cmd 0x93) = true) ∧
    (mayBegin 0x90 = true ∧ (∀ o ∈ jrnObjects, ((has (cmd 0x90)).start (cmd 0x90)).differs o.1 o.2 = false)) ∧
    (let c := cmd 0x91 (1 <<< 96)
     let s := { has c with regs := linked.regs }
     beginsB s 0x91 0 c = true ∧ s.master = true ∧ s.dmaOk = true ∧ c.opnd 20 21 = 1 ∧ (s.nvRead s.jrn.live (c.opnd 16 19)).2 = .plain) ∧
    (mayRun 0x92 ((0x80 <<< 64) + (90 <<< 80)) 1 = true ∧ (begun 0x92 0 1).ready = true ∧
      mayBegin 0x91 (1 <<< 96) = true) := by decide +kernel

/-! ### Power, clocks, reset, SAFE and the monitor -/

theorem witness_SupplyClockAndStartup :
    (up.live = true ∧ up.time % 64 = 0 ∧ up.dip = false ∧ (69 : Fin 1024).val < up.warnLevel ∧ fld up.pwr.vsupReg 15 12 ≤ (2 : Fin 64).val ∧
      up.warnLevel ≤ (70 : Fin 1024).val ∧ ({ up with dip := true } : State).dip = true ∧ up.holdAt = none ∧
      up.warnLevel + up.warnHyst ≤ (80 : Fin 1024).val ∧ (79 : Fin 1024).val < up.warnLevel + up.warnHyst) ∧
    (up.rb rCLK_STAT 29 = true ∧ State.reset.rb rCLK_STAT 29 = false) ∧
    (let s := up.setReg rPWR_TEMP 0x40000000
     s.rf rPWR_TEMP 31 22 ≤ (0x1BF : Fin 1024).val ∧ s.rf rPWR_TEMP 31 22 ≤ (0x1C0 : Fin 1024).val ∧ s.rb rPWR_TEMP 21 = false ∧
       (0x1D3 : Fin 1024).val < 0x1D4 ∧ (s.setRb rPWR_TEMP 21 true).rb rPWR_TEMP 21 = true) ∧
    (State.reset.watch = false ∧ State.reset.held = false ∧ State.reset.boot = 0 ∧ State.reset.refChoice false false = 0 ∧ State.reset.refChoice true false = 1 ∧
      ({ State.reset with boot := 6 } : State).boot = 6) := by decide +kernel

theorem witness_ResetsActAndClearTheMainDomain :
    up.live = true ∧ (0 : Word) ≠ 0x0000D1E5 ∧ up.held = false ∧ up.pwr.brownAt = none ∧ up.watch = false ∧ ({ up with watch := true } : State).watch = true ∧
    (let s := { up with pwr := { up.pwr with brownAt := some 0 }, time := 10000000 }
     s.pwr.brownAt = some 0 ∧ s.outputsEnded = true ∧ s.safePend = false ∧ 0 + 10000000 ≤ s.time) ∧
    ({ up with pwr := { up.pwr with brownHeld := true } } : State).pwr.brownHeld = true ∧ up.pwr.brownHeld = false ∧
    up.jrn.commit = none ∧ up.jrn.compact = none ∧ up.fuses.op = none := by decide +kernel

theorem witness_RunStatesAndFrameStarts :
    (let s := { up with run := 3, time := 22016 }
     s.run = 3 ∧ s.time % 64 = 0 ∧ s.pwr.seqAt + 22000 ≤ s.time ∧ ({ s with time := 0 } : State).time < s.pwr.seqAt + 22000) ∧
    (let s := { up with run := 4 }
     s.live = true ∧ s.run = 4 ∧ s.jrn.commit = none ∧ s.jrn.due = [] ∧ s.hands = [] ∧
       ({ s with jrn := { commit := some { kind := 5, key := 0, words := [], bank := 0, at_ := 8, seq := 1 } } } : State).jrn.commit ≠ none) ∧
    (up.time % 64 = 0 ∧ ({ up with time := 60 } : State).time % 64 ≠ 0 ∧ up.fbTick.jrnNote.peekFill.run = 0 ∧
      ({ up with run := 1 } : State).fbTick.jrnNote.peekFill.run ≠ 0) := by decide +kernel

theorem witness_MonitorAndRegisterWrites :
    monDiscard false 0 0 0 = true ∧ monDiscard true 0x0300 0 0x1C = false ∧ (0x0300 : MonWord).msb = false ∧
    (let w := crc8 32 0x90000000
     monDiscard true 0x9000 0 (BitVec.ofNat 16 w) = false ∧ (0x9000 : MonWord).msb = true ∧ up.monRefused (fld (0x9000 : MonWord) 14 8) 0 = false) ∧
    (let w := crc8 32 0x80000000
     monDiscard true 0x8000 0 (BitVec.ofNat 16 w) = false ∧ up.monRefused (fld (0x8000 : MonWord) 14 8) 0 = true) ∧
    (let s := { up with monp := { up.monp with wdOpen := some 0, wdMax := 100 }, time := 50000004 }
     s.monp.wdOpen = some 0 ∧ 0 + 500000 * s.monp.wdMax < s.time ∧ ({ s with time := 50000000 } : State).time ≤ 0 + 500000 * s.monp.wdMax ∧
       (let w := (s.setMon 1 (setBit (s.monReg 1) 8 true)).wdWindow
        w.monp.viol + 1 < max 1 (fld (w.monReg 0x11) 2 0) ∧
          max 1 (fld (w.monReg 0x11) 2 0) ≤ ({ w with monp := { w.monp with viol := 2 } } : State).monp.viol + 1)) ∧ up.monp.wdOpen = none ∧
    up.live = true ∧ (14 : BitVec 4) ≠ 15 ∧ up.master = true ∧ ({ up with run := 1 } : State).trayWait (4 * (0xDC0 : Fin 0x4000).val) = true ∧
    up.trayWait (4 * (0xDC0 : Fin 0x4000).val) = false := by decide +kernel

theorem witness_SharedOperationsChangeOnlyTheirState : (cmd 0).target ≠ 4095 := by decide +kernel

theorem witness_KringleSourceNeedsStatusAndEnable :
    ((up.setRb rKR_STAT 0 true).setRb rKR_TMO 24 true).srcActive 248 = true ∧ (7 : Nat) < 8 := by decide +kernel

theorem witness_CompleteEndsServiceOrIsCounted :
    (319 : Nat) ≠ 1023 ∧ (16 : Nat) ≤ 16 ∧ ({ up with svc := [(319, 16)] } : State).svcTgt 319 = 16 ∧ up.svcTgt 319 ≠ 16 := by decide +kernel

/-! ### Witnesses for the clauses above that have conditions of their own: wheels, domains and scheduling -/

theorem witness_WheelLevels :
    (let s := whl.setReg (rWHL_CFG 0) 0x80700000
     s.whlHall 0 = true ∧ s.whlPol 0 = true ∧ s.mvActive 0 2000 = true ∧ s.mvActive 0 1999 = false ∧ (2000 : BitVec 16).toInt = 2000 ∧
       (let u := s.setReg (rWHL_CFG 0) 0x80600000
        u.whlHall 0 = true ∧ u.whlPol 0 = false ∧ u.mvActive 0 1200 = true ∧ u.mvActive 0 1201 = false) ∧
       (let u := (s.setReg (rWHL_CFG 0) 0x80500000).setReg (rWHL_VR 0) 0x00000400
        u.live = true ∧ u.whlEn 0 = true ∧ u.whlHall 0 = false ∧ u.whlPol 0 = true ∧ (u.wheel 0).armed = false ∧ (u.wheel 0).raw = false ∧
          u.mvActive 0 11 = true ∧ u.mvActive 0 10 = false ∧ (11 : BitVec 16).toInt = 11) ∧
       (let u := (s.setReg (rWHL_CFG 0) 0x80400000).setReg (rWHL_VR 0) 0x00000400
        u.whlHall 0 = false ∧ u.whlPol 0 = false ∧ u.mvActive 0 (-11) = true ∧ u.mvActive 0 (-10) = false)) ∧
    (let w : Wheel := { trail := some (0, 8) }
     let s := whl.setWheel 0 w
     s.live = true ∧ (s.wheel 0).raw = false ∧ (s.wheel 0).trail = some (0, 8) ∧ s.time + (3 : Fin 4).val < 0 + 8 ∧
       0 + 8 ≤ ({ s with time := 8 } : State).time + (0 : Fin 4).val) ∧
    (let s := whl.setWheel 0 { raw := true, hold := some (0, 8) }
     (s.wheel 0).raw = true ∧ s.mvInactive 0 2000 = true ∧ s.mvInactive 0 1999 = false ∧ s.time + (3 : Fin 4).val < 0 + 8 ∧
       0 + 8 ≤ ({ s with time := 8 } : State).time + (0 : Fin 4).val) ∧
    (let s := whl.setWheel 0 { raw := true }
     (s.wheel 0).raw = true ∧ (s.wheel 0).hold = none) ∧
    (let s := { whl.setWheel 0 { trail := some (0, 8) } with time := 5 }
     (s.wheel 0).hold = none ∧ (s.wheel 0).trail = some (0, 8) ∧ 0 + 8 < s.time + 4) ∧
    whl.whlDirdec 0 = false ∧ (whl.setReg (rWHL_CFG 0) 0x80E80000).whlDirdec 0 = true := by decide +kernel

theorem witness_VrAndPulseDirections :
    (let s := up.setReg (rWHL_CFG 0) 0x80400000
     s.live = true ∧ s.whlEn 0 = true ∧ s.whlHall 0 = false ∧ (s.wheel 0).armed = false ∧
       ((s.setWheel 0 { armed := true }).wheel 0).armed = true ∧ s.rf (rWHL_VR 0) 9 3 * 10 < (4095 : Fin 4096).val) ∧
    (let s := { (whl.setReg (rWHL_DIR 0) 0x00000001).setWheel 0 { pulse := some (0, 8), trail := some (300, 8) } with time := 261 }
     (s.wheel 0).pulse = some (0, 8) ∧ (s.wheel 0).trail = some (300, 8) ∧ 0 + 8 + s.rf (rWHL_DIR 0) 9 0 * 256 < 300 + 8 ∧
       0 + 8 + s.rf (rWHL_DIR 0) 9 0 * 256 < s.time + 4) ∧
    (let s := whl.setReg (rWHL_DIR 0) (BitVec.ofNat 32 (1 * 2 ^ 20 + 2 * 2 ^ 10 + 3))
     s.pulseDir 0 255 = 0 ∧ s.pulseDir 0 256 = 1 ∧ s.pulseDir 0 512 = 2 ∧ s.pulseDir 0 768 = 2 ∧ s.pulseDir 0 769 = 3 ∧
       ((s.setWheel 0 {}).wheel 0).pulse = none ∧ ((s.setWheel 0 { pulse := some (0, 8) }).wheel 0).pulse = some (0, 8)) ∧
    (whl.dirOk 0 0x80600000 = true ∧ (whl.setReg (rWHL_DIR 0) 0).dirOk 0 0x80680000 = false ∧
      (whl.setReg (rWHL_DIR 0) (BitVec.ofNat 32 (1 * 2 ^ 20 + 2 * 2 ^ 10 + 3))).dirOk 0 0x80680000 = true ∧
      (whl.setReg (rWHL_DIR 0) (BitVec.ofNat 32 (2 * 2 ^ 20 + 2 * 2 ^ 10 + 3))).dirOk 0 0x80680000 = false) := by decide +kernel

theorem witness_DomainSlotsOfBothSources :
    (let s := whl.setReg (rADOM_CFG 0) 0xA0000000
     s.live = true ∧ s.time % 16 = 4 * (0 : Fin 4).val ∧ s.domRing 0 = true ∧ whl.domRing 0 = false) ∧
    (let s := whl.setDom 0 { inbox := [{ edge with dir := 2 }] }
     (∃ e ∈ (s.dom 0).inbox.filter (fun e => e.pres ≤ s.time), 2 ≤ e.dir) ∧
       ∀ e ∈ ((whl.setDom 0 { inbox := [edge] }).dom 0).inbox.filter (fun e => e.pres ≤ s.time), e.dir < 2) ∧
    (let y : Span := { entry := 0, start := 0, fin := 8, due := 8, wraps := false }
     let s := whl.setDom 0 { cur := { st := 2 }, spans := [y] }
     (s.dom 0).spans = y :: [] ∧ (0 : Nat) < y.due ∧ y.due ≤ 8 ∧ (s.dom 0).cur.st = 2 ∧ s.camInputs 0 = [] ∧
       (let v := (whl.setReg (rWHL_CFG 1) 0x80A00000).setDom 0 { cur := { st := 3 }, spans := [y], camRun := 1, obsFrom := 4 }
        (v.dom 0).cur.st = 3 ∧ (v.dom 0).camFail = false ∧ 1 ≤ (v.dom 0).camRun ∧ v.camOk 0 0 [] false = true ∧ v.camOk 0 0 [] true = true)) ∧
    (let s := runs.setDom 0 { runs.dom 0 with cur := { st := 4, om := 2 ^ 27, tk := 1000000, hasAngle := true } }
     (s.dom 0).cur.st = 4 ∧ (runs.dom 0).cur.st ≠ 4) := by decide +kernel

theorem witness_StartsMergesAndBatches :
    ((sched { st := 3, locked := some 64 }).slot 0 0).locked ≠ none ∧
    (∀ x ∈ [0, 2, 5], ((sched { st := x }).slot 0 0).st = x) ∧
    (let s := ((sched { st := 3, fire := some 3 }).setSlot 0 1 { st := 4, fixed := some 640 }).setAct 0 { bound := true, shot := some { endLock := some 640 } }
     (s.slot 0 0).fire = some 3 ∧ s.cls 0 ≠ 3 ∧ 3 < (s.shotEnd 0).getD 0 ∧
       s.dutyMerge 0 ((s.shotEnd 0).getD 0) (s.computeEnd (s.slot 0 0)).mergeEnd = some none ∧
       (let u := s.setReg (rDIAG_DUTY 0) 0x80000001
        u.dutyMerge 0 ((u.shotEnd 0).getD 0) 1000000000 = none)) ∧
    (let s := ({ has (begun 0x20) with regs := [] } : State).setAct 0 { bound := true }
     s.inSafe = false ∧ (begun 0x20).byte 8 ≤ 95 ∧ (s.act 0).bound = true ∧ s.owns 0 0 = false) ∧
    (let c := { begun 0x21 (1 <<< 64) 1 with failed := true }
     runsB (has c) 0x21 0 c = true) ∧
    (let b : Batch := { st := up }
     let w : Armer := (cmd 0x21).armer
     b.bad = none ∧ b.st.judgeArm w 0 0 0 4 = .refused 0x25 7 ∧
       ({ b with bad := some (0, 0x12, 0) } : Batch).bad ≠ none ∧
       (let s := (sched {}).setDom 0 { cur := { st := 3, hasAngle := true, om := 2 ^ 27, fence := 10000000 } }
        let o (cyc : Nat) : Operands := BitVec.ofNat 192 (2 ^ 160 * 1000 + 2 ^ 96 * 1000 + 2 ^ 64 * 1000 + 2 ^ 32 * cyc + 2 ^ 24 * 0x20)
        (match s.judgeArm w (o 1) 0 0 4 with | .ok k _ => k == 0 | _ => false) = true ∧
          (match s.judgeArm w (o 65535) 0 0 4 with | .late k _ => k == 0 | _ => false) = true)) := by decide +kernel

theorem witness_CancelsAndForcedShots :
    (let s := { sched { st := 4, dmin := 5 } with cmds := [begun 0x22 0 1] }
     s.cancelMatch (begun 0x22 0 1) 0 = true ∧ (s.slot 0 0).st = 4 ∧ s.endLocked 0 (s.slot 0 0) = false) ∧
    (let s := { sched { st := 4, flagOnly := true, endLock := some 3 } with cmds := [begun 0x22 0 1] }
     s.cancelMatch (begun 0x22 0 1) 0 = true ∧ (s.slot 0 0).st = 4 ∧ s.endLocked 0 (s.slot 0 0) = true) ∧
    (let s := { sched { st := 5 } with cmds := [begun 0x22 0 1] }
     s.cancelMatch (begun 0x22 0 1) 0 = true ∧ 5 ≤ (s.slot 0 0).st) ∧
    (mayRun 0x24 255 = true ∧ (begun 0x24 255).byte 8 = 255) ∧
    (let s := (has (begun 0x24)).setAct 0 { bound := true, shot := some { forced := true } }
     (s.act 0).shot = some { forced := true } ∧ (up.act 0).shot = none) := by decide +kernel

/-! ### Actuators, lanes and boost -/

theorem witness_ForcedShotsAndPhases :
    (let s := (up.setReg (rPM_ACT 0) 0x9FFFFFFF).setAct 0 { bound := true }
     (s.forceCheck 0 0 1000).2.1 = 0 ∧ (s.forceCheck 0 0 1000).1 = none ∧
       (let u := s.setReg (rDIAG_DUTY 0) 0xC0000101
        (u.forceCheck 0 0 4000000000).2.1 = 0 ∧ (u.forceCheck 0 0 4000000000).1.isSome = true)) ∧
    (let s := { (shoots {}) with profs := [(0, BitVec.ofNat 128 (2 * 2 ^ 56))], time := 64 }
     s.judged {} = true ∧ s.cls 0 ≠ 4 ∧ phLast (s.phaseOf 0 {}) = false ∧ phExit (s.phaseOf 0 {}) = 2 ∧
       0 + 64 * phTmax (s.phaseOf 0 {}) ≤ s.time) ∧
    (let s := { shoots { endLock := some 8 } with profs := [(1, BitVec.ofNat 128 (2 ^ 73))] }
     s.time + 4 < 8 ∧ phLast (s.phaseRec 0 1) = true ∧ s.spent 0 = false ∧
       ((shoots { endLock := some 4 }).act 0).shot = some { endLock := some 4 } ∧ 4 ≤ (shoots {}).time + 4) ∧
    (let s := regulates {}
     phReg (s.phaseOf 0 {}) ≠ 0 ∧ phLast (s.phaseOf 0 {}) = true ∧ s.cls 0 ≠ 4) ∧
    (let s := { shoots {} with profs := [(0, BitVec.ofNat 128 (2 ^ 73))] }
     phReg (s.phaseOf 0 {}) = 0 ∧ phLast (s.phaseOf 0 {}) = true) ∧
    (let h : Shot := { st := 1, off := 2 }
     ((shoots h).act 0).shot = some h ∧ h.zeroAt = none ∧ (shoots h).cls 0 ≤ 2) ∧
    (let s := { (regulates {}).setReg (rACT_CFG 0) 0x00010000 with time := 0 }
     s.time < 0 + 500 * s.rf (rACT_CFG 0) 18 16 ∧ 0 + 500 * s.rf (rACT_CFG 0) 18 16 ≤ (regulates {}).time + 500) := by decide +kernel

theorem witness_LanesAndTrays :
    (let s := (lit { rdy := true, gate := false }).setReg (rLANE_CFG 0) 0x80000000
     s.gmode 0 = 2 ∧ (s.lane 0).rdy = true ∧ (s.lane 0).bootUv = false ∧ (s.lane 0).gate = false ∧ (lit {}).gmode 0 ≠ 2) ∧
    (let s := (up.setReg (rTRAY_TEMP 0) 0x20000000).setRb (rTRAY_TEMP 0) 20 true
     s.rb (rTRAY_TEMP 0) 20 = true ∧ (10 : Fin 1024).val + 20 < s.rf (rTRAY_TEMP 0) 31 22 ∧ s.rf (rTRAY_TEMP 0) 31 22 ≤ (110 : Fin 1024).val + 20 ∧
       up.rb (rTRAY_TEMP 0) 20 = false ∧ s.rf (rTRAY_TEMP 0) 31 22 ≤ (0x1C0 : Fin 1024).val ∧ up.rb (rTRAY_TEMP 0) 21 = false ∧
       (s.setRb (rTRAY_TEMP 0) 21 true).rb (rTRAY_TEMP 0) 21 = true ∧ (0x1AB : Fin 1024).val < 0x1AC ∧ up.inRun = true) ∧
    (let s := ((sched {}).setAct 0 { idleOn := [some 0, none, none] })
     let s := { s with time := 16000000 }
     ∀ i, i < 3 → i ≠ 0 → (s.act 0).idleOn.getD i none = none) ∧
    (let h : Shot := { desatRun := 1, lim := 0x00000010, st := 1 }
     ((shoots h).act 0).shot = some h ∧ h.st ≤ 1 ∧ fld h.lim 7 4 ≤ h.desatRun) ∧
    ((lit { gate := true, oc := true }).lane 0).oc = true := by decide +kernel

theorem witness_BoundFieldsAndLaneModes :
    (let s := (sched {}).setReg (rACT_CFG 0) 0x80000000
     s.rb (rACT_CFG 0) 31 = true ∧ (0x80000000 &&& 0x0FFFFFFF : Word) = (s.reg (rACT_CFG 0) &&& 0x0FFFFFFF) ∧ (∀ k < 8, (s.slot 0 k).st = 0) ∧
       (s.act 0).shot = none ∧ ((s.setSlot 0 7 { st := 1 }).slot 0 7).st ≠ 0) ∧
    (let s := ((lit { rdy := true }).setReg (rACT_LANES 0) 0xFFFFFF00).setReg (rPM_ACT 0) 0x80000000
     s.rb (rACT_CFG 0) 31 = false ∧ (s.setReg (rACT_CFG 0) (0x80000000 &&& 0x8FFFFFFF)).bindErr 0 = 0) ∧
    (let s := lit {}
     s.trayWait (rLANE_CFG 0) = false ∧ s.laneFixed 0 = false ∧ s.laneOn 0 = true ∧ s.gmode 0 = 1 ∧ s.run = 0 ∧
       (s.setReg (rLANE_CFG 0) 0x80000000).gmode 0 = 2 ∧ (s.setReg (rLANE_CFG 0) 0).gmode 0 = 0 ∧ (s.setReg (rCLK_STAT) 0x23C00000).rf rCLK_STAT 25 22 ≠ 0 ∧
       ({ s with run := 1 } : State).trayWait (rLANE_CFG 0) = true ∧ ({ s with run := 1 } : State).trayWait (rSFB_FROZEN 0) = true ∧
       s.trayWait (rSFB_FROZEN 0) = false) ∧
    up.bankInUse 0 = false ∧ up.reenRefused 0 = false ∧ up.disabled 0 = false := by decide +kernel

theorem witness_ConvertersAndHoldWords :
    (let s := up.setRail 0 { st := 3 }
     s.inRun = true ∧ s.rb (rBST_CFG 0) 31 = false ∧ (s.rail 0).st ≠ 5 ∧ (s.rail 0).st ≠ 0) ∧
    (let s := up.setRail 0 { st := 2, enable := true, period := some 0, perLen := 100 }
     (s.rail 0).enable = true ∧ (s.rail 0).st = 2 ∧ s.holdAt = none ∧ 0 + 100 ≤ ({ s with time := 100 } : State).time) ∧
    (let s := { up.setRail 0 { st := 1, gate := true, period := some 0, perLen := 100, ipk := 20 } with time := 100 }
     (s.rail 0).period = some 0 ∧ (s.rail 0).gate = true ∧ 0 + 100 ≤ s.time + (0 : Fin 4).val ∧ (s.rail 0).ipk ≤ 2 * (10 : Fin 256).val ∧
       2 * (9 : Fin 256).val < (s.rail 0).ipk ∧ 0 + 9 * (s.rail 0).perLen / 10 < s.time + 4) ∧
    (up.holdAt = none ∧ up.holdLaneOk 0 0xFF = true ∧ up.holdLaneOk 0 0 = false ∧ up.trayWait (rBST_SET 0) = false ∧ up.trayWait (rBST_ADAPT 0) = false ∧
      ({ up with run := 1 } : State).trayWait (rBST_SET 0) = true) := by decide +kernel

/-! ### Host link, queues and commands -/

theorem witness_PollsLinkAndConfiguration :
    (let s := linked.setReg rDB_POLL 0x80000000
     s.rb rDB_POLL 31 = true ∧ s.dmaOk = true ∧ s.pollDue ≤ s.time ∧ s.pollDue < s.time + 4 ∧
       (let u := { s with poll := { last := some 0, busy := true } }
        u.poll.busy = true ∧ u.time < u.pollDue ∧ ({ u with poll := { last := some 0 } } : State).time + 4 ≤ ({ u with poll := { last := some 0 } } : State).pollDue) ∧
       (∀ r ∈ s.reads, r.kind ≠ 0)) ∧
    (let s := up.setReg rHL_LIVE 0x80000001
     s.time + 4 ≤ s.poll.hbSent + 25000 * s.liveTmo ∧ s.hostLostAct = false ∧
       ({ up with master := false } : State).master = false ∧ up.poll.hbEn = false) ∧
    (linked.rb rHL_STAT 25 = false ∧ (linked.setRb rHL_STAT 25 true).rb rHL_STAT 25 = true ∧ ({ linked with link := {} } : State).link.mse = false ∧
      ¬ (64 : Fin 1024).val < 64 ∧ (up.setRb rHL_STAT 31 false).rb rHL_STAT 31 = false) ∧
    (∀ r ∈ linked.reads, r.tag ≠ some (0 : Fin 16).val) ∧
    (let s := (up.setReg rDB_POLL 0x80000000)
     s.rb rDB_POLL 31 = true ∧ s.rb rHL_LIVE 31 = false ∧ bit (0x80000000 : Word) 31 = true ∧ bit (0 : Word) 31 = false) := by decide +kernel

/-- QP[0]'s descriptor read is outstanding, with the rest of the pair as given. -/
def fetching (x : Qp) : State := { queue.setQp 0 x with reads := [{ kind := 1, arg := 0, addr := 0, len := 32, tag := some 0 }] }
def fetched (x : Qp) : State := ({ fetching x with reads := [] } : State).issueReads

theorem witness_DescriptorKinds :
    (let d : BitVec 256 := 0x10000
     fld d 23 16 = 1 ∧ fld (BitVec.ofNat 192 (fld d 255 64)) 191 65 = 0 ∧ ((fetched {}).qp 0).resync = none ∧
       ((fetched { resync := some (0, 0, 0, 0) }).qp 0).resync.isSome = true ∧
       fld (BitVec.ofNat 192 (fld (0x10000 + 2 ^ 255 : BitVec 256) 255 64)) 191 65 ≠ 0) ∧
    ((fetched { stall := true }).qp 0).stall = true ∧ ((fetched { oob := true }).qp 0).oob = true ∧ fld (0 : BitVec 256) 15 0 = ((fetched { oob := true }).qp 0).e ∧
    (fld (0x30000 : BitVec 256) 23 16 = 3 ∧ fld (0x30000 : BitVec 256) 15 0 = ((fetched {}).qp 0).e ∧ ((fetched {}).qp 0).oob = false ∧ ((fetched {}).qp 0).stall = false ∧
      fld (0 : BitVec 256) 23 16 ≠ 3) ∧
    (let s := { fetching {} with reads := [{ kind := 1, arg := 0, addr := 0, len := 32 }] }
     ∀ r ∈ s.reads, r.kind = 1 → r.arg = (0 : Fin 32).val → r.tag = none) ∧
    opDefined 0x0F = false ∧ opDefined 0 = true ∧ up.targetOk 0 1 = false ∧ up.targetOk 0 0 = true := by decide +kernel

theorem witness_CompletionsRecordsOnSlaves :
    (let s := queue.setQp 0 { wait := [done] }
     s.cplNext 0 = some done ∧ s.dmaOk = true ∧ s.qpEn 0 = true ∧ queue.cplNext 0 = none ∧ s.cplHeld done = false ∧ s.cqRoom 0 = true) ∧
    (let s := queue.setQp 0 { wait := [{ done with free := true }], nextCseq := 16 }
     s.cplFree 0 { done with free := true } = true ∧ s.cqRoom 0 = false) ∧
    (let c := { done with after := some 0 }
     let s := { queue.setQp 0 { wait := [c] } with cmds := [cmd 0] }
     ∀ x ∈ [c], s.cplHeld x = true) ∧
    (let s := { ringSlave with fwd := [done] }
     s.live = true ∧ s.master = false ∧ s.fwd.find? (fun x => x.qp = (0 : Fin 32).val && !s.cplHeld x) = some done ∧ done.slot = none) ∧
    (let c := { done with slot := some 0 }
     let s := { ringSlave with fwd := [c] }
     s.fwd.find? (fun x => x.qp = (0 : Fin 32).val && !s.cplHeld x) = some c ∧ c.slot ≠ none ∧ (∀ u ∈ s.ring.unans, u.key ≠ 8) ∧
       s.fwd.find? (fun x => x.slot.isSome) = some c ∧ (∃ u ∈ ({ s with ring := { s.ring with unans := [{ key := 8, sent := 0 }] } } : State).ring.unans, u.key = 8)) ∧
    (let s := { (queue.setRs 0 { next := 16 }) with hands := [shotHand] }
     s.firstHand 0 = some shotHand ∧ s.rsNoRoom 0 shotHand.entries.length = true ∧ s.hands.filter (fun h => h.prod == 1 && h.rs == (0 : Fin 8).val) ≠ [] ∧
       ({ s with hands := [{ shotHand with prod := 0 }] } : State).firstHand 0 = some { shotHand with prod := 0 } ∧ queue.firstHand 0 = none) ∧
    (let s := { ringSlave with hands := [shotHand] }
     s.firstHand 0 = some shotHand ∧ s.outFill 0 + shotHand.entries.length ≤ 8 ∧ (s.intoOutbox 0 shotHand).ring.outbox.find? (fun h => h.rs = (0 : Fin 8).val) ≠ none ∧
       (∀ x ∈ (s.intoOutbox 0 shotHand).ring.unans, x.key ≠ (0 : Fin 8).val) ∧
       8 < ({ s with ring := { s.ring with outbox := List.replicate 8 shotHand } } : State).outFill 0 + shotHand.entries.length) := by decide +kernel

theorem witness_ResyncsAndAborts :
    (let s := queue.setQp 0 { resync := some (0, 0, 0, 64), drain := true }
     (s.qp 0).resync = some (0, 0, 0, 64) ∧ (s.qp 0).drain = true ∧ s.inFlight 0 = 0 ∧ fld (64 : BitVec 192) 63 0 ≠ 0 ∧ fld (64 : BitVec 192) 63 0 % 64 = 0 ∧
       s.dmaOk = true ∧ (s.setReg rHL_STAT 0).dmaOk = false ∧ fld (8 : BitVec 192) 63 0 % 64 ≠ 0 ∧ (queue.qp 0).resync = none) ∧
    (let c := { begun 0 with target := 1 }
     let s := { queue with cmds := [c] }
     s.victim 0 aborts = some c ∧ s.away c = true ∧ s.away (cmd 0) = false ∧ fld aborts.ops 191 17 = 0 ∧ aborts.fwd = none) ∧
    (let r : FwdAbort := { tage := 3, at_ := 0 }
     let c := { cmd 0 with ring := some (0, 3) }
     ({ ringSlave with cmds := [c] } : State).cmds.find? (fun c => c.ring.map Prod.snd == some r.tage) = some c ∧ c.past = false ∧ { c with started := some 1 }.past = true) ∧
    (let m (v : Word) : Word := v &&& 0x9F1F7F00
     bit (m 0x84030000) 31 = true ∧ fld (m 0x84030000) 20 16 < 4 ∧ (queue.qp 0).wait = [] ∧ queue.qpArmed 0 = false ∧ queue.inFlight 0 = 0 ∧
       bit (queue.reg (rRS_CFG 0)) 31 = true ∧ bit (0x83000000 : Word) 31 = true ∧ fld (0x83000000 : Word) 28 24 < 4) := by decide +kernel

theorem witness_TableImages :
    (mayBegin 0x12 = true ∧ tableOperands (cmd 0x12 (0x40 <<< 96)) false = none ∧ (cmd 0x12 (0x40 <<< 96)).tCount = 0) ∧
    (let c := begun 0x12 (1 <<< 80) 1
     mayRun 0x12 (1 <<< 80) 1 = true ∧ (has c).tableTurn c = true ∧ c.failed = false ∧ c.ready = true ∧ ({ c with need := 8 } : Cmd).ready = false) ∧
    (let c := begun 0x13 0 1
     mayRun 0x13 0 1 = true ∧ (has c).tableTurn c = true ∧ c.failed = false ∧ ({ has c with regs := linked.regs } : State).bufReady c.ord = true ∧
       (has c).bufReady c.ord = false ∧ runsB (has { c with failed := true }) 0x13 0 { c with failed := true } = true) ∧
    (let c := cmd 0x13
     let s := { has c with regs := linked.regs }
     (s.start c).bufReady c.ord = true ∧ ((has c).start c).bufReady c.ord = false) ∧
    (let c := begun 0x12 0 1
     let s : State := { up with cmds := [{ begun 0x12 0 1 with ord := 1, started := some 0 }, c] }
     s.tableTurn c = false ∧ runsB { up with cmds := [c, { begun 0x12 0 1 with ord := 1, ent := 1, started := some 0 }] } 0x12 0 c = true) ∧
    (let c := begun 0x12 (1 <<< 96) 1
     let s := has c
     c.tKind ≤ 1 ∧ (s.setDom 0 { cur := { st := 3 } }).domBusy 0 = true ∧ s.domBusy 0 = false ∧ (s.dom c.tIdx).tableValid = false ∧ (begun 0x12).tKind = 0) ∧
    (profFault (fun _ => 0) = none ∧ profFault (fun i => if i = 0 then (BitVec.ofNat 128 (2 ^ 127)) else 0) ≠ none ∧ (begun 0x12 (0x20 <<< 96)).tKind ≤ 4) := by decide +kernel

theorem witness_CommandsHeldForwardedAndFenced :
    (let c := { cmd 0 with ord := 1, ent := 1, flags := 3 }
     let s := { up with cmds := [cmd 0, c] }
     s.live = true ∧ s.cmdAt 1 = some c ∧ c.started = none ∧ s.startable c = false ∧ (cmd 0).ord < c.ord) ∧
    (let c := { cmd 0x11 with target := 1 }
     (has c).startable c = true ∧ (has c).here c = false ∧ (has c).cmdAt 0 = some c) ∧
    (let c := { begun 2 with ord := 1, ent := 1 }
     let s := { up with cmds := [cmd 0, c] }
     s.fenced c = false ∧ runsB s 2 1 c = true ∧ s.wellFormed c = true ∧ ({ up with cmds := [c] } : State).fenced c = true) ∧
    (let c := { cmd 2 with target := 1 }
     (has c).here c = false ∧ (has c).startable c = true ∧ c.phase = 0 ∧ (has c).fenced c = true ∧ ({ c with started := some 1 } : Cmd).started.isSome = true) := by
  decide +kernel

theorem witness_SetupWaitsAndDomainCommands :
    (let c := begun 0x10 0x3700
     let s := { has c with run := 1 }
     runsB s 0x10 0 c = true ∧ s.trayWait (c.opnd 8 11) = true ∧ ({ s with run := 0 } : State).trayWait (c.opnd 8 11) = false) ∧
    (let c := begun 0x11 0x3700
     runsB { has c with run := 1 } 0x11 0 c = true ∧ ({ has c with run := 1 } : State).trayWait (c.opnd 8 11) = true) ∧
    (let c := begun 0x40 0 1
     runsB { has c with time := 4 } 0x40 0 c = true ∧ ({ has c with time := 4 } : State).time % 16 ≠ 4 * c.byte 8) ∧
    ((has (begun 0x41)).domBusy 0 = false ∧ ((has (begun 0x41)).setDom 0 { cur := { st := 3 } }).domBusy 0 = true) ∧
    (mayRun 0x42 (64 <<< 64) 1 = true ∧ (begun 0x42 (64 <<< 64) 1).opnd 16 23 ≠ 0) ∧
    (let c := begun 0x42 0 2
     runsB (has c) 0x42 0 c = true ∧ (has c).bufReady c.ord = false ∧ ({ has c with regs := linked.regs } : State).bufReady c.ord = true ∧
       ({ ringSlave with cmds := [c] } : State).bufReady c.ord = true ∧ (begun 0x42 0 3).phase = 3 ∧
       ({ ringSlave with cmds := [c], ring := { ringSlave.ring with accs := [{ ord := 0, write := true, addr := 0, len := 4 }] } } : State).bufReady c.ord = false) := by
  decide +kernel

theorem witness_ActReadAndBoostCommands :
    (let c := cmd 0x50
     let s := { (sched {}) with cmds := [c] }
     beginsB s 0x50 0 c = true ∧ s.lsLane (c.byte 8) < 192 ∧ c.phase = 0 ∧
       (let d := begun 0x50 0 1
        runsB { (sched {}) with cmds := [d] } 0x50 0 d = true ∧ (sched {}).lsSlot 0 = true ∧ ({ sched {} with time := 4 } : State).lsSlot 0 = false)) ∧
    (let s := (has (cmd 0x51 (2 ^ 95))).setRb (rDIAG_DIS 2) 31 true
     s.disabled 95 = true ∧ s.reenRefused 95 = false ∧ beginsB s 0x51 0 (cmd 0x51 (2 ^ 95)) = true) ∧
    (runsB { has (begun 0x60 0 1) with time := 4 } 0x60 0 (begun 0x60 0 1) = true ∧ ({ has (begun 0x60 0 1) with time := 4 } : State).time % 64 ≠ 0) ∧
    (let c := cmd 0xF0
     let s := { has c with regs := up.regs }
     s.cmdAt 0 = some c ∧ s.startable c = true ∧ (s.vendorLocked = true ∨ s.fullQp c.qp = true) ∧
       (let u := { s with sealed := false, mapErr := false }.setReg rPM_GLOBAL 0
        u.vendorLocked = false ∧ (u.setReg rPM_FULLQP 0).fullQp 0 = false ∧ u.fullQp 0 = true)) ∧
    (mayRun 0x73 (4 <<< 64) 1 = true ∧ (has (begun 0x73 (4 <<< 64) 1)).time < (begun 0x73 (4 <<< 64) 1).opnd 16 23) := by decide +kernel

/-! ### Ring, engines, interrupts, memories and power -/

theorem witness_BadPassedAndForeignFrames :
    (let f := { frame 0x11 2 1 0 16 0 with err := true }
     f.bad 0x11 = true ∧ ringMaster.portLost false = false ∧ ringMaster.ownFrame f = false ∧ ringMaster.forMe f = false ∧
       ({ frame 0x11 0 1 0 16 0 with err := true } : Frame).bad 0x11 = true ∧ ringMaster.forMe { frame 0x11 0 1 0 16 0 with err := true } = true ∧
       (ringMaster.setRb rKR_PORT 29 true).portLost false = true ∧ express 0x11 = false) ∧
    (let f := { frame 5 4095 0 0 8 0 with cut := true }
     let s := { ringSlave with out := [.frame (ringSlave.outRing false).toNat 14 (2 ^ 32)] }
     f.cut = true ∧ express 5 = true ∧ (s.lastOwn (s.outRing f.kb).toNat).isSome = true) ∧
    (let f := frame 7 4095 0 64 4 0
     ringSlave.master = false ∧ ringSlave.enumd = true ∧ f.src.val = 0 ∧ f.epoch ≠ ringSlave.epoch ∧ ringSlave.ring.newEpoch = none ∧
       (frame 7 4095 0 0 4 0).epoch = ringSlave.epoch ∧
       (let s := { ringSlave with ring := { ringSlave.ring with newEpoch := some 0 } }
        s.time < 0 + 64 * s.ringTo ∧ 0 + 64 * s.ringTo ≤ ({ s with time := 100000000 } : State).time)) := by decide +kernel

theorem witness_MasterRefusesAndStaleFrames :
    (let f := frame 0x11 0 1 0 16 (3 * 2 ^ 16)
     takesB ringMaster 0x11 f = true ∧ f.get 23 16 = 3 ∧ ringMaster.oldEpoch (frame 0x11 0 1 128 16 0) = true ∧ ringMaster.oldEntry (frame 0x12 0 1 128 32 0) = true ∧
       takesB ringMaster 0x12 (frame 0x12 0 1 128 32 0) = true ∧ takesB ringMaster 0x20 (frame 0x20 0 1 128 36 0) = true) ∧
    (let c : Cpl := { qp := 0, opcode := 0, status := 0, source := 1 }
     let s := { ringMaster with regs := queue.regs }.setReg rKR_CFG 0x80000000
     let s := s.setQp 0 { wait := List.replicate 16 c }
     16 ≤ s.heldEntries) ∧
    takesB ringMaster 0x13 (frame 0x13 0 1 0 4 0) = true ∧ takesB ringMaster 0x10 (frame 0x10 0 1 0 40 0) = true ∧ takesB ringMaster 0x14 (frame 0x14 0 1 0 4 0) = true ∧
    takesB ringMaster 0x15 (frame 0x15 0 1 0 4 0) = true ∧ takesB ringMaster 0x19 (frame 0x19 0 1 0 4 0) = true := by decide +kernel

theorem witness_SlaveAnswersAndAccesses :
    (let a : Acc := { ord := 0, write := true, addr := 0, len := 4, tag := some 5 }
     let s := { ringSlave with ring := { ringSlave.ring with accs := [a] } }
     let f := frame 0x13 1 0 0 4 0x51A
     takesB s 0x13 f = true ∧ f.get 7 0 = 0x1A ∧ s.accOf (f.get 13 8) true = some a ∧ ringSlave.accOf (f.get 13 8) true = none ∧
       takesB s 0x14 (frame 0x14 1 0 0 4 0x51A) = true ∧ (s.bump rKR_CNT_B 7 0).accOf 5 true = some a) ∧
    (let f := frame 0x13 1 0 128 4 0x12
     ringSlave.oldEpoch f = true ∧ takesB ringSlave 0x13 f = true ∧ takesB ringSlave 0x14 (frame 0x14 1 0 128 4 0x12) = true ∧
       takesB ringSlave 0x19 (frame 0x19 1 0 128 4 0) = true) ∧
    (let s := ringSlave.setTgt 15 { await := some 3, sent := [(15, 3)] }
     let f := frame 0x14 1 0 0 4 0xF21
     takesB s 0x14 f = true ∧ f.get 7 0 = 0x21 ∧ (s.bump rKR_CNT_B 7 0).noteOf (f.get 13 8) = some 3 ∧
       ((s.noteGone (f.get 13 8)).tgt 15).await = some 3 ∧ (((ringSlave.setTgt 15 { sent := [(15, 3)] }).noteGone (f.get 13 8)).tgt 15).await ≠ some 3 ∧
       ringSlave.noteOf (f.get 13 8) = none) ∧
    (let s := { ringSlave with ring := { ringSlave.ring with unans := [{ key := 8, sent := 0 }] } }
     (∃ x ∈ s.ring.unans, x.key = 8) ∧ ∀ x ∈ ringSlave.ring.unans, x.key ≠ 8) ∧
    (hearsB ringSlave 0x10 (frame 0x10 4095 0 0 40 0) = true ∧ ringSlave.onRing false false = true ∧ ringSlave.onRing false true = false) ∧
    (let f := frame 7 4095 0 0 4 2
     hearsB ringSlave 7 f = true ∧ bit f.pay 1 = true) ∧
    (hearsB { ringSlave with enumd := false } 5 (frame 5 4095 0 0 8 0) = true ∧
      (let s := ringSlave.setRf rKR_TIME 31 30 1
       let f := frame 5 4095 0 0 8 1000000
       s.tstate = 1 ∧ f.kb = s.dirB ∧ 256 < ((s.ring.markL : Int) - ((16 * f.get 63 0 : Nat) + s.delay s.dirB)).natAbs)) := by decide +kernel

theorem witness_TokensTimeoutsAndRejoin :
    (let f := { frame 1 4095 0 0 12 0 with err := true }
     f.bad 1 = true ∧ ringMaster.onRing false f.kb = true ∧ ringMaster.onRing false true = false ∧ ringMaster.portsOn = true) ∧
    (let f := frame 1 4095 0 0 12 (2 ^ 48)
     meetsB ringMaster 1 f = true ∧ f.get 79 48 ≠ ringMaster.uid % 2 ^ 32 ∧ (frame 1 4095 0 0 12 0).get 79 48 = ringMaster.uid % 2 ^ 32) ∧
    (let s := { ringMaster with ring := { ringMaster.ring with epochAt := some 0 } }
     s.time < 0 + s.ringTo ∧ 0 + s.ringTo ≤ ({ s with time := 1000000 } : State).time) ∧
    (let c := begun 0xA2
     let s := { has c with ring := { run := some (0, 2, 0), epochAt := some 0 }, time := 1000000 }
     runsB s 0xA2 0 c = true ∧ s.ring.run = some (c.ord, 2, 0) ∧ 0 + s.ringTo ≤ s.time ∧ c.opcode = 0xA2 ∧ (begun 0xA0).opcode = 0xA0) ∧
    (let s := { has (begun 0xA0) with ring := { run := some (0, 3, 0) } }
     s.ring.run = some (0, 3, 0) ∧ up.ring.run = none ∧ ({ s with ring := { run := some (5, 1, 0) }, time := 64000000 } : State).cmdOf 5 = none) ∧
    (let a : Acc := { ord := 0, write := true, addr := 0, len := 4, tag := some 5 }
     let s := { ringSlave with ring := { ringSlave.ring with accs := [a] }, time := 1000000 }
     s.ring.accs.find? (fun a => a.tag == some (5 : Fin 64).val && decide (a.sent + s.ringTo < s.time + 4)) = some a ∧
       ringSlave.ring.accs.find? (fun a => a.tag == some (5 : Fin 64).val && decide (a.sent + ringSlave.ringTo < ringSlave.time + 4)) = none) := by decide +kernel

theorem witness_RingSendsLossesAndRepairs :
    (let u : Unans := { key := 8, sent := 0 }
     let s := { ringSlave with ring := { ringSlave.ring with unans := [u] } }
     s.ring.unans.find? (fun u => u.key = (8 : Fin 9).val) = some u ∧ s.time + 4 ≤ 0 + s.ringTo ∧ 0 + s.ringTo < ({ s with time := 1000000 } : State).time + 4) ∧
    (let s := (((raises 15).setTgt 15 { await := some 16, retry := some 0 }))
     (s.tgt 15).retry = some 0 ∧ s.best 15 = some 16) ∧
    (let s := { ((ringSlave.setReg (rADOM_CFG 0) 0xA0000000).setDom 0 { rxHas := true }) with time := 64000000 }
     s.time % 16 = 4 * (0 : Fin 4).val ∧ (s.dom 0).rxTime + s.lossTo ≤ s.time ∧ s.domEn 0 = true ∧ s.domRing 0 = true ∧ (s.dom 0).rxHas = true ∧
       (s.dom 0).rxLost = none ∧ ringSlave.time < (ringSlave.dom 0).rxTime + ringSlave.lossTo ∧ (ringSlave.dom 0).rxHas = false) ∧
    (let s := (ringSlave.setRf rKR_TIME 31 30 1)
     s.tstate = 1 ∧ s.anyShot = false ∧ ringSlave.ring.step = none) ∧
    (ringMaster.portsOn = true ∧ ringMaster.portLost true = false ∧ (ringMaster.setRb rKR_PORT 25 true).portLost true = true ∧
      ((ringMaster.setRb rKR_PORT 31 true).setRb rKR_PORT 30 true).portLost false = false) ∧
    (let s := { ringMaster with ring := { ringMaster.ring with openAt := some 0, run := some (0, 3, 0), rejoinAt := some 0 } }
     s.loopOpen.ring.run = some (0, 3, 0) ∧ s.loopOpen.ring.rejoinAt = some 0 ∧ 0 < s.loopOpen.time + 4 ∧ s.rb rKR_PORT 24 = false ∧
       s.time + 4 ≤ (4 : Nat) ∧ (ringMaster.ring.openAt = none) ∧ ringMaster.ring.cleanAt = none) := by decide +kernel

theorem witness_EnginesInOtherStates :
    (∀ i ∈ [PzOp.set 0 5, .set 1 5, .set 3 5, .mov 2 0 0, .mov 3 0 0, .flag 0 3, .waitFrame, .waitPin true 5],
      executesB (fetches i) 0 i 0 = true) ∧
    (executesB (fetches (.jmp 3 0)) 0 (.jmp 3 0) 0 = true ∧ ((fetches (.jmp 3 0)).pzRead 0).jmpTest 0 3 = true ∧ ((fetches (.jmp 4 0)).pzRead 0).jmpTest 0 4 = false) ∧
    (let s := fetches (.push false false false) { uq := List.replicate 4 { val := 0, time := 0 } }
     executesB s 0 (.push false false false) 0 = true ∧ (s.pzRead 0).uqSize 0 ≤ ((s.pzRead 0).pz 0).uq.length ∧ executesB (fetches (.pull false false)) 0 (.pull false false) 0 = true) ∧
    (let s := has (cmd 0x80)
     (s.start (cmd 0x80)).groupStopped 0 = true ∧ ((s.setPz 0 { run := true }).start (cmd 0x80)).groupStopped 0 = false ∧
       ((s.setPz 0 { inj := some 0 }).pz 0).inj ≠ none) ∧
    ((up.setRb (rPZ_REC 0) 31 true).rb (rPZ_REC 0) 31 = true ∧ up.inSafe = false ∧ mayBegin 0x83 0x100 = true ∧ mayBegin 0x83 0x200 = true) := by decide +kernel

theorem witness_TimerEventsInACoreCycle :
    (let s := (up.setReg (rTMR_CFG 0) 0).setTmr 0 { st := 1, count := 5 }
     let b := s.tmrBase 0
     b.linked 0 = false ∧ (b.tmr 0).count < 2 ^ 32 ∧ b.cmpOf 0 < 2 ^ 32 ∧ s.tmrEvts 0 = []) ∧
    (let s := (up.setReg (rTMR_CFG 0) 0x00000300).setReg (rTMR_AUX 0) 95
     s.rf (rTMR_CFG 0) 10 8 = 3 ∧ s.rf (rTMR_AUX 0) 6 0 ≤ 95 ∧ ({ s with actMarks := [(0, 95, true)] } : State).actMarks.contains (0, 95, true) = true ∧
       (up.setReg (rTMR_CFG 0) 0x00000500).rf (rTMR_CFG 0) 10 8 = 5 ∧ (up.setReg (rTMR_CFG 0) 0x00000200).rf (rTMR_CFG 0) 10 8 = 2) ∧
    (up.setReg (rTMR_CFG 0) 0).govern 0 = (0 : Fin 32).val := by decide +kernel

theorem witness_MailboxesAndServices :
    (let s := up.setTgt 0 { mbx := some 7 }
     (s.tgt 0).mbx = some 7 ∧ s.dmaOk = false ∧ (linked.setTgt 0 { mbx := some 7 }).dmaOk = true) ∧
    (up.svcTgt 5 ≠ 0 ∧ ({ up with master := false } : State).master = false ∧ fld (0x100005 : Word) 20 16 ≤ 16 ∧ 16 < fld (0x110000 : Word) 20 16) ∧
    (let s := up.setReg rIE_TGT 1
     bit (0 : Word) 0 = false ∧ bit (s.reg rIE_TGT) 0 = true ∧ (s.tgt 0).await = none ∧ ∀ i < 17, i ≠ 0 → bit (0 : Word) i = bit (s.reg rIE_TGT) i) ∧
    (raises 0).srcPrio 16 = 15 ∧ (up.srcPend 16 = false ∨ up.srcTgt 16 = 0) := by decide +kernel

theorem witness_MemoryReadsAndFuses :
    (let s := { up with time := 1000000 }
     s.scrubDue = true ∧ up.scrubDue = false ∧ memSize s.scrub.id ≤ 8192 ∧ s.scrub.id ≠ 12 ∧ s.scrub.word + 1 < memSize s.scrub.id) ∧
    (let s := { up with time := 1000000, scrub := { id := 1, word := memSize 1 - 1 } }
     s.scrubDue = true ∧ memSize s.scrub.id ≤ s.scrub.word + 1 ∧ s.scrub.id ≠ 12) ∧
    ((1 : Fin 16).val ≤ 12 ∧ (0 : Fin 8192).val < memSize 1 ∧ ¬ (1 ≤ (0 : Fin 16).val) ∧ ¬ (4096 : Fin 8192).val < memSize 1) ∧
    (tabGet 0 up.upsets (ramKey 1 0) = 0 ∧ (eccRead (eccEncode (up.ramData 1 0) ^^^ 1)).2 = .corrected ∧
      (eccRead (eccEncode (up.ramData 1 0) ^^^ 0x11)).2 = .uncorrectable ∧ (eccRead (eccEncode (up.ramData 1 0) ^^^ eccEncode 1)).2 = .plain) ∧
    (up.cmdAt 0 = none ∧ (has (cmd 0)).cmdAt 0 = some (cmd 0)) ∧
    (let s := { up with fuses := { keyAt := some 0 }, vsup := 300 }
     s.fuseMay = true ∧ s.rb rFUSE_STAT 30 = false ∧ up.fuseMay = false ∧
       (let u := { (s.setRb rFUSE_STAT 30 true) with fuses := { s.fuses with words := (below 42).map (fun i => (111 + i, eccEncode (s.shadowWord (111 + i)))) } }
        u.fuseMay = true ∧ u.rb rFUSE_STAT 29 = false ∧ u.mapMatches = true ∧ (s.setRb rFUSE_STAT 30 true).mapMatches = false)) ∧
    (let s := { up with fuses := { op := some (1, 0) }, vsup := 300 }
     s.fuses.op = some (1, 0) ∧ s.fuseSupply = true ∧ ({ s with vsup := 80 } : State).fuseSupply = false ∧ up.sealed = false ∧ up.mapIdle = true) := by decide +kernel

theorem witness_JournalOfDipsAndCopies :
    (let d : Due := { kind := 5, key := 0 }
     let s := { up with dip := true, time := 64, jrn := { due := [d] } }
     s.dip = true ∧ s.time % 64 = 0 ∧ s.jrn.commit = none ∧ s.jrn.dipFrom < s.time ∧ s.heading = false ∧
       (s.dipFirst = none ∧ s.jrn.due = d :: [] ∨ s.dipFirst.isSome = true)) ∧
    (let c : Commit := { kind := 0xFF, key := 0, words := [0], bank := 1, at_ := 8, seq := 1 }
     let s := { up with jrn := { commit := some c, compact := some {} } }
     c.words.length ≤ c.done + 1 ∧ s.jrn.compact = some {} ∧ c.bank ≠ s.jrn.live ∧ c.kind = 0xFF ∧ ({ c with kind := 1 } : Commit).kind ≠ 0xFF ∧
       ({ c with bank := 0 } : Commit).bank = s.jrn.live) ∧
    (let k : Compact := { step := 1, sectors := 0 }
     let s := { up with jrn := { compact := some k } }
     s.jrn.compact = some k ∧ k.step = 1 ∧ k.sectors = 0 ∧ s.dip = false ∧ (s.bankHeader 1).isSome = false ∧ (s.reg (rJRN_WEAR s.jrn.live)).toNat + 1 ≤ 90000 ∧
       64 ≤ ({ step := 1, sectors := 63 } : Compact).sectors + 1 ∧ ({ step := 2 } : Compact).step ≠ 1 ∧
       90000 < ((s.setReg (rJRN_WEAR 0) 90000).reg (rJRN_WEAR 0)).toNat + 1) ∧
    (up.jrn.append + (up.object 5 0).length + 3 ≤ 65536 ∧ up.dip = false) ∧
    (let c := begun 0x91 (1 <<< 96) 1
     mayRun 0x91 (1 <<< 96) 1 = true ∧ (has c).bufReady c.ord = false ∧ ({ has c with regs := linked.regs } : State).bufReady c.ord = true ∧
       runsB (has { c with failed := true }) 0x91 0 { c with failed := true } = true ∧ mayRun 0x90 0 1 = true ∧ mayRun 0x93 0 1 = true ∧
       mayRun 0x92 ((0x80 <<< 64) + (90 <<< 80)) 2 = true ∧
       (let d := begun 0x92 ((0x80 <<< 64) + (90 <<< 80)) 1
        runsB (has { d with failed := true }) 0x92 0 { d with failed := true } = true ∧ runsB (has { d with need := 8 }) 0x92 0 { d with need := 8 } = true ∧
          ({ d with need := 8 } : Cmd).ready = false)) := by decide +kernel

theorem witness_StartupAndRequests :
    (∀ b ∈ [0, 1, 2, 3, 4, 5, 6, 7], ({ State.reset with boot := b } : State).boot = b ∧ ({ State.reset with boot := b } : State).held = false) ∧
    (let s := { State.reset with boot := 3, pwr := { testmode := true } }
     s.vendorStop = true ∧ ({ s with pwr := {} } : State).vendorStop = false ∧ (State.reset.refChoice false false = 0) ∧ State.reset.refChoice true true ≠ 0) ∧
    (let s := { up with held := true, pwr := { overheat := true } }
     s.held = true ∧ s.pwr.overheat = true ∧ (0x1AB : Fin 1024).val < 0x1AC ∧ ({ s with pwr := {} } : State).pwr.overheat = false) ∧
    (let s := { up with dip := true, time := 64000 }
     s.time % 64 = 0 ∧ s.holdAt = none ∧ s.holdOffAt + 10000 ≤ s.time ∧ s.warnLevel + s.warnHyst ≤ (1023 : Fin 1024).val ∧
       ({ s with time := 64 } : State).time < ({ s with time := 64 } : State).holdOffAt + 10000) ∧
    (let s := { up with pwr := { up.pwr with brownAt := some 0 } }
     s.pwr.brownAt = some 0 ∧ (({ s with safePend := true } : State).safePend = true)) ∧
    (up.runJudge 1 = 6 ∧ up.runJudge 2 = 0 ∧ up.runJudge 3 = 1 ∧ ({ up with run := 1 } : State).runJudge 1 = 0 ∧ ({ up with run := 2 } : State).runJudge 1 = 4 ∧
      (up.setReg rAON_WATCH 0xFFFFFFFF).runJudge 3 = 0 ∧ ({ up.setReg rAON_WATCH 0xFFFFFFFF with run := 1 } : State).runJudge 3 = 0 ∧
      ({ up with dip := true } : State).runJudge 2 = 3 ∧ up.drains = false ∧ linked.drains = true) ∧
    (linked.barOk = true ∧ up.barOk = false ∧ linked.barWait = [] ∧ ({ linked with barWait := [(0, 0)] } : State).barWait ≠ [] ∧
      ({ up with master := false } : State).master = false ∧ linked.trayWait (4 * (0xDC0 : Fin 0x4000).val) = false) := by decide +kernel

/-! ### Words and values the spec prints -/

/-- Table 13.5: SET pin directions, FLAG wait, MOV SH from TIME, PUSH WAIT, SET with TRAIL 1, IN TPIN 1, JMP X to 11. -/
theorem test_table_13_5 :
    pzDecode 0x7107 = some (.set 1 7, 0) ∧ pzDecode 0x8384 = some (.flagWait true 4, 0) ∧ pzDecode 0x8304 = some (.flagWait false 4, 0) ∧
    pzDecode 0x61D0 = some (.mov 3 5 0, 0) ∧ pzDecode 0x4200 = some (.push true false false, 0) ∧ pzDecode 0x4280 = some (.push true false true, 0) ∧
    pzDecode 0x720F = some (.set 2 15, 0) ∧ pzDecode 0x7400 = some (.set 0 0, 1) ∧ pzDecode 0x7804 = some (.set 0 4, 2) ∧
    (pzDecode 0x2301).map (fun p => (p.1.op, p.2)) = some (2, 0) ∧ pzDecode 0x008B = some (.jmp 2 11, 0) ∧ pzDecode 0x0002 = some (.jmp 0 2, 0) := by
  decide +kernel

/-- Table 2.16: entries 0 and 12 of Engine A's tooth table. -/
theorem test_table_2_16 :
    teAngle 0x04600000 = 0 ∧ teGap 0x04600000 = 2 ∧ teSync 0x04600000 = true ∧ tePcls 0x04600000 = 1 ∧ teInsOk 0x04600000 = false ∧
    teAngle 0x1080C000 = 0xC000 ∧ teCam 0x1080C000 0 = true ∧ teCam 0x1080C000 1 = false ∧ teInsOk 0x1080C000 = true := by decide +kernel

/-- Table 3.3: the fit at entry 23 of Engine B gives ω = 36.9023 au/µs, α = 0.0613 au/µs per ms, and the next period 208,081 ns. -/
theorem test_table_3_3 :
    let f := fit3 12 1 208297 208225 208153 122880 122880 122880
    roundDiv (f.om * 10000) (2 ^ 20) = 369023 ∧ roundDiv (f.al.toNat * 10000) (2 ^ 20) = 613 ∧
      (periodTo f.om f.a 122880).near 1 1 = some 208081 := by decide +kernel

/-- Chapter 8's duty example: S = 1 ms and B = 3 ms. -/
theorem test_duty_example : (up.setReg (rDIAG_DUTY 2) 0xE00040C0).subLen 2 = 1000000 ∧ (up.setReg (rDIAG_DUTY 2) 0xE00040C0).dutyBudget 2 = 3000000 := by
  decide +kernel

/-- R413: the all-zero value is a codeword and reads as zero; α at symbol 0 alone is corrected. -/
theorem test_zero_codeword : eccEncode 0 = 0 ∧ eccRead 0 = (0, .plain) ∧ eccRead 2 = (0, .corrected) := by decide +kernel

/-! ### Single steps -/

/-- A step takes the front command: a TAKE of ADOM[0] leaves the second command waiting. -/
theorem test_step_front : (match step { up with pending := [.take 0, .take 1] } with
    | .next t => decide (t.pending.length = 1) && (t.dom 0).take && !(t.dom 1).take | _ => false) = true := by decide +kernel

/-- TIME wraps at 2^64 (R8). -/
theorem test_time_wraps : (match step { up with time := 2 ^ 64 - 4 } with | .next t => t.time | _ => 1) = 0 := by decide +kernel

/-- A host request for SAFE latches its cause (R463, Table 18.3). -/
theorem test_host_request : (match exec .hostReq { up with run := 2 } with | .next t => t.rb rSAFE_CAUSE 9 | _ => false) = true := by decide +kernel

/-- Start-up from reset reaches READY with the seventh step, and no sooner (R452). -/
theorem test_startup : (match exec (.startupStep false false true false 15) { State.reset with boot := 6 } with | .next t => t.live | _ => false) = true ∧
    State.reset.live = false := by decide +kernel


/-- TESTMODE holds an unsealed part after step 3 (R480). -/
theorem test_vendor_stop : ({ State.reset with boot := 3, pwr := { State.reset.pwr with testmode := true } } : State).vendorStop = true ∧
    ({ State.reset with boot := 3 } : State).vendorStop = false := by decide +kernel
end Sys2Proof.Tests
end

section
/-! SUPPORT. One core cycle on an empty queue (R8, R15, log entry 1): what `State.tick` does while nothing counts, during start-up and
while the main domain runs, and the statement about `step` that follows. -/

namespace Sys2Proof.Machine

variable {s : State}

theorem State.live_iff : s.live = true ↔ 7 ≤ s.boot ∧ s.watch = false ∧ s.held = false := by
  simp [State.live, and_assoc]

theorem State.not_live_of_boot_lt (h : s.boot < 7) : s.live = false := by
  rw [← Bool.not_eq_true, State.live_iff]
  omega

theorem step_of_pending_nil (h : s.pending = []) : step s = .next s.tick := by
  simp [step, h]

/-- The end of a core cycle changes of the timer bank the timers, the pins it remembers and the marks that were seen (R379). -/
theorem State.tmrTick_frame (s : State) :
    ∃ u, s.tmrTick = { s with tmrs := u, pinPrev := s.pinIn, actMarks := s.actMarks.filter (fun m => s.time < m.1) } := by
  unfold State.tmrTick
  extract_lets r
  obtain ⟨u, hu⟩ : ∃ u, r = { s with tmrs := u } := by
    apply foldl_tmrs
    intro s t
    dsimp only
    split
    · split
      · exact ⟨_, rfl⟩
      · split
        · exact ⟨_, rfl⟩
        · exact ⟨s.tmrs, rfl⟩
    · exact ⟨s.tmrs, rfl⟩
  exact ⟨u, by rw [hu]⟩

theorem State.tick_of_stopped (h : s.watch = true ∨ s.held = true) : s.tick = s := by
  simp [State.tick, h]

theorem State.tick_of_unlocked (hw : s.watch = false) (hh : s.held = false) (hb : s.boot < 2) : s.tick = { s with setNow := [] } := by
  have hl : s.live = false := State.not_live_of_boot_lt (by omega)
  simp [State.tick, hw, hh, hl, hb]

theorem State.tick_of_startup (hw : s.watch = false) (hh : s.held = false) (h2 : 2 ≤ s.boot) (h7 : s.boot < 7) :
    s.tick = { s with time := (s.time + 4) % 2 ^ 64, setNow := [] } := by
  simp [State.tick, hw, hh, State.not_live_of_boot_lt h7, h2]

/-- While the main domain runs, a core cycle changes the timers and what they remember, the flags, TIME and what holds off a write; every
other field stays. -/
theorem State.tick_of_live (hl : s.live = true) :
    ∃ u w, s.tick = { s with
      tmrs := u, pinPrev := s.pinIn, actMarks := s.actMarks.filter (fun m => s.time < m.1)
      flags := w, flagsPrev := s.flagsVis, flagsVis := w, flagQ := s.flagQ.filter (fun q => s.time < q.1)
      time := (s.time + 4) % 2 ^ 64, setNow := [] } := by
  obtain ⟨hb, hw, hh⟩ := State.live_iff.1 hl
  obtain ⟨u, hu⟩ := s.tmrTick_frame
  have h2 : 2 ≤ s.boot := by omega
  exact ⟨u, _, by simp [State.tick, hw, hh, hl, hu, State.flagsTick, h2]; rfl⟩

/-- Settles O2: the stages of start-up in turn, WATCH and a held reset first; from boot 7 on the main domain runs. -/
theorem idleStepIsOneCoreCycle : Obligations.IdleStepIsOneCoreCycle := by
  intro s hp
  rw [step_of_pending_nil hp]
  refine ⟨fun h => by rw [State.tick_of_stopped h], fun hw hh hb => by rw [State.tick_of_unlocked hw hh hb],
    fun hw hh h2 => ⟨s.tick, rfl, ?_⟩⟩
  by_cases h7 : s.boot < 7
  · rw [State.tick_of_startup hw hh h2 h7]
    exact ⟨rfl, rfl, hp, rfl, fun _ => rfl, fun h => absurd h7 (by omega)⟩
  · obtain ⟨u, w, ht⟩ := State.tick_of_live (State.live_iff.2 ⟨by omega, hw, hh⟩)
    rw [ht]
    exact ⟨rfl, rfl, hp, rfl, fun h => absurd h h7, fun _ => rfl⟩

end Sys2Proof.Machine
end

section
/-! SUPPORT. What a command answers by whether the main domain runs (R32, R439, R452, log entry 2), and the statement that follows. -/

namespace Sys2Proof.Machine

variable {s : State}

/-- What a command of the running main domain answers (log entry 2). -/
theorem execute_live (f : State → State) (hl : s.live = true) : execute f s = .next (f s).settle := by
  simp [execute, hl]

/-- A vendor test while the main domain does not run is not even judged (R317). -/
theorem execVendorTest_idle (e : Fin 64) (hl : s.live = false) : execVendorTest e s = .next s := by
  unfold execVendorTest
  split
  · rw [if_neg (by simp [hl])]
    exact execute_idle s _ hl
  · exact execute_idle s _ hl

/-- Settles O5: every other command is one of the running main domain, and a vendor test is not judged. -/
theorem nothingElseActsWhileTheDomainIsDown : Obligations.NothingElseActsWhileTheDomainIsDown := by
  intro c s hl hlone hBrownout hUnder hFail hShell hWake hMotion hStartup hSafeN
  cases c
  case powerOnReset | trstReset | brownout | resetRelease | pllUnlock | pllRelock => simp at hlone
  case brownoutReset b => exact absurd rfl (hBrownout b)
  case railUndervoltage r => exact absurd rfl (hUnder r)
  case railFailure r => exact absurd rfl (hFail r)
  case shellTempSample x => exact absurd rfl (hShell x)
  case watchWake x t => exact absurd rfl (hWake x t)
  case wakeMotionEdge w x => exact absurd rfl (hMotion w x)
  case startupStep a b d e f => exact absurd rfl (hStartup a b d e f)
  case safeNLow l => exact absurd rfl (hSafeN l)
  case vendorTest e => exact execVendorTest_idle e hl
  all_goals
    simp only [exec]
    exact execute_idle s _ hl

end Sys2Proof.Machine
end

section
/-! SUPPORT. The slot of an angle domain: presented edges, ring frames and due cam spans (chapter 3), and the statement about them. -/

namespace Sys2Proof.Machine

variable {s : State}

/-! ### The slot (R24, R64, R344) -/

theorem domSlotAt_iff {d t : Nat} : domSlotAt d t = true ↔ t % 16 = 4 * d := by
  simp [domSlotAt]

theorem exec_domainSlot (d : Fin 4) (hl : s.live = true) : exec (.domainSlot d) s =
    .next (if domSlotAt d s.time then (if s.domRing d then s.ringSlot d else s.wheelSlot d).angleTx d else s).settle := by
  simp only [exec, execDomainSlot, execute_live _ hl]

theorem exec_domainSlot_outside (d : Fin 4) (hl : s.live = true) (ht : s.time % 16 ≠ 4 * d.val) : exec (.domainSlot d) s = .next s.settle := by
  rw [exec_domainSlot d hl, if_neg (by simpa [domSlotAt_iff] using ht)]

theorem exec_domainSlot_wheel (d : Fin 4) (hl : s.live = true) (ht : s.time % 16 = 4 * d.val) (hr : s.domRing d = false) :
    exec (.domainSlot d) s = .next ((s.wheelSlot d).angleTx d).settle := by
  rw [exec_domainSlot d hl, if_pos (domSlotAt_iff.2 ht), if_neg (by simp [hr])]

theorem exec_domainSlot_ring (d : Fin 4) (hl : s.live = true) (ht : s.time % 16 = 4 * d.val) (hr : s.domRing d = true) :
    exec (.domainSlot d) s = .next ((s.ringSlot d).angleTx d).settle := by
  rw [exec_domainSlot d hl, if_pos (domSlotAt_iff.2 ht), if_pos hr]

/-- With no TAKE, no learned correction and no row 1 pending, a slot only takes edges. -/
theorem State.wheelSlot_of_quiet {d : Nat} (hen : s.domEn d = true) (htake : (s.dom d).take = false) (hlrn : (s.dom d).lrnPend = [])
    (hrow : (s.dom d).row1 = none) : s.wheelSlot d = s.takeEdges d := by
  have hsnap : s.takeSnap d = s := by simp [State.takeSnap, htake]
  have hcorr : s.lrnApply d = s := by simp [State.lrnApply, hlrn]
  have hrow1 : s.row1 d = s := by simp [State.row1, hrow]
  simp [State.wheelSlot, hsnap, hcorr, hrow1, hen]

/-! ### Presented edges (R65, R81) -/

theorem State.takeEdges_reverse {d : Nat} (h : ∃ e ∈ (s.dom d).inbox.filter (fun e => e.pres ≤ s.time), 2 ≤ e.dir) :
    s.takeEdges d = (s.setDom d { s.dom d with inbox := (s.dom d).inbox.filter (fun e => s.time < e.pres) }).domReverse d s.time := by
  rw [State.takeEdges]
  obtain ⟨e, he, hdir⟩ := h
  exact if_pos (List.any_eq_true.2 ⟨e, he, decide_eq_true hdir⟩)

theorem State.takeEdges_forward {d : Nat} (h : ∀ e ∈ (s.dom d).inbox.filter (fun e => e.pres ≤ s.time), e.dir < 2) :
    s.takeEdges d = (sortBy (fun e => 2 * e.ts + (if e.role = 1 then 1 else 0)) ((s.dom d).inbox.filter (fun e => e.pres ≤ s.time))).foldl
      (fun x e => if e.role = 1 then x.crankEdge d s.time e else x.camEdge d e)
      (s.setDom d { s.dom d with inbox := (s.dom d).inbox.filter (fun e => s.time < e.pres) }) := by
  rw [State.takeEdges]
  refine if_neg fun hany => ?_
  obtain ⟨e, he, hdir⟩ := List.any_eq_true.1 hany
  exact absurd (h e he) (Nat.not_lt.2 (of_decide_eq_true hdir))

theorem State.takeEdges_one_crank {d : Nat} {e : WEdge} (hin : (s.dom d).inbox = [e]) (hpres : e.pres ≤ s.time) (hrole : e.role = 1)
    (hdir : e.dir < 2) : s.takeEdges d = (s.setDom d { s.dom d with inbox := [] }).crankEdge d s.time e := by
  rw [State.takeEdges_forward (by simpa [hin, hpres] using hdir)]
  simp [hin, hpres, hrole, sortBy, insertBy, Nat.not_lt.2 hpres]

theorem State.takeEdges_one_reverse {d : Nat} {e : WEdge} (hin : (s.dom d).inbox = [e]) (hpres : e.pres ≤ s.time)
    (hdir : 2 ≤ e.dir) : s.takeEdges d = (s.setDom d { s.dom d with inbox := [] }).domReverse d s.time := by
  rw [State.takeEdges_reverse ⟨e, by simp [hin, hpres], hdir⟩]
  simp [hin, hpres]

/-- Row 15 of Table 3.2: the first crank edge of an UNSYNC domain with a valid table begins the search. -/
theorem State.crankEdge_unsync {d t : Nat} {e : WEdge} (hst : (s.dom d).cur.st = 0) (htab : (s.dom d).tableValid = true) :
    s.crankEdge d t e = s.domSeek d t none [e.ts] := by
  simp [State.crankEdge, hst, htab]

/-! ### Cam spans (R71, R72) -/

theorem State.camSpans_of_due {d t n : Nat} {y : Span} {l : List Span} (hs : (s.dom d).spans = y :: l) (hdue : y.due ≤ t) :
    s.camSpans d t (n + 1) = (s.camSpan d t y).camSpans d t n := by
  rw [State.camSpans, hs]
  exact if_pos hdue

theorem State.camSpans_of_not_due {d t n : Nat} {y : Span} {l : List Span} (hs : (s.dom d).spans = y :: l) (hdue : t < y.due) :
    s.camSpans d t (n + 1) = s := by
  rw [State.camSpans, hs]
  exact if_neg (Nat.not_le.2 hdue)

section
variable {d t : Nat} {y : Span} {l : List Span} {cams : List Nat} {whole : Bool} {u : State}
  (hs : (s.dom d).spans = y :: l)
  (hcams : cams = ((s.dom d).camEdges.filter (fun e => y.start < e.1 && e.1 ≤ y.fin)).map (fun e => e.2))
  (hwhole : whole = decide ((s.dom d).obsFrom ≤ y.start))
  (hu : u = s.setDom d { s.dom d with camEdges := (s.dom d).camEdges.filter (fun e => y.fin < e.1), spans := l })
include hs hcams hwhole hu

/-- A span of a domain in CRANK_SYNC is judged against both hypotheses, its cam edges taken (R71). -/
theorem State.camSpan_crankSync (hst : (s.dom d).cur.st = 2) {h0 h1 : Bool} (hh0 : h0 = ((s.dom d).hyp0 && u.camOk d y.entry cams whole))
    (hh1 : h1 = ((s.dom d).hyp1 && (match u.partner d y.entry with | some i => u.camOk d i cams whole | none => false))) :
    s.camSpan d t y =
      if (u.camInputs d).isEmpty then u
      else if h0 && h1 then u
      else if h0 then u.setSync d t 3
      else if h1 then (u.setSync d t 3).moveHalf d t
      else (u.setDom d { u.dom d with hyp0 := true, hyp1 := true, obsFrom := y.fin }).camError d := by
  have hdrop : l = (s.dom d).spans.drop 1 := by rw [hs, List.drop_one, List.tail_cons]
  rw [hh0, hh1, hu, hcams, hwhole, hdrop, State.camSpan]
  simp only [State.dom_setDom_self]
  exact if_pos hst

/-- A span of a domain in FULL_SYNC: its first failure in a cycle counts, and drops the domain where the cycle before failed (R72). -/
theorem State.camSpan_fullSync (hst : (s.dom d).cur.st = 3) {first : Bool} {v : State}
    (hfirst : first = (!u.camOk d y.entry cams whole && !(s.dom d).camFail))
    (hv : v = if first then (u.setDom d { u.dom d with camFail := true, camRun := (s.dom d).camRun + 1 }).camError d else u) :
    s.camSpan d t y =
      if first && decide (1 ≤ (s.dom d).camRun) then
        ((v.setDom d { v.dom d with lastCause := 8, obsFrom := y.fin }).setSync d t 2).domLoss d 2 true
      else if y.wraps then v.setDom d { v.dom d with camFail := false, camRun := if (v.dom d).camFail then (v.dom d).camRun else 0 }
      else v := by
  have hdrop : l = (s.dom d).spans.drop 1 := by rw [hs, List.drop_one, List.tail_cons]
  rw [hv, hfirst, hu, hcams, hwhole, hdrop, State.camSpan]
  simp only [State.dom_setDom_self]
  exact (if_neg (by rw [hst]; decide)).trans (if_pos hst)

end

theorem exec_camSpanDecision (d : Fin 4) (hl : s.live = true) (ht : s.time % 16 = 4 * d.val) (hen : s.domEn d = true)
    (hr : s.domRing d = false) :
    exec (.camSpanDecision d) s = .next ((s.camSpans d s.time (s.dom d).spans.length).angleTx d).settle := by
  have hslot : domSlotAt d s.time = true := domSlotAt_iff.2 ht
  simp only [exec, execCamSpanDecision, execute_live _ hl, State.camDecide, hslot, hen, hr]
  rfl

/-- Settles O12: the slot, the presented edges, the due spans, and one span's judgement. -/
theorem domainSlotTakesEdgesAndCamSpans : Obligations.DomainSlotTakesEdgesAndCamSpans := by
  refine ⟨fun s d hl => ⟨exec_domainSlot_outside d hl, fun ht => ⟨fun hr u hu => ?_, fun hr u v hu hv => ?_⟩,
      fun e ht hr hen htake hlrn hrow hin hpres hrole => ⟨fun hdir hst htab => ?_, fun hdir => ?_⟩⟩,
    fun s d => ⟨State.takeEdges_reverse, State.takeEdges_forward⟩, fun s d => exec_camSpanDecision d,
    fun s d t n y l hs => ⟨State.camSpans_of_due hs, State.camSpans_of_not_due hs, fun cams whole u hcams hwhole hu =>
      ⟨fun hst hin h0 h1 hh0 hh1 => ?_, fun hst hin => ?_, fun hst hfail hfirst hrun v hv => ?_⟩⟩⟩
  · rw [exec_domainSlot_wheel d hl ht hr, hu]
    rfl
  · rw [exec_domainSlot_ring d hl ht hr, hv, hu]
    rfl
  · rw [exec_domainSlot_wheel d hl ht hr, State.wheelSlot_of_quiet hen htake hlrn hrow, State.takeEdges_one_crank hin hpres hrole hdir,
      State.crankEdge_unsync hst htab]
  · rw [exec_domainSlot_wheel d hl ht hr, State.wheelSlot_of_quiet hen htake hlrn hrow, State.takeEdges_one_reverse hin hpres hdir]
  · rw [State.camSpan_crankSync hs hcams hwhole hu hst hh0 hh1, if_neg (by simpa using hin)]
    refine ⟨fun e0 e1 => ?_, fun e0 e1 => ?_, fun e0 e1 => ?_, fun e0 e1 => ?_⟩ <;> simp [e0, e1]
  · rw [State.camSpan_crankSync hs hcams hwhole hu hst rfl rfl, if_pos (by simp [hin])]
  · rw [State.camSpan_fullSync hs hcams hwhole hu hst (first := true) (by simp [hfail, hfirst]) hv, if_pos (by simpa using hrun)]

end Sys2Proof.Machine
end

section
/-! SUPPORT. The solver slot of an actuator: one slot's solution, the slot's stages and SCHED_PEEK (chapter 4), and the statement about them. -/

namespace Sys2Proof.Machine

variable {s : State}

/-! ### Solving one slot (R101, R104, R111) -/

theorem State.solve_of_idle {a k : Nat} (h : (s.slot a k).st = 0 ∨ (s.slot a k).st = 2 ∨ 5 ≤ (s.slot a k).st) : s.solve a k = s := by
  have h1 : (s.slot a k).st ≠ 1 := by omega
  have h3 : (s.slot a k).st ≠ 3 := by omega
  have h4 : (s.slot a k).st ≠ 4 := by omega
  simp [State.solve, h1, h3, h4]

/-- A WAITING start that is locked keeps its start. -/
theorem State.solve_of_locked_waiting {a k : Nat} (hst : (s.slot a k).st = 3) (hlock : (s.slot a k).locked ≠ none)
    (hfire : (s.slot a k).fire = none) :
    s.solve a k = s.setSlot a k
      { s.moved (s.slot a k) with passed := (s.compute a (s.slot a k)).passed, tE := (s.compute a (s.slot a k)).tE } := by
  simp [State.solve, hst, hlock, hfire]

/-- The frame after the one a core cycle lies in begins after the next core cycle. -/
theorem add_four_le_frameOf {t : Nat} (h : t % 4 = 0) : t + 4 ≤ frameOf t + 64 := by
  unfold frameOf floorTo
  omega

/-- A start beyond the present frame is neither due nor locked, so solving an ARMED slot computes its times and no more. -/
theorem State.solve_of_armed_beyond_frame {a k : Nat} (ht : s.time % 4 = 0) (hst : (s.slot a k).st = 1) (hlock : (s.slot a k).locked = none)
    (hfire : (s.slot a k).fire = none) (hpassed : (s.compute a (s.slot a k)).passed = false)
    (hbeyond : (s.compute a (s.slot a k)).inForce = true → ((frameOf s.time + 64 : Nat) : Int) ≤ (s.compute a (s.slot a k)).tS) :
    s.solve a k = s.setSlot a k { s.compute a (s.slot a k) with st := 1, bankWait := false, locked := none } := by
  have hnext := add_four_le_frameOf ht
  cases hforce : (s.compute a (s.slot a k)).inForce with
  | false => simp [State.solve, hst, hlock, hfire, hpassed, hforce]
  | true =>
    have hb := hbeyond hforce
    have hdue : ¬ (s.compute a (s.slot a k)).tS < (s.time : Int) + 4 := by omega
    have hin : ¬ (s.compute a (s.slot a k)).tS < (frameOf s.time : Int) + 64 := by omega
    simp [State.solve, hst, hlock, hfire, hpassed, hforce, hdue, hin]

/-! ### The solver slot (R22, R113, R124) -/

theorem State.solverSlot_outside {a : Nat} (h : s.time % 64 ≠ 4 * (a % 16)) : s.solverSlot a = s := by
  simp [State.solverSlot, solverSlotAt, h]

/-- The solver slot as its stages: permits and solutions, ends that lock, starts judged, and the PEEK asked for. -/
theorem State.solverSlot_inside {a : Nat} {r u v : State} (h : s.time % 64 = 4 * (a % 16))
    (hr : r = (below 8).foldl (fun (x : State) k => (x.permit a k).solve a k) s) (hu : u = r.lockEnds a (r.time + 4))
    (hv : v = (u.dueOrder a).foldl (fun (x : State) k => x.judge a k false) u) :
    s.solverSlot a = if (v.act a).peek = true ∧ v.rf rSCHED_PEEK 14 8 = a
      then (v.setAct a { v.act a with peek := false }).fillPeek a (v.rf rSCHED_PEEK 2 0) else v := by
  unfold State.solverSlot
  rw [if_neg (by simp [solverSlotAt, h]), hv, hu, hr]
  exact if_congr (by rw [Bool.and_eq_true, decide_eq_true_eq]) rfl rfl

theorem exec_solverSlot (a : Fin 96) (hl : s.live = true) : exec (.solverSlot a) s = .next (s.solverSlot a).settle := by
  simp only [exec, execSolverSlot]
  exact execute_live _ hl

theorem exec_schedPeekWrite (v : Word) (hl : s.live = true) : exec (.schedPeekWrite v) s = .next (s.peekWrite v).settle := by
  simp only [exec, execSchedPeekWrite]
  exact execute_live _ hl

/-- Settles O15: the solver slot's stages, one slot's solution, and the write of SCHED_PEEK. -/
theorem solverSlotComputesAndPeeks : Obligations.SolverSlotComputesAndPeeks := by
  refine ⟨fun s a hl => ⟨fun hout => ?_, fun hin r u v hr hu hv => ?_⟩, fun s a k => ⟨?_, ?_, State.solve_of_idle⟩,
    fun s v hl u hu => ⟨fun hact => ?_, fun hnone => ?_⟩⟩
  · rw [exec_solverSlot a hl, State.solverSlot_outside hout]
  · rw [exec_solverSlot a hl, State.solverSlot_inside hin hr hu hv]
    refine ⟨fun hpeek => by rw [if_pos hpeek], fun hno => ?_⟩
    rw [if_neg (fun hpeek => hno.elim (by simp [hpeek.1]) (fun hne => hne hpeek.2))]
  · exact State.solve_of_armed_beyond_frame
  · exact State.solve_of_locked_waiting
  · subst hu
    rw [exec_schedPeekWrite v hl, State.peekWrite, if_neg (by omega)]
    rfl
  · subst hu
    rw [exec_schedPeekWrite v hl, State.peekWrite, if_pos hnone]

end Sys2Proof.Machine
end

section
/-! SUPPORT. Requests of a run state, the ends of the sequences and the frame start (chapters 17 and 18), and the statement about them. -/

namespace Sys2Proof.Machine

variable {s : State}

/-! ### Requests of a run state (R34, R445, Table 17.3) -/

/-- A bit that is clear in the word written is written 1 to nothing. -/
theorem bit_clears_of_clear (a : Nat) (v : Word) (b : Nat) (h : bit v b = false) : bit (s.clears a v) b = false := by
  rw [bit_eq_testBit] at h ⊢
  simp [State.clears, h]

/-- A write of RUN_CTRL that asks for a run state and clears nothing leaves the request waiting. -/
theorem State.runCtrlWrite_request (v : Word) (hrej : bit v 26 = false) (hreq : fld v 31 30 ≠ 0) :
    s.runCtrlWrite v = { s with pwr := { s.pwr with req := fld v 31 30 } } := by
  simp [State.runCtrlWrite, bit_clears_of_clear _ v 26 hrej, hreq]

theorem execute_runCtrlWrite {v : Word} (hl : s.live = true) (hrej : bit v 26 = false) (hreq : fld v 31 30 ≠ 0) :
    execute (fun s => s.runCtrlWrite v) s = .next ({ s with pwr := { s.pwr with req := fld v 31 30 } } : State).settle := by
  rw [execute_live _ hl, State.runCtrlWrite_request v hrej hreq]

theorem exec_requestRun (hl : s.live = true) :
    exec .requestRun s = .next ({ s with pwr := { s.pwr with req := 1 } } : State).settle := by
  simp only [exec, execRequestRun]
  exact execute_runCtrlWrite hl (by decide) (by decide)

theorem exec_requestDoze (hl : s.live = true) :
    exec .requestDoze s = .next ({ s with pwr := { s.pwr with req := 2 } } : State).settle := by
  simp only [exec, execRequestDoze]
  exact execute_runCtrlWrite hl (by decide) (by decide)

theorem exec_requestWatch (hl : s.live = true) :
    exec .requestWatch s = .next ({ s with pwr := { s.pwr with req := 3 } } : State).settle := by
  simp only [exec, execRequestWatch]
  exact execute_runCtrlWrite hl (by decide) (by decide)

theorem exec_dozeExitDone (hl : s.live = true) :
    exec .dozeExitDone s = .next (if s.run = 3 ∧ s.time % 64 = 0 ∧ s.pwr.seqAt + 22000 ≤ s.time
      then (({ s with run := 0 } : State).bump rXING_CNT 15 8).barDrain else s).settle := by
  simp only [exec, execDozeExitDone, execute_live _ hl]

/-! ### Entry to WATCH (R447) -/

@[simp] theorem State.jrnCut_pending : s.jrnCut.pending = s.pending := by
  unfold State.jrnCut
  extract_lets f u
  have hu : u.pending = s.pending := by
    unfold u
    split <;> rfl
  clear_value u
  split
  · split
    · extract_lets lo
      exact List.foldlRecOn (motive := fun x : State => x.pending = s.pending) _ _ hu (fun _ hx _ _ => hx)
    · exact hu
  · exact hu

@[simp] theorem State.fuseCut_pending : s.fuseCut.pending = s.pending := by
  unfold State.fuseCut
  split
  · refine List.foldlRecOn (motive := fun x : State => x.pending = s.pending) _ _ rfl (fun x hx i _ => ?_)
    split <;> exact hx
  · rfl
  · rfl

@[simp] theorem State.cleared_pending : s.cleared.pending = s.pending := by
  simp [State.cleared]

/-- A cleared device whose AON island keeps what it holds (R440), KR_CFG.WAKE_FWD too (R351). -/
def State.clearedButAon (s : State) : State :=
  (aonRegs.foldl (fun (b : State) a => b.setReg a (s.reg a)) s.cleared).setRb rKR_CFG 30 (s.rb rKR_CFG 30)

theorem State.clearedButAon_pending : s.clearedButAon.pending = s.pending := by
  simp [State.clearedButAon, aonRegs]

theorem State.clearedButAon_boot : s.clearedButAon.boot = 0 := by
  simp [State.clearedButAon, aonRegs, State.cleared, State.reset]

theorem State.clearedButAon_reg_watch : s.clearedButAon.reg rAON_WATCH = s.reg rAON_WATCH := by
  rw [State.clearedButAon, State.reg_setRb, if_neg (by decide)]
  simp [aonRegs, State.reg_setReg]

/-- The device in WATCH, armed with VSUP at `vs` (R409). -/
def State.asleep (s : State) (vs : Nat) : State := { s with watch := true, aon := { armed := true, vsAt := vs } }

@[simp] theorem State.asleep_watch (vs : Nat) : (s.asleep vs).watch = true := rfl
@[simp] theorem State.asleep_armed (vs : Nat) : (s.asleep vs).aon.armed = true := rfl
@[simp] theorem State.asleep_boot (vs : Nat) : (s.asleep vs).boot = s.boot := rfl
@[simp] theorem State.asleep_pending (vs : Nat) : (s.asleep vs).pending = s.pending := rfl
@[simp] theorem State.asleep_reg (vs a : Nat) : (s.asleep vs).reg a = s.reg a := rfl

/-- No SAFE cause acts while the main domain does not run. -/
theorem State.settle_of_not_live (h : s.live = false) : s.settle = s := by
  simp [State.settle, h]

theorem State.not_live_of_watch (h : s.watch = true) : s.live = false := by
  simp [State.live, h]

theorem State.settle_asleep (vs : Nat) : (s.asleep vs).settle = s.asleep vs :=
  State.settle_of_not_live (State.not_live_of_watch rfl)

theorem exec_watchEntryDone (hl : s.live = true) :
    exec .watchEntryDone s = .next (if s.run = 4 ∧ s.jrn.commit = none ∧ s.jrn.due = [] ∧ (s.hands = [] ∨ s.drains = false)
      then s.clearedButAon.asleep s.vsup else s).settle := by
  simp only [exec, execWatchEntryDone, execute_live _ hl]
  rfl

/-- WATCH is not entered while the journal or the records have work left (R447). -/
theorem exec_watchEntryDone_waits (hl : s.live = true)
    (h : s.run ≠ 4 ∨ s.jrn.commit ≠ none ∨ s.jrn.due ≠ [] ∨ (s.hands ≠ [] ∧ s.drains = true)) : exec .watchEntryDone s = .next s.settle := by
  rw [exec_watchEntryDone hl, if_neg]
  rintro ⟨hrun, hcommit, hdue, hdrain⟩
  rcases hdrain with hdrain | hdrain <;> simp [hrun, hcommit, hdue, hdrain] at h

theorem exec_watchEntryDone_enters (hl : s.live = true) (hrun : s.run = 4) (hcommit : s.jrn.commit = none) (hdue : s.jrn.due = [])
    (hdrain : s.hands = [] ∨ s.drains = false) : exec .watchEntryDone s = .next (s.clearedButAon.asleep s.vsup) := by
  rw [exec_watchEntryDone hl, if_pos ⟨hrun, hcommit, hdue, hdrain⟩, State.settle_asleep]

/-! ### The frame start (R29, R438, R468) -/

theorem exec_frameStart (hl : s.live = true) :
    exec .frameStart s = .next (if s.time % 64 = 0 then s.frameStart.barDrain else s).settle := by
  simp only [exec, execFrameStart, execute_live _ hl]

/-- The frame start's judgements in their order, the locks of the frame last; a frame in RUN adds to the run time. -/
theorem State.frameStart_eq {u w : State} (hu : u = s.fbTick.jrnNote.peekFill)
    (hw : w = ({ u with pwr := { u.pwr with vsupReg := u.reg rPWR_VSUP } } : State).safeTrays.runRequest.safeDone.exitRequest) :
    s.frameStart = (if w.inRun then { w with devLog := { w.devLog with runNs := w.devLog.runNs + 64 } } else w).lockFrame := by
  rw [hw, hu]
  rfl

theorem State.exitJudge_eq_zero_iff : s.exitJudge = 0 ↔
    (s.inSafe = true ∧ s.pwr.safeNLow = false ∧ s.safeActive = 0 ∧ s.rf rSAFE_CAUSE 9 0 = 0 ∧ s.rb rSAFE_STAT 30 = true ∧
      (s.monAuth = 3 → s.rb rSAFE_STAT 25 = true)) := by
  unfold State.exitJudge
  split_ifs <;> simp_all

/-- What becomes of the request that waits, by its judgement `c`: without effect, refused with a reason, or taken (R445). -/
theorem State.runRequest_cases {u : State} {c : Nat} (hu : u = { s with pwr := { s.pwr with req := 0 } }) (hc : c = s.runJudge s.pwr.req)
    (hreq : s.pwr.req ≠ 0) :
    s.runRequest =
      if c = 6 then u
      else if c ≠ 0 then (u.setRf rRUN_CTRL 29 27 c).setRb rRUN_CTRL 26 true
      else if s.pwr.req = 1 then { u.traysUp with run := 3 }
      else if s.pwr.req = 2 then { u.dozeDown with run := 1 }
      else { (if s.run = 1 then u else u.dozeDown).flushAll with run := 4 } := by
  unfold State.runRequest
  rw [if_neg hreq, hc, hu]

/-! ### The statement -/

/-- Settles O54: requests and the ends of the sequences, the frame start's order, the judgement of a request, and the exit from SAFE. -/
theorem runStatesAndFrameStarts : Obligations.RunStatesAndFrameStarts := by
  refine ⟨fun s hl => ⟨exec_requestRun hl, exec_requestDoze hl, exec_requestWatch hl, fun hrun ht hseq => ?_, fun hnot => ?_,
      exec_watchEntryDone_waits hl, fun hrun hcommit hdue hdrain => ⟨_, exec_watchEntryDone_enters hl hrun hcommit hdue hdrain, ?_⟩⟩,
    fun s u w hl => ⟨fun ht => ?_, fun ht hu hw => ⟨fun hrun => ?_, fun hrun => ?_⟩⟩,
    fun s u c hu hc => ⟨fun hreq => ?_, fun hreq => ?_⟩, fun s => ⟨fun hreq => ?_, State.exitJudge_eq_zero_iff⟩⟩
  · rw [exec_dozeExitDone hl, if_pos ⟨hrun, ht, hseq⟩]
  · rw [exec_dozeExitDone hl, if_neg (by omega)]
  · exact ⟨State.asleep_watch _, State.asleep_armed _, (State.asleep_boot _).trans State.clearedButAon_boot,
      (State.asleep_pending _).trans State.clearedButAon_pending, (State.asleep_reg _ _).trans State.clearedButAon_reg_watch⟩
  · rw [exec_frameStart hl, if_neg ht]
  · rw [exec_frameStart hl, if_pos ht, State.frameStart_eq hu hw, if_pos (by simp [State.inRun, hrun])]
  · rw [exec_frameStart hl, if_pos ht, State.frameStart_eq hu hw, if_neg (by simp [State.inRun, hrun])]
  · simp [State.runRequest, hreq]
  · rw [State.runRequest_cases hu hc hreq]
    refine ⟨fun h6 => ?_, fun h1 h5 => ?_, fun h0 h1 => ?_, fun h0 h2 => ?_, fun h0 h3 hdoze => ?_, fun h0 h3 hdoze => ?_⟩
    · rw [if_pos h6]
    · rw [if_neg (by omega), if_pos (by omega)]
    · simp [h0, h1]
    · simp [h0, h2]
    · simp [h0, h3, hdoze]
    · simp [h0, h3, hdoze]
  · simp [State.exitRequest, hreq]

end Sys2Proof.Machine
end

section
/-! SUPPORT. The wheel front ends (chapter 2): what a comparator's switching, the end of a filter hold, VR arming and decay, the end of a
pulse and the writes of settings do, and the statements about them. -/

namespace Sys2Proof.Machine

variable {s : State} {n : Nat}

/-! ### Reads that a write elsewhere leaves -/

theorem State.rb_setReg_of_ne {a b : Nat} (v : Word) (k : Nat) (h : b ≠ a) : (s.setReg a v).rb b k = s.rb b k := by
  rw [State.rb, State.reg_setReg, if_neg h]
  rfl

theorem State.rf_setReg_of_ne {a b : Nat} (v : Word) (hi lo : Nat) (h : b ≠ a) : (s.setReg a v).rf b hi lo = s.rf b hi lo := by
  rw [State.rf, State.reg_setReg, if_neg h]
  rfl

/-- The settings of wheels and domains stand at multiples of 0x40, the edge counters between them. -/
theorem whlCfg_ne_whlCntEdge (m : Nat) : rWHL_CFG m ≠ rWHL_CNT_EDGE n := by
  simp only [rWHL_CFG, rWHL_CNT_EDGE]
  omega

theorem adomCfg_ne_whlCntEdge (d : Nat) : rADOM_CFG d ≠ rWHL_CNT_EDGE n := by
  simp only [rADOM_CFG, rWHL_CNT_EDGE]
  omega

@[simp] theorem State.whlRole_setReg_cntEdge (v : Word) (m : Nat) : (s.setReg (rWHL_CNT_EDGE n) v).whlRole m = s.whlRole m := by
  simp only [State.whlRole, State.rf_setReg_of_ne v _ _ (whlCfg_ne_whlCntEdge m)]

/-- The edge counters have no part in which inputs are active (R46). -/
@[simp] theorem State.whlActive_setReg_cntEdge (v : Word) (m : Nat) :
    (s.setReg (rWHL_CNT_EDGE n) v).whlActive m = s.whlActive m := by
  simp only [State.whlActive, State.whlConflict, State.whlRole_setReg_cntEdge,
    State.rb_setReg_of_ne v _ (whlCfg_ne_whlCntEdge _), State.rf_setReg_of_ne v _ _ (whlCfg_ne_whlCntEdge _)]

@[simp] theorem State.domWheels_setReg_cntEdge (v : Word) (d : Nat) :
    (s.setReg (rWHL_CNT_EDGE n) v).domWheels d = s.domWheels d := by
  simp only [State.domWheels, State.rb_setReg_of_ne v _ (adomCfg_ne_whlCntEdge d)]

/-- The counters of rejected edges have no part in a timestamp (R40). -/
@[simp] theorem State.whlStamp_bump_rej (hi lo t : Nat) : (s.bump (rWHL_CNT_REJ n) hi lo).whlStamp n t = s.whlStamp n t := by
  have hne : rWHL_FILT n ≠ rWHL_CNT_REJ n := by
    simp only [rWHL_FILT, rWHL_CNT_REJ]
    omega
  simp only [State.whlStamp, State.bump, State.bumpN, State.rf_setReg_of_ne _ _ _ hne]

/-- Of an input's state the hold-off reads its reference alone (R41). -/
theorem State.inBlank_setWheel {w : Wheel} (hw : w.blankRef = (s.wheel n).blankRef) (ts : Nat) :
    (s.setWheel n w).inBlank n ts = s.inBlank n ts := by
  simp only [State.inBlank, State.wheel_setWheel_self, hw]
  rfl

/-! ### Levels and filter times (R37 to R39) -/

theorem State.mvActive_hall (hh : s.whlHall n = true) (mv : Int) : s.mvActive n mv =
    if s.whlPol n then decide ((hallThr (s.rf (rWHL_HALL n) 1 0)).1 ≤ mv) else decide (mv ≤ (hallThr (s.rf (rWHL_HALL n) 1 0)).2) :=
  if_pos hh

theorem State.mvActive_vr (hh : s.whlHall n = false) (mv : Int) : s.mvActive n mv =
    if s.whlPol n then decide (zcHyst (s.rf (rWHL_VR n) 11 10) < mv) else decide (mv < -zcHyst (s.rf (rWHL_VR n) 11 10)) :=
  if_neg (by simp [hh])

/-- The filter time doubles with each code up to 12 and stays from there on (Table 2.2). -/
theorem filtTime_eq (f : Nat) : filtTime f = if f = 0 then 0 else if f ≤ 12 then 2 ^ (f + 3) else 32768 := by
  unfold filtTime
  by_cases h : f ≤ 12
  · rw [if_pos h, Nat.min_eq_left h]
  · rw [if_neg h, Nat.min_eq_right (by omega)]
    rfl

/-! ### The comparator switches (R37 to R39) -/

theorem exec_comparatorTransition (n : Fin 16) (x : Crossing) (hl : s.live = true) :
    exec (.comparatorTransition n x) s = .next (s.whlActivate n (s.time + x.ofs) x.mv.toInt).settle := by
  simp only [exec, execComparatorTransition, execute_live _ hl]

theorem exec_comparatorReturn (n : Fin 16) (x : Crossing) (hl : s.live = true) :
    exec (.comparatorReturn n x) s = .next (s.whlReturn n (s.time + x.ofs) x.mv.toInt).settle := by
  simp only [exec, execComparatorReturn, execute_live _ hl]

section
variable {t t0 f0 : Nat} {mv : Int}

theorem State.whlActivate_of_no_switch (h : (s.wheel n).raw = true ∨ s.mvActive n mv = false) : s.whlActivate n t mv = s :=
  if_pos (by rcases h with h | h <;> simp [h])

theorem State.whlReturn_of_no_switch (h : (s.wheel n).raw = false ∨ s.mvInactive n mv = false) : s.whlReturn n t mv = s :=
  if_pos (by rcases h with h | h <;> simp [h])

/-- A Hall input or an armed one is not held back by its arming (R37). -/
theorem vr_not_disarmed (h : s.whlHall n = true ∨ (s.wheel n).armed = true) : (!s.whlHall n && !(s.wheel n).armed) = false := by
  rcases h with h | h <;> simp [h]

section
variable (hen : s.whlEn n = true) (hraw : (s.wheel n).raw = false) (hmv : s.mvActive n mv = true)
include hen hraw hmv

/-- A disarmed VR input switches and begins no hold. -/
theorem State.whlActivate_disarmed (hh : s.whlHall n = false) (ha : (s.wheel n).armed = false) :
    s.whlActivate n t mv = s.setWheel n { s.wheel n with raw := true } := by
  simp [State.whlActivate, hen, hraw, hmv, hh, ha]

variable (hready : s.whlHall n = true ∨ (s.wheel n).armed = true)
include hready

theorem State.whlActivate_begins_hold (htrail : (s.wheel n).trail = none) :
    s.whlActivate n t mv = s.setWheel n { s.wheel n with raw := true, hold := some (t, s.whlFilt n) } := by
  simp [State.whlActivate, hen, hraw, hmv, vr_not_disarmed hready, htrail]

/-- A return still in its filter is dropped and counted as a glitch. -/
theorem State.whlActivate_drops_return (htrail : (s.wheel n).trail = some (t0, f0)) (ht : t < t0 + f0) :
    s.whlActivate n t mv = (s.setWheel n { s.wheel n with raw := true, trail := none }).bump (rWHL_CNT_REJ n) 7 0 := by
  simp [State.whlActivate, hen, hraw, hmv, vr_not_disarmed hready, htrail, ht]

/-- A return whose filter time is over takes effect before the new hold begins. -/
theorem State.whlActivate_after_return (htrail : (s.wheel n).trail = some (t0, f0)) (ht : t0 + f0 ≤ t) {u : State}
    (hu : u = s.whlReturned n t0 f0) :
    s.whlActivate n t mv = u.setWheel n { u.wheel n with raw := true, hold := some (t, u.whlFilt n) } := by
  simp [State.whlActivate, hen, hraw, hmv, vr_not_disarmed hready, htrail, Nat.not_lt.2 ht, hu]

end

section
variable (hen : s.whlEn n = true) (hraw : (s.wheel n).raw = true) (hmv : s.mvInactive n mv = true)
include hen hraw hmv

/-- An active transition still in its filter is dropped and counted as a glitch. -/
theorem State.whlReturn_drops_hold (hhold : (s.wheel n).hold = some (t0, f0)) (ht : t < t0 + f0) :
    s.whlReturn n t mv = (s.setWheel n { s.wheel n with raw := false, hold := none }).bump (rWHL_CNT_REJ n) 7 0 := by
  simp [State.whlReturn, hen, hraw, hmv, hhold, ht]

/-- An active transition whose filter time is over qualifies before the return's hold begins. -/
theorem State.whlReturn_after_hold (hhold : (s.wheel n).hold = some (t0, f0)) (ht : t0 + f0 ≤ t) {u : State}
    (hu : u = s.whlQualify n t0 f0) :
    s.whlReturn n t mv = u.setWheel n { u.wheel n with raw := false, trail := some (t, u.whlFilt n) } := by
  simp [State.whlReturn, hen, hraw, hmv, hhold, Nat.not_lt.2 ht, hu]

theorem State.whlReturn_without_hold (hhold : (s.wheel n).hold = none) :
    s.whlReturn n t mv = s.setWheel n
      { s.wheel n with raw := false, trail := if (s.wheel n).act then some (t, s.whlFilt n) else (s.wheel n).trail } := by
  simp [State.whlReturn, hen, hraw, hmv, hhold]

end
end

/-! ### A filter hold ends (R39 to R41, R43) -/

theorem exec_edgeQualified (n : Fin 16) (hl : s.live = true) : exec (.edgeQualified n) s = .next (s.edgeQualified n).settle := by
  simp only [exec, execEdgeQualified, execute_live _ hl]

theorem State.edgeQualified_hold {t f : Nat} (hen : s.whlEn n = true) (hhold : (s.wheel n).hold = some (t, f)) (hdue : t + f < s.time + 4) :
    s.edgeQualified n = s.whlQualify n t f := by
  simp [State.edgeQualified, hen, hhold, hdue]

theorem State.edgeQualified_trail {t f : Nat} (hen : s.whlEn n = true) (hhold : (s.wheel n).hold = none)
    (htrail : (s.wheel n).trail = some (t, f)) (hdue : t + f < s.time + 4) : s.edgeQualified n = s.whlReturned n t f := by
  simp [State.edgeQualified, hen, hhold, htrail, hdue]

/-- The input as an active transition leaves its filter at `q`: its hold over, its level active, and a VR input disarmed (R37, R39). -/
def State.qualifiedWheel (s : State) (n q : Nat) : Wheel :=
  if s.whlHall n then { s.wheel n with hold := none, act := true } else vrQualified { s.wheel n with hold := none, act := true } q

theorem State.qualifiedWheel_act (q : Nat) : (s.qualifiedWheel n q).act = true := by
  unfold State.qualifiedWheel
  split <;> rfl

theorem State.qualifiedWheel_blankRef (q : Nat) : (s.qualifiedWheel n q).blankRef = (s.wheel n).blankRef := by
  unfold State.qualifiedWheel
  split <;> rfl

theorem State.inBlank_qualifiedWheel (q ts : Nat) : (s.setWheel n (s.qualifiedWheel n q)).inBlank n ts = s.inBlank n ts :=
  State.inBlank_setWheel (State.qualifiedWheel_blankRef q) ts

/-- A qualified input stands at its active level, so it has an entry in the table, and a second write replaces the first. -/
theorem State.setWheel_setWheel_qualifiedWheel (q : Nat) (x : Wheel) :
    (s.setWheel n (s.qualifiedWheel n q)).setWheel n x = s.setWheel n x :=
  s.setWheel_setWheel_of_ne n _ x fun h => by simpa [h] using State.qualifiedWheel_act (s := s) (n := n) q

section
variable {t f : Nat}

/-- Qualification begins with the qualified input, whose direction decoding, timestamp and hold-off are those of the state before. -/
theorem State.whlQualify_eq : s.whlQualify n t f =
    if s.whlDirdec n then
      if s.inBlank n (s.whlStamp n t) then (s.setWheel n (s.qualifiedWheel n (t + f))).holdoffDiscard n
      else s.setWheel n { s.qualifiedWheel n (t + f) with blankRef := some (s.whlStamp n t), pulse := some (t, f) }
    else if s.inBlank n (s.whlStamp n t) || closeQual (s.qualifiedWheel n (t + f)) (t + f) then
      (s.setWheel n (s.qualifiedWheel n (t + f))).holdoffDiscard n
    else (s.setWheel n { s.qualifiedWheel n (t + f) with blankRef := some (s.whlStamp n t) }).whlDeliver n (s.whlStamp n t) (t + f) 0 := by
  have hdef : s.whlQualify n t f =
      (let r := s.setWheel n (s.qualifiedWheel n (t + f))
       if s.whlDirdec n then
         if r.inBlank n (s.whlStamp n t) then r.holdoffDiscard n
         else r.setWheel n { r.wheel n with blankRef := some (s.whlStamp n t), pulse := some (t, f) }
       else if r.inBlank n (s.whlStamp n t) || closeQual (s.qualifiedWheel n (t + f)) (t + f) then r.holdoffDiscard n
       else (r.setWheel n { r.wheel n with blankRef := some (s.whlStamp n t) }).whlDeliver n (s.whlStamp n t) (t + f) 0) := rfl
  rw [hdef]
  simp only [State.inBlank_qualifiedWheel, State.wheel_setWheel_self, State.setWheel_setWheel_qualifiedWheel]

/-- Without direction decoding the edge leaves the chain unless it is inside the hold-off or too close to the edge before (R41). -/
theorem State.whlQualify_plain (hdir : s.whlDirdec n = false) : s.whlQualify n t f =
    if s.inBlank n (s.whlStamp n t) = true ∨ closeQual (s.qualifiedWheel n (t + f)) (t + f) = true then
      (s.setWheel n (s.qualifiedWheel n (t + f))).bump (rWHL_CNT_REJ n) 15 8
    else (s.setWheel n { s.qualifiedWheel n (t + f) with blankRef := some (s.whlStamp n t) }).whlDeliver n (s.whlStamp n t) (t + f) 0 := by
  rw [State.whlQualify_eq, if_neg (by simp [hdir])]
  exact if_congr (Bool.or_eq_true _ _).to_iff rfl rfl

/-- With direction decoding a pulse begins unless its start is inside the hold-off (R43). -/
theorem State.whlQualify_dirdec (hdir : s.whlDirdec n = true) : s.whlQualify n t f =
    if s.inBlank n (s.whlStamp n t) = true then (s.setWheel n (s.qualifiedWheel n (t + f))).bump (rWHL_CNT_REJ n) 15 8
    else s.setWheel n { s.qualifiedWheel n (t + f) with blankRef := some (s.whlStamp n t), pulse := some (t, f) } := by
  rw [State.whlQualify_eq, if_pos hdir]
  rfl

end

/-! ### An edge leaves the chain (R42, R45, R46) -/

theorem State.whlDeliver_eq {ts q dir : Nat} {u : State}
    (hu : u = (s.setWheel n { s.wheel n with lastTs := ts, lastOut := some q }).setReg (rWHL_CNT_EDGE n) (s.reg (rWHL_CNT_EDGE n) + 1)) :
    s.whlDeliver n ts q dir =
      if s.whlActive n = true ∧ s.rb (rADOM_CFG (s.whlDom n)) 31 = true ∧ s.rb (rADOM_CFG (s.whlDom n)) 29 = false then
        u.setDom (s.whlDom n) { s.dom (s.whlDom n) with
          inbox := (s.dom (s.whlDom n)).inbox ++ [{ inp := n, role := s.whlRole n, ts := ts, pres := ceilTo 4 q, dir := dir }] }
      else u := by
  have hdom : u.whlDom n = s.whlDom n := hu ▸ State.rf_setReg_of_ne _ _ _ (whlCfg_ne_whlCntEdge n)
  have hrole : u.whlRole n = s.whlRole n := hu ▸ State.whlRole_setReg_cntEdge _ _
  have hact : u.whlActive n = s.whlActive n := hu ▸ State.whlActive_setReg_cntEdge _ _
  have htakes : u.domWheels (s.whlDom n) = s.domWheels (s.whlDom n) := hu ▸ State.domWheels_setReg_cntEdge _ _
  have hin : u.dom (s.whlDom n) = s.dom (s.whlDom n) := hu ▸ rfl
  have hdef : s.whlDeliver n ts q dir =
      if u.whlActive n && u.domWheels (u.whlDom n) then
        u.setDom (u.whlDom n) { u.dom (u.whlDom n) with
          inbox := (u.dom (u.whlDom n)).inbox ++ [{ inp := n, role := u.whlRole n, ts := ts, pres := ceilTo 4 q, dir := dir }] }
      else u := hu ▸ rfl
  rw [hdef, hdom, hrole, hact, htakes, hin]
  exact if_congr (by simp [State.domWheels]) rfl rfl

/-- Settles O9: a switching to the active level and one from it, the holds that end, the levels, qualification, and delivery. -/
theorem wheelPulsesAreFilteredAndDelivered : Obligations.WheelPulsesAreFilteredAndDelivered := by
  refine ⟨fun s n ofs mv hl hen => ?_, fun s n mv => ⟨fun hh hp => ?_, fun hh hp => ?_, fun hh hp => ?_, fun hh hp => ?_, by decide, by decide⟩,
    fun s n t f => ⟨State.whlQualify_plain, State.whlQualify_dirdec⟩, fun s n ts q dir => State.whlDeliver_eq rfl⟩
  · intro w t
    rw [exec_comparatorTransition n _ hl, exec_comparatorReturn n _ hl, exec_edgeQualified n hl]
    refine ⟨fun hraw hmv => ⟨fun hh ha => ?_, fun hready => ⟨fun htrail => ?_, fun t0 f0 htrail => ⟨fun ht => ?_, fun ht u hu => ?_⟩⟩⟩,
      fun hraw hmv => ⟨fun t0 f0 hhold => ⟨fun ht => ?_, fun ht u hu => ?_⟩, fun hhold => ?_⟩, fun h => ?_, fun h => ?_,
      fun a f hhold hdue => ?_, fun a f hhold htrail hdue => ?_, filtTime_eq _⟩
    · rw [State.whlActivate_disarmed hen hraw hmv hh ha]
    · rw [State.whlActivate_begins_hold hen hraw hmv hready htrail]
    · rw [State.whlActivate_drops_return hen hraw hmv hready htrail ht]
    · rw [State.whlActivate_after_return hen hraw hmv hready htrail ht hu]
    · rw [State.whlReturn_drops_hold hen hraw hmv hhold ht]
    · rw [State.whlReturn_after_hold hen hraw hmv hhold ht hu]
    · rw [State.whlReturn_without_hold hen hraw hmv hhold]
    · rw [State.whlActivate_of_no_switch h]
    · rw [State.whlReturn_of_no_switch h]
    · rw [State.edgeQualified_hold hen hhold hdue]
    · rw [State.edgeQualified_trail hen hhold htrail hdue]
  · simp [State.mvActive_hall hh, hp]
  · simp [State.mvActive_hall hh, hp]
  · simp [State.mvActive_vr hh, hp]
  · simp [State.mvActive_vr hh, hp]

end Sys2Proof.Machine
end

section
/-! SUPPORT. VR arming and decay and the end of a pulse (chapter 2), and the statement about them. -/

namespace Sys2Proof.Machine

variable {s : State} {n : Nat}

/-! ### VR arming and decay (R37) -/

theorem exec_vrArm (n : Fin 16) (mv : Fin 4096) (hl : s.live = true) : exec (.vrArm n mv) s = .next (s.vrArm n mv).settle := by
  simp only [exec, execVrArm, execute_live _ hl]

theorem exec_peakDecay (n : Fin 16) (hl : s.live = true) : exec (.peakDecay n) s = .next (s.peakDecay n).settle := by
  simp only [exec, execPeakDecay, execute_live _ hl]

section
variable (hen : s.whlEn n = true) (hh : s.whlHall n = false)
include hen hh

/-- A disarmed VR input arms on an excursion above the floor and above its fraction of PEAK. -/
theorem State.vrArm_disarmed (ha : (s.wheel n).armed = false) (mv : Nat) : s.vrArm n mv =
    if s.rf (rWHL_VR n) 9 3 * 10 < mv ∧ (s.rf (rWHL_VR n) 2 0 + 1) * (s.wheel n).peak < 16 * mv * 2 ^ (s.wheel n).halvings then
      s.setWheel n { s.wheel n with armed := true, exc := mv } else s := by
  simp [State.vrArm, hen, hh, ha]

theorem State.vrArm_armed (ha : (s.wheel n).armed = true) (mv : Nat) :
    s.vrArm n mv = s.setWheel n { s.wheel n with exc := max (s.wheel n).exc mv } := by
  simp [State.vrArm, hen, hh, ha]

/-- Two edges in, an input that a whole decay time leaves disarmed halves its PEAK. -/
theorem State.peakDecay_due {q : Nat} (ha : (s.wheel n).armed = false) (hq : (s.wheel n).lastQual = some q)
    (hquals : (s.wheel n).quals = 2) (hint : 0 < (s.wheel n).interval)
    (hdue : q + ((s.wheel n).halvings + 1) * decayTime (s.wheel n) < s.time + 4) :
    s.peakDecay n = s.setWheel n { s.wheel n with halvings := (s.wheel n).halvings + 1 } := by
  have hdecay : 0 < decayTime (s.wheel n) := by
    unfold decayTime
    omega
  simp [State.peakDecay, hq, hen, hh, ha, hquals, hdecay, hdue]

end

/-! ### The end of a pulse (R43) -/

theorem exec_dirMaxExceeded (n : Fin 16) (hl : s.live = true) : exec (.dirMaxExceeded n) s = .next (s.dirMax n).settle := by
  simp only [exec, execDirMaxExceeded, execute_live _ hl]

/-- A pulse that no filtered return has ended by DIR_MAX ends there as an invalid edge. -/
theorem State.dirMax_due {t f q : Nat} (hen : s.whlEn n = true) (hp : (s.wheel n).pulse = some (t, f))
    (hq : q = t + f + s.rf (rWHL_DIR n) 9 0 * 256) (hopen : ∀ t2 f2, (s.wheel n).trail = some (t2, f2) → q < t2 + f2)
    (hdue : q < s.time + 4) :
    s.dirMax n =
      ((s.setWheel n { s.wheel n with pulse := none }).bump (rWHL_CNT_REJ n) 31 24).dirDeliver n (s.whlStamp n t) q 3 := by
  subst hq
  cases htrail : (s.wheel n).trail with
  | none => simp [State.dirMax, hp, htrail, hen, hdue]
  | some r =>
    have hlate := Nat.not_le.2 (hopen r.1 r.2 htrail)
    simp [State.dirMax, hp, htrail, hen, hdue, hlate]

section
variable {t f : Nat} {u : State} (hu : u = s.setWheel n { s.wheel n with trail := none, act := false, pulse := none })
include hu

theorem State.whlReturned_without_pulse (hp : (s.wheel n).pulse = none) : s.whlReturned n t f = u := by
  simp [State.whlReturned, hp, hu]

variable {t0 f0 dir : Nat} (hp : (s.wheel n).pulse = some (t0, f0)) (hdir : dir = s.pulseDir n (t + f - (t0 + f0)))
include hp hdir

/-- The end of a pulse: too short, it is only counted; else its edge is decoded, an invalid one counted too. -/
theorem State.whlReturned_pulse : s.whlReturned n t f =
    if dir = 0 then u.bump (rWHL_CNT_REJ n) 31 24
    else (if dir = 3 then u.bump (rWHL_CNT_REJ n) 31 24 else u).dirDeliver n (s.whlStamp n t0) (t + f) dir := by
  have hwidth : u.pulseDir n (t + f - (t0 + f0)) = dir := by
    rw [hu, hdir]
    rfl
  have hstamp : (if dir = 3 then u.bump (rWHL_CNT_REJ n) 31 24 else u).whlStamp n t0 = s.whlStamp n t0 := by
    rw [apply_ite (fun x : State => x.whlStamp n t0), State.whlStamp_bump_rej, ite_self, hu]
    rfl
  rw [← hstamp]
  simp [State.whlReturned, hp, ← hu, hwidth]

theorem State.whlReturned_short (h : dir = 0) : s.whlReturned n t f = u.bump (rWHL_CNT_REJ n) 31 24 := by
  rw [State.whlReturned_pulse hu hp hdir, if_pos h]

theorem State.whlReturned_invalid (h : dir = 3) :
    s.whlReturned n t f = (u.bump (rWHL_CNT_REJ n) 31 24).dirDeliver n (s.whlStamp n t0) (t + f) 3 := by
  rw [State.whlReturned_pulse hu hp hdir, if_neg (by omega), if_pos h, h]

theorem State.whlReturned_decoded (h : dir = 1 ∨ dir = 2) : s.whlReturned n t f = u.dirDeliver n (s.whlStamp n t0) (t + f) dir := by
  rw [State.whlReturned_pulse hu hp hdir, if_neg (by omega), if_neg (by omega)]

end

/-! ### The direction of a width (Table 2.3) -/

section
variable {w : Nat}

theorem State.pulseDir_short (h : w < s.rf (rWHL_DIR n) 29 20 * 256) : s.pulseDir n w = 0 := if_pos h

theorem State.pulseDir_narrow (hmin : s.rf (rWHL_DIR n) 29 20 * 256 ≤ w) (h : w < s.rf (rWHL_DIR n) 19 10 * 256) :
    s.pulseDir n w = if s.rb (rWHL_DIR n) 31 then 2 else 1 := by
  rw [State.pulseDir, if_neg (Nat.not_lt.2 hmin), if_pos h]

theorem State.pulseDir_wide (hmin : s.rf (rWHL_DIR n) 29 20 * 256 ≤ w) (hthr : s.rf (rWHL_DIR n) 19 10 * 256 ≤ w)
    (h : w ≤ s.rf (rWHL_DIR n) 9 0 * 256) : s.pulseDir n w = if s.rb (rWHL_DIR n) 31 then 1 else 2 := by
  rw [State.pulseDir, if_neg (Nat.not_lt.2 hmin), if_neg (Nat.not_lt.2 hthr), if_pos h]

end

/-- Settles O10: arming and decay, a pulse that runs to DIR_MAX, and the pulse that a return ends. -/
theorem vrArmingDecayAndOverlongPulses : Obligations.VrArmingDecayAndOverlongPulses := by
  refine ⟨fun s n mv hl hen hh => ⟨fun ha => ?_, fun ha => ?_, fun q ha hq hquals hint hdue => ?_⟩,
    fun s n t f hl hen hp => ?_,
    fun s n t f => ⟨State.whlReturned_without_pulse rfl, fun t0 f0 hp dir hdir =>
      ⟨State.whlReturned_short rfl hp hdir, State.whlReturned_invalid rfl hp hdir, State.whlReturned_decoded rfl hp hdir⟩,
      fun w => State.pulseDir_short, fun w => State.pulseDir_narrow, fun w => State.pulseDir_wide⟩⟩
  · rw [exec_vrArm n mv hl, State.vrArm_disarmed hen hh ha]
  · rw [exec_vrArm n mv hl, State.vrArm_armed hen hh ha]
  · rw [exec_peakDecay n hl, State.peakDecay_due hen hh ha hq hquals hint hdue]
  · intro q hopen hdue
    rw [exec_dirMaxExceeded n hl, State.dirMax_due hen hp rfl hopen hdue]
    rfl

end Sys2Proof.Machine
end

section
/-! SUPPORT. Writes and reads of the registers of wheel inputs and angle settings (chapters 2 and 3), and the statement about them. -/

namespace Sys2Proof.Machine

variable {s : State} {n : Nat} {v : Word}

/-! ### Wheel registers (R42, R43, R47) -/

theorem exec_whlLastTsLoRead (n : Fin 16) (hl : s.live = true) : exec (.whlLastTsLoRead n) s = .next (s.lastTsRead n).settle := by
  simp only [exec, execWhlLastTsLoRead, execute_live _ hl]

theorem exec_whlCfgWrite (n : Fin 16) (v : Word) (hl : s.live = true) : exec (.whlCfgWrite n v) s = .next (s.whlCfgWrite n v).settle := by
  simp only [exec, execWhlCfgWrite, execute_live _ hl]

/-- An input that is turned off or on keeps its last timestamp, the timestamp's shadow and its last direction. -/
def Wheel.restarted (w : Wheel) : Wheel := { lastTs := w.lastTs, tsShadow := w.tsShadow, dirLast := w.dirLast }

/-- While EN reads 1 a write acts on EN alone, and a change of another field sets CFG_REJ. -/
theorem State.whlCfgWrite_enabled (hen : s.whlEn n = true) {u : State}
    (hu : u = if (v &&& 0x07F80000) = (s.reg (rWHL_CFG n) &&& 0x07F80000) then s else s.setRb (rWHL_STAT n) 25 true) :
    s.whlCfgWrite n v = if bit v 31 then u else (u.setRb (rWHL_CFG n) 31 false).setWheel n (s.wheel n).restarted := by
  rw [State.whlCfgWrite, if_pos hen, hu]
  rfl

section
variable (hen : s.whlEn n = false)
include hen

theorem State.whlCfgWrite_refused (hv : bit v 31 = true) (hok : s.dirOk n v = false) :
    s.whlCfgWrite n v = s.setRb (rWHL_STAT n) 25 true := by
  simp [State.whlCfgWrite, hen, hv, hok]

theorem State.whlCfgWrite_enables (hv : bit v 31 = true) (hok : s.dirOk n v = true) : s.whlCfgWrite n v =
    (((s.setReg (rWHL_CFG n) (v &&& 0x87F80000)).setReg (rWHL_CNT_REJ n) 0).setReg (rWHL_CNT_EDGE n) 0).setWheel n
      (s.wheel n).restarted := by
  simp [State.whlCfgWrite, hen, hv, hok, Wheel.restarted]

theorem State.whlCfgWrite_disabled (hv : bit v 31 = false) : s.whlCfgWrite n v = s.setReg (rWHL_CFG n) (v &&& 0x87F80000) := by
  simp [State.whlCfgWrite, hen, hv]

end

theorem State.dirOk_iff : s.dirOk n v = true ↔ bit v 19 = false ∨ (bit v 21 = true ∧ s.rf (rWHL_DIR n) 29 20 < s.rf (rWHL_DIR n) 19 10 ∧
    s.rf (rWHL_DIR n) 19 10 ≤ s.rf (rWHL_DIR n) 9 0) := by
  simp [State.dirOk, and_assoc]

/-! ### Angle settings (R90, R91) -/

theorem exec_take (d : Fin 4) (hl : s.live = true) : exec (.take d) s = .next (s.takeCmd d).settle := by
  simp only [exec, execTake, execute_live _ hl]

theorem exec_adomCfgWrite (d : Fin 4) (v : Word) (hl : s.live = true) : exec (.adomCfgWrite d v) s = .next (s.adomCfgWrite d v).settle := by
  simp only [exec, execAdomCfgWrite, execute_live _ hl]

@[simp] theorem State.setRb_dom (a b : Nat) (x : Bool) (d : Nat) : (s.setRb a b x).dom d = s.dom d := rfl

/-- What a write of ADOM_CFG stores, CYC as it was; `keep` marks an attempt to change SRC while EN reads 1, which leaves SRC and sets
CFG_REJ. -/
def State.adomStored (s : State) (d : Nat) (v : Word) (keep : Bool) : State :=
  (if keep then s.setRb (rADOM_STAT d) 25 true else s).setReg (rADOM_CFG d)
    (if keep then setBit (setBit (v &&& 0xBFE0FFFF) 30 (s.rb (rADOM_CFG d) 30)) 29 (s.rb (rADOM_CFG d) 29)
     else setBit (v &&& 0xBFE0FFFF) 30 (s.rb (rADOM_CFG d) 30))

section
variable {d : Nat}

theorem State.adomStored_dom (keep : Bool) : (s.adomStored d v keep).dom d = s.dom d := by
  rw [State.adomStored, State.setReg_dom]
  split
  · rw [State.setRb_dom]
  · rfl

theorem State.adomStored_time (keep : Bool) : (s.adomStored d v keep).time = s.time := by
  rw [State.adomStored, State.setReg_time]
  split
  · rw [State.setRb_time]
  · rfl

/-- A write of ADOM_CFG: what it stores, then what a change of EN does. -/
theorem State.adomCfgWrite_eq {u : State}
    (hu : u = s.adomStored d v (s.rb (rADOM_CFG d) 31 && (bit v 29 != s.rb (rADOM_CFG d) 29))) :
    s.adomCfgWrite d v =
      if s.rb (rADOM_CFG d) 31 && !bit v 31 then u.setDom d { s.dom d with row1 := some 1, inbox := [] }
      else if !s.rb (rADOM_CFG d) 31 && bit v 31 then
        ((u.setReg (rADOM_CNT_SYNC d) 0).setReg (rADOM_CNT_TOOTH d) 0).setDom d
          { s.dom d with rxQ := [], rxLost := none, rxSeq := none, rxTime := s.time }
      else u := by
  have hdom : u.dom d = s.dom d := hu ▸ State.adomStored_dom _
  have htime : u.time = s.time := hu ▸ State.adomStored_time _
  rw [← hdom, ← htime, hu]
  rfl

section
variable (hen : s.rb (rADOM_CFG d) 31 = false)
include hen

theorem State.adomCfgWrite_disabled (hv : bit v 31 = false) : s.adomCfgWrite d v = s.adomStored d v false := by
  rw [State.adomCfgWrite_eq rfl, hen, hv]
  rfl

/-- Setting EN clears the domain's counters and what it has from the ring. -/
theorem State.adomCfgWrite_enables (hv : bit v 31 = true) : s.adomCfgWrite d v =
    (((s.adomStored d v false).setReg (rADOM_CNT_SYNC d) 0).setReg (rADOM_CNT_TOOTH d) 0).setDom d
      { s.dom d with rxQ := [], rxLost := none, rxSeq := none, rxTime := s.time } := by
  rw [State.adomCfgWrite_eq rfl, hen, hv]
  rfl

end

/-- While EN reads 1, clearing it asks for row 1 with cause 1. -/
theorem State.adomCfgWrite_enabled (hen : s.rb (rADOM_CFG d) 31 = true) {u : State}
    (hu : u = s.adomStored d v (bit v 29 != s.rb (rADOM_CFG d) 29)) :
    s.adomCfgWrite d v = if bit v 31 then u else u.setDom d { s.dom d with row1 := some 1, inbox := [] } := by
  rw [State.adomCfgWrite_eq rfl, hen, hu]
  cases bit v 31 <;> rfl

end

/-- Settles O11: the wheel registers with EN at 1 and at 0, then the angle settings likewise. -/
theorem wheelAndDomainRegisters : Obligations.WheelAndDomainRegisters := by
  refine ⟨fun s n v hl => ?_, fun s d v hl => ?_⟩
  · intro w off
    rw [exec_whlLastTsLoRead n hl, exec_whlCfgWrite n v hl]
    refine ⟨rfl, fun hen => ⟨fun hv => ?_, fun hv => ?_⟩, fun hen => ⟨fun hv hok => ?_, fun hv hok => ?_, fun hv => ?_⟩, State.dirOk_iff⟩
    · rw [State.whlCfgWrite_enabled hen rfl, if_pos hv]
    · rw [State.whlCfgWrite_enabled hen rfl, if_neg (by simp [hv])]
      rfl
    · rw [State.whlCfgWrite_refused hen hv hok]
    · rw [State.whlCfgWrite_enables hen hv hok]
      rfl
    · rw [State.whlCfgWrite_disabled hen hv]
  · intro nv
    rw [exec_take d hl, exec_adomCfgWrite d v hl]
    refine ⟨rfl, fun hen => ⟨fun hv => ?_, fun hv => ?_⟩, fun hen u hsame hdiff => ?_⟩
    · rw [State.adomCfgWrite_disabled hen hv]
      rfl
    · rw [State.adomCfgWrite_enables hen hv]
      rfl
    · have hu : u = s.adomStored d v (bit v 29 != s.rb (rADOM_CFG d) 29) := by
        by_cases hsrc : bit v 29 = s.rb (rADOM_CFG d) 29
        · rw [hsame hsrc, bne_eq_false_iff_eq.2 hsrc]
          rfl
        · rw [hdiff (Bool.eq_not.2 hsrc), bne_iff_ne.2 hsrc]
          rfl
      rw [State.adomCfgWrite_enabled hen hu]
      exact ⟨fun hv => by rw [if_pos hv], fun hv => by rw [if_neg (by simp [hv])]⟩

end Sys2Proof.Machine
end

section
/-! SUPPORT. The deadlines of a turning domain: a missed tooth and a stall (R76, R77, R80), and the statement about them. -/

namespace Sys2Proof.Machine

variable {s : State}

/-! ### Which deadline acts (R76, R80) -/

theorem exec_missedTooth (d : Fin 4) (hl : s.live = true) : exec (.missedTooth d) s = .next ((s.missedTooth d).angleTx d).settle := by
  simp only [exec, execMissedTooth, execute_live _ hl]

theorem exec_stall (d : Fin 4) (hl : s.live = true) : exec (.stall d) s = .next ((s.stallCmd d).angleTx d).settle := by
  simp only [exec, execStall, execute_live _ hl]

section
variable {d : Nat} (ht : s.time % 16 = 4 * d) (hen : s.domEn d = true) (hr : s.domRing d = false)
include ht hen hr

/-- A tooth is missed when its deadline comes before that of a stall and before any edge that waits. -/
theorem State.missedTooth_of_due {m : Nat} (hm : s.missAt d = some m) (hdue : m + s.crankFilt d ≤ s.time)
    (hfirst : ∀ a, s.stallAt d = some a → m < a) (hedge : s.edgeBefore d m = false) : s.missedTooth d = s.domMissed d s.time := by
  have hslot : domSlotAt d s.time = true := domSlotAt_iff.2 ht
  cases hstall : s.stallAt d with
  | none => simp [State.missedTooth, hm, hstall, hslot, hen, hr, hdue, hedge]
  | some a => simp [State.missedTooth, hm, hstall, hslot, hen, hr, hdue, hedge, hfirst a hstall]

/-- A domain stalls when its stall deadline comes no later than that of a missed tooth and before any edge that waits. -/
theorem State.stallCmd_of_due {a : Nat} (ha : s.stallAt d = some a) (hdue : a + s.crankFilt d ≤ s.time)
    (hfirst : ∀ m, s.missAt d = some m → a ≤ m) (hedge : s.edgeBefore d a = false) : s.stallCmd d = s.domStall d s.time a := by
  have hslot : domSlotAt d s.time = true := domSlotAt_iff.2 ht
  cases hmiss : s.missAt d with
  | none => simp [State.stallCmd, ha, hmiss, hslot, hen, hr, hdue, hedge]
  | some m => simp [State.stallCmd, ha, hmiss, hslot, hen, hr, hdue, hedge, hfirst m hmiss]

end

/-! ### What a missed tooth does (R77, R80) -/

section
variable {d t : Nat}

/-- The cause of a sync loss, or of a failed restart, by a missed tooth: 6 where MT_ACT asks for an insertion, else 5. -/
def State.missCause (s : State) (d : Nat) : Nat := if s.rb (rADOM_CFG d) 28 then 6 else 5

/-- The tooth after the present one is half a cycle or more from the last that was inserted (R77). -/
def State.insertFar (s : State) (d : Nat) : Bool :=
  match (s.dom d).sinceIns with
  | some y => decide (halfCyc ≤ y + s.spanTo d (s.nextE d (s.dom d).cur.entry))
  | none => true

section
variable {u : State} (hu : u = (s.bump (rADOM_CNT_TOOTH d) 31 24).domEvent d 2)
include hu

theorem State.domMissed_of_turning (hst : (u.dom d).cur.st ≠ 4) : s.domMissed d t =
    if u.rb (rADOM_CFG d) 28 && teInsOk (u.tooth d (u.nextE d (u.dom d).cur.entry)) && u.insertFar d then u.insertTooth d t
    else u.domDrop d t (u.missCause d) (u.dom d).cur.tk := by
  subst hu
  exact if_neg hst

/-- A KEEP_POS restart that misses a tooth seeks with the edges it has. -/
theorem State.domMissed_of_restart (hst : (u.dom d).cur.st = 4) :
    s.domMissed d t = u.domSeek d t (some (u.missCause d)) (u.dom d).restart := by
  subst hu
  exact if_pos hst

end

/-! ### What a stall does (R80) -/

/-- A stall in SEEK holds no angle. -/
theorem State.domStall_of_seek {a : Nat} (hst : (s.dom d).cur.st = 1) : s.domStall d t a = s.domTo d t 4 (some 9) true false :=
  if_neg (by omega)

/-- A stall in CRANK_SYNC or FULL_SYNC keeps what was published for a restart, and publishes the angle at the deadline. -/
theorem State.domStall_of_sync {a : Nat} {p : Pub} {u v : State} (hst : (s.dom d).cur.st = 2 ∨ (s.dom d).cur.st = 3)
    (hp : p = (s.dom d).cur) (hu : u = s.domTo d t 4 (some 9) true false)
    (hv : v = u.setDom d { u.dom d with held := some (p.st, p.entry, p.theta, p.cyc) }) :
    s.domStall d t a = v.publish d t { (v.dom d).cur with theta := (p.at a).2, hasAngle := true, cyc := (p.at a).1 } := by
  subst hv hu hp
  exact if_pos hst

/-- The stall deadline counts from the last tooth, in SEEK from the last accepted edge. -/
theorem State.eq_of_stallAt {a : Nat} (ha : s.stallAt d = some a) :
    ∃ t, (if (s.dom d).cur.st = 1 then (s.dom d).lastAcc else some (s.dom d).cur.tk) = some t ∧
      a = t + max (s.rf (rADOM_TMO d) 31 16) 1 * 100000 := by
  by_cases hst : 1 ≤ (s.dom d).cur.st ∧ (s.dom d).cur.st ≤ 3
  · rw [State.stallAt, if_pos hst, Option.map_eq_some_iff] at ha
    obtain ⟨t, hfrom, hsum⟩ := ha
    exact ⟨t, hfrom, hsum.symm⟩
  · rw [State.stallAt, if_neg hst] at ha
    cases ha

end

/-- Settles O13: a missed tooth of a turning domain and of one that restarts; a stall in SEEK and in sync, and its deadline. -/
theorem missedTeethAndStalls : Obligations.MissedTeethAndStalls := by
  refine ⟨fun s d m hl ht hen hr hm hdue hfirst hedge => ?_, fun s d a hl ht hen hr ha hdue hfirst hedge => ?_⟩
  · rw [exec_missedTooth d hl, State.missedTooth_of_due ht hen hr hm hdue hfirst hedge]
    refine ⟨fun hst => ?_, fun hst => ?_⟩
    · rw [State.domMissed_of_turning rfl hst]
      rfl
    · rw [State.domMissed_of_restart rfl hst]
      rfl
  · rw [exec_stall d hl, State.stallCmd_of_due ht hen hr ha hdue hfirst hedge]
    refine ⟨fun hst => ?_, fun hst => ?_, State.eq_of_stallAt ha⟩
    · rw [State.domStall_of_seek hst]
    · rw [State.domStall_of_sync hst rfl rfl rfl]

end Sys2Proof.Machine
end

section
/-! SUPPORT. REG_WRITE and REG_READ, and the commands that act in a slot of their domain (chapter 11), and the statement about them. -/

namespace Sys2Proof.Machine

variable {s : State} {c : Cmd} {op e : Nat} {f : State → Cmd → State}

/-! ### An opcode's command by how far it has come (R278, R298) -/

theorem execute_command_begins (h : s.begins op e c) :
    execute (fun s => s.command op op e f) s = .next (f (s.start c) (s.go c)).settle := by
  rw [execute_live _ h.1, State.command_begins s op op op e c f h (Nat.le_refl _) (Nat.le_refl _)]

theorem execute_command_runsOn (h : s.runsOn op e c) : execute (fun s => s.command op op e f) s = .next (f s c).settle := by
  rw [execute_live _ h.1, State.command_runsOn s op op op e c f h (Nat.le_refl _) (Nat.le_refl _)]

theorem State.runsOn_started_ne (h : s.runsOn op e c) : c.started ≠ some s.time := by
  obtain ⟨-, -, -, ⟨t, ht, hne⟩, -, -⟩ := h
  rw [ht]
  exact fun he => hne (Option.some.inj he)

@[simp] theorem State.go_opnd (lo hi : Nat) : (s.go c).opnd lo hi = c.opnd lo hi := rfl

/-! ### Setup access (R301, R451) -/

theorem State.regWriteCmd_of_stopped (hw : s.trayWait (c.opnd 8 11) = true) : s.regWriteCmd c = s := if_pos hw

theorem State.regWriteCmd_of_clocked (hw : s.trayWait (c.opnd 8 11) = false) {u : State}
    (hu : u = s.regWrite (c.opnd 8 11) (BitVec.ofNat 32 (c.opnd 12 15))) :
    s.regWriteCmd c = if u.live then u.finish c 0 (u.regRead (c.opnd 8 11)).toNat else u := by
  subst hu
  exact if_neg (by simp [hw])

theorem State.regReadCmd_of_stopped (hw : s.trayWait (c.opnd 8 11) = true) : s.regReadCmd c = s := if_pos hw

theorem State.regReadCmd_of_clocked (hw : s.trayWait (c.opnd 8 11) = false) :
    s.regReadCmd c = (s.readEffect (c.opnd 8 11)).finish c 0 (s.regRead (c.opnd 8 11)).toNat := if_neg (by simp [hw])

/-! ### Acting in the domain's first slot after the start (R61, R93, R309) -/

theorem State.inSlot_of_new (g : State → State) (hp : c.phase = 0) : s.inSlot c g = s.modCmd c.ord (fun x => { x with phase := 1 }) :=
  if_pos hp

section
variable (g : State → State) (hp : c.phase = 1)
include hp

theorem State.inSlot_outside (ht : s.time % 16 ≠ 4 * c.byte 8) : s.inSlot c g = s := by
  simp [State.inSlot, hp, mt domSlotAt_iff.1 ht]

theorem State.inSlot_acts (ht : s.time % 16 = 4 * c.byte 8) (hs : c.started ≠ some s.time) : s.inSlot c g = g s := by
  simp [State.inSlot, hp, domSlotAt_iff.2 ht, hs]

end

/-- What READ_ANGLE does in its slot: the snapshot is the result, or waits for its buffer. -/
def State.angleTaken (c : Cmd) (s : State) : State :=
  let x := s.snapAt (c.byte 8) s.time
  if c.opnd 16 23 = 0 then x.2.finish c 0 x.1.result
  else
    let f (y : Cmd) : Cmd := { y with phase := 2, result := x.1.result, data := x.1.image, sentAt := x.1.time }
    (x.2.modCmd c.ord f).angleWrite (f c)

theorem State.readAngle_of_untaken (hp : c.phase < 2) : s.readAngle c = s.inSlot c (State.angleTaken c) := if_neg (Nat.not_le.2 hp)

theorem State.readAngle_of_taken (hp : 2 ≤ c.phase) : s.readAngle c = s.angleWrite c := if_pos hp

section
variable {e : Fin 64} {i : Nat × Instr} (hi : i ∈ [(0x40, Instr.syncReset e), (0x41, Instr.setCycle e), (0x42, Instr.readAngle e)])
include hi

/-- Up to its slot each command on a domain is an effect that `inSlot` holds back. -/
theorem exec_domainCommand_eq_inSlot : ∃ f : State → Cmd → State, (∀ s, exec i.2 s = execute (fun s => s.command i.1 i.1 e f) s) ∧
    ∀ s c, c.phase < 2 → ∃ g, f s c = s.inSlot c g := by
  simp only [List.mem_cons, List.not_mem_nil, or_false] at hi
  obtain rfl | rfl | rfl := hi
  · exact ⟨State.syncReset, fun _ => rfl, fun _ _ _ => ⟨_, rfl⟩⟩
  · exact ⟨State.setCycle, fun _ => rfl, fun _ _ _ => ⟨_, rfl⟩⟩
  · exact ⟨State.readAngle, fun _ => rfl, fun _ _ hp => ⟨_, State.readAngle_of_untaken hp⟩⟩

theorem exec_domainCommand_begins (hb : s.begins i.1 e c) (hp : c.phase = 0) :
    exec i.2 s = .next ((s.start c).modCmd c.ord (fun x => { x with phase := 1 })).settle := by
  obtain ⟨f, hexec, hslot⟩ := exec_domainCommand_eq_inSlot hi
  have hgo : (s.go c).phase = 0 := hp
  obtain ⟨g, hg⟩ := hslot (s.start c) (s.go c) (by omega)
  rw [hexec, execute_command_begins hb, hg, State.inSlot_of_new g hgo]
  rfl

theorem exec_domainCommand_outside (hrun : s.runsOn i.1 e c) (hp : c.phase = 1) (ht : s.time % 16 ≠ 4 * c.byte 8) :
    exec i.2 s = .next s.settle := by
  obtain ⟨f, hexec, hslot⟩ := exec_domainCommand_eq_inSlot hi
  obtain ⟨g, hg⟩ := hslot s c (by omega)
  rw [hexec, execute_command_runsOn hrun, hg, State.inSlot_outside g hp ht]

end

/-! ### READ_ANGLE's buffer (R309) -/

section
variable (hp : c.phase = 2)
include hp

theorem State.angleWrite_waits (hb : s.bufReady c.ord = false) : s.angleWrite c = s := by
  simp [State.angleWrite, hp, hb]

theorem State.angleWrite_master (hb : s.bufReady c.ord = true) (hm : s.master = true) :
    s.angleWrite c = (s.bufWrite c.ord (c.opnd 16 23) 32 c.data).finishAt c c.sentAt 0 c.result := by
  simp [State.angleWrite, hp, hb, hm]

theorem State.angleWrite_slave (hb : s.bufReady c.ord = true) (hm : s.master = false) :
    s.angleWrite c = (s.modCmd c.ord (fun x => { x with phase := 3 })).bufWrite c.ord (c.opnd 16 23) 32 c.data := by
  simp [State.angleWrite, hp, hb, hm]

end

/-- A slave that has sent the snapshot finishes when its accesses are answered, or when one has failed. -/
theorem State.angleWrite_sent (hp : c.phase = 3) : s.angleWrite c =
    if c.failed then s.finishAt c c.sentAt 0x16 0 else if s.bufReady c.ord then s.finishAt c c.sentAt 0 c.result else s := if_pos hp

/-! ### The commands in their slot -/

section
variable {e : Fin 64} (hp : c.phase = 1) (ht : s.time % 16 = 4 * c.byte 8)
include hp ht

theorem exec_syncReset_in_slot (h : s.runsOn 0x40 e c) :
    exec (.syncReset e) s = .next ((s.setDom (c.byte 8) { s.dom (c.byte 8) with row1 := some 2 }).finish c 0 0).settle := by
  rw [exec, execSyncReset, execute_command_runsOn h, State.syncReset, State.inSlot_acts _ hp ht (State.runsOn_started_ne h)]

theorem exec_setCycle_in_slot (h : s.runsOn 0x41 e c) : exec (.setCycle e) s = .next
    (if s.domBusy (c.byte 8) then s.finish c 0x24 0 else (s.cycleSet (c.byte 8) (c.byte 9 == 1)).finish c 0 0).settle := by
  rw [exec, execSetCycle, execute_command_runsOn h, State.setCycle, State.inSlot_acts _ hp ht (State.runsOn_started_ne h)]

theorem exec_readAngle_in_slot (h : s.runsOn 0x42 e c) : exec (.readAngle e) s = .next (s.angleTaken c).settle := by
  rw [exec, execReadAngle, execute_command_runsOn h, State.readAngle_of_untaken (by omega),
    State.inSlot_acts _ hp ht (State.runsOn_started_ne h)]

end

/-- Settles O34: setup access with its tray's clocks stopped and running; the commands on a domain before, outside and in their slot;
the buffer of READ_ANGLE. -/
theorem setupAndDomainCommandsFinish : Obligations.SetupAndDomainCommandsFinish := by
  refine ⟨fun s e c => ⟨fun h u hu => ?_, fun h => ?_, fun h hw => ?_, fun h hw => ?_⟩,
    fun s e c => ⟨fun i => exec_domainCommand_begins, fun i => exec_domainCommand_outside, fun hp ht =>
      ⟨exec_syncReset_in_slot hp ht, exec_setCycle_in_slot hp ht, fun h x hx => ?_⟩, fun h hp => ?_⟩,
    fun s c => ⟨State.angleWrite_waits, State.angleWrite_master, State.angleWrite_slave, fun hp hf => ?_, fun hp hf hb => ?_,
      fun hp hf hb => ?_⟩⟩
  · rw [exec, execRegWrite, execute_command_begins h]
    refine ⟨fun hw => ?_, fun hw hl => ?_, fun hw hl => ?_⟩
    · rw [State.regWriteCmd_of_stopped (c := s.go c) hw]
    · rw [State.regWriteCmd_of_clocked (c := s.go c) hw hu, if_pos hl, State.go_opnd]
    · rw [State.regWriteCmd_of_clocked (c := s.go c) hw hu, if_neg (by simp [hl])]
  · rw [exec, execRegRead, execute_command_begins h]
    refine ⟨fun hw => ?_, fun hw => ?_⟩
    · rw [State.regReadCmd_of_stopped (c := s.go c) hw]
    · rw [State.regReadCmd_of_clocked (c := s.go c) hw, State.go_opnd]
  · rw [exec, execRegWrite, execute_command_runsOn h, State.regWriteCmd_of_stopped hw]
  · rw [exec, execRegRead, execute_command_runsOn h, State.regReadCmd_of_stopped hw]
  · rw [exec_readAngle_in_slot hp ht h, hx]
    refine ⟨fun hbuf => ?_, fun hbuf f hf => ?_⟩
    · rw [State.angleTaken, if_pos hbuf]
    · rw [State.angleTaken, if_neg hbuf, hf]
  · rw [exec, execReadAngle, execute_command_runsOn h, State.readAngle_of_taken hp]
  · rw [State.angleWrite_sent hp, if_pos hf]
  · rw [State.angleWrite_sent hp, if_neg (by simp [hf]), if_pos hb]
  · rw [State.angleWrite_sent hp, if_neg (by simp [hf]), if_neg (by simp [hb])]

end Sys2Proof.Machine
end

section
/-! SUPPORT. Arming events: ARM_EVENT in its solver slot, the stages of ARM_BATCH and one entry of a batch (chapter 4), and the statement
about them. -/

namespace Sys2Proof.Machine

variable {s : State} {c : Cmd}

/-! ### ARM_EVENT (R96, Table 4.4) -/

theorem solverSlotAt_iff {a t : Nat} : solverSlotAt a t = true ↔ t % 64 = 4 * (a % 16) := by
  simp [solverSlotAt]

/-- What ARM_EVENT does with its judgement (R96, Table 4.6). -/
def State.armJudged (s : State) (c : Cmd) : Judged → State
  | .refused st r => s.finish c st (pack [(7, 0, c.byte 8), (71, 64, r)])
  | .late k x => (s.bump rSCHED_CNT_A 31 16).finish c 0x21 (pack [(7, 0, c.byte 8), (10, 8, k), (31, 16, x.cyc)])
  | .ok k x => ((s.setSlot (c.byte 8) k x).rewrote 4 (32 * c.byte 8 + 4 * k) 4).finish c 0 (armResult (c.byte 8) k x)

theorem State.armEvent_in_slot (ht : s.time % 64 = 4 * (c.byte 8 % 16)) (hs : c.started ≠ some s.time) :
    s.armEvent c = s.armJudged c (s.judgeArm c.armer c.ops 0 0 (s.time + 4)) := by
  have hslot : solverSlotAt (evField c.ops 8 8) s.time = true := solverSlotAt_iff.2 ht
  have hstart : (c.started == some s.time) = false := by simp [hs]
  simp only [State.armEvent, hslot, hstart]
  cases s.judgeArm c.armer c.ops 0 0 (s.time + 4) <;> rfl

section
variable {w : Armer} {o : Operands} {batch extra tf : Nat}

theorem State.judgeArm_inSafe (h : s.inSafe = true) : s.judgeArm w o batch extra tf = .refused 0x26 0 := if_pos h

theorem State.judgeArm_not_owned (h : s.inSafe = false) (ha : evField o 8 8 ≤ 95) (hb : (s.act (evField o 8 8)).bound = true)
    (ho : s.owns w.qp (evField o 8 8) = false) : s.judgeArm w o batch extra tf = .refused 0x12 0 := by
  simp [State.judgeArm, h, Nat.not_lt.2 ha, hb, ho]

end

/-! ### ARM_BATCH (R100, R124) -/

section
variable (hp : c.phase = 0)
include hp

theorem State.armBatch_inSafe (h : s.inSafe = true) : s.armBatch c = s.finish c 0x26 (pack [(31, 24, 0xFF)]) := by
  simp [State.armBatch, hp, h]

theorem State.armBatch_malformed (h : s.inSafe = false)
    (hbad : c.opnd 8 15 % 32 ≠ 0 ∨ c.byte 16 = 0 ∨ 16 < c.byte 16 ∨ c.zeros 17 31 = false) :
    s.armBatch c = s.finish c 0x25 (pack [(31, 24, 0xFF), (39, 32, 6)]) := by
  rw [State.armBatch, if_pos hp, if_neg (by simp [h]), if_pos (by simpa [or_assoc] using hbad)]

theorem State.armBatch_fetches (h : s.inSafe = false) (hal : c.opnd 8 15 % 32 = 0) (h1 : 1 ≤ c.byte 16) (h16 : c.byte 16 ≤ 16)
    (hz : c.zeros 17 31 = true) :
    s.armBatch c = (s.modCmd c.ord (fun x => { x with phase := 1 })).fetchStart c.ord (c.opnd 8 15) (32 * c.byte 16) := by
  have hwell : ¬((c.opnd 8 15 % 32 ≠ 0 || c.byte 16 = 0 || 16 < c.byte 16 || !c.zeros 17 31) = true) := by
    simp [hal, hz, Nat.one_le_iff_ne_zero.1 h1, h16]
  rw [State.armBatch, if_pos hp, if_neg (by simp [h]), if_neg hwell]

end

section
variable (hp : c.phase = 1)
include hp

theorem State.armBatch_failed (hf : c.failed = true) : s.armBatch c = s.finish c 0x25 (pack [(31, 24, 0xFF), (39, 32, 6)]) := by
  simp [State.armBatch, hp, hf]

theorem State.armBatch_taken (hf : c.failed = false) (hr : c.ready = true) (ht : s.time % 64 = 0) (hsent : c.sentAt < s.time)
    (h : s.inSafe = false) : s.armBatch c = s.batchTake c := by
  simp [State.armBatch, hp, hf, hr, ht, Nat.not_le.2 hsent, h]

end

section
variable {b : Batch} {n : Nat} (hb : s.batchArm c.armer c.data (c.byte 16) = b)
  (hn : n = ((below 16).filter (fun i => b.late / 2 ^ i % 2 = 1)).length)
include hb hn

theorem State.batchTake_of_good (hgood : b.bad = none) : s.batchTake c =
    (b.st.bumpN rSCHED_CNT_A 31 16 n).finish c 0 (pack [(15, 0, b.late), (23, 16, b.armed), (31, 24, 0xFF)]) := by
  subst hn
  simp [State.batchTake, hb, hgood]

theorem State.batchTake_of_bad {i st r : Nat} (hbad : b.bad = some (i, st, r)) : s.batchTake c =
    (s.bumpN rSCHED_CNT_A 31 16 n).finish c st (pack [(15, 0, b.late), (31, 24, i), (39, 32, r)]) := by
  subst hn
  simp [State.batchTake, hb, hbad]

end

/-! ### One entry of a batch (R100) -/

/-- How entry `i` of a batch is judged: against the end of its actuator's solver slot. -/
def Batch.judged (b : Batch) (w : Armer) (data i : Nat) : Judged :=
  let e := batchEntry data i
  b.st.judgeArm w e.2 i e.1 (b.st.time + 4 * (evField e.2 8 8 % 16) + 4)

section
variable {b : Batch} {w : Armer} {data i : Nat}

theorem Batch.entry_of_refused {st r : Nat} (h : b.judged w data i = .refused st r) :
    b.entry w data i = { b with bad := b.bad.orElse (fun _ => some (i, st, r)) } := by
  simp only [Batch.judged] at h
  simp only [Batch.entry, h]

theorem Batch.entry_of_first_refused {st r : Nat} (h : b.judged w data i = .refused st r) (hgood : b.bad = none) :
    b.entry w data i = { b with bad := some (i, st, r) } := by
  rw [Batch.entry_of_refused h, hgood, Option.orElse_none]

theorem Batch.entry_of_later_refused {st r : Nat} (h : b.judged w data i = .refused st r) (hbad : b.bad ≠ none) :
    b.entry w data i = b := by
  obtain ⟨f, hf⟩ := Option.ne_none_iff_exists'.1 hbad
  rw [Batch.entry_of_refused h, hf, Option.orElse_some, ← hf]

theorem Batch.entry_of_late {k : Nat} {x : Slot} (h : b.judged w data i = .late k x) :
    b.entry w data i = { b with late := b.late + 2 ^ i } := by
  simp only [Batch.judged] at h
  simp [Batch.entry, h]

theorem Batch.entry_of_ok {k a : Nat} {x : Slot} (h : b.judged w data i = .ok k x) (ha : a = evField (batchEntry data i).2 8 8) :
    b.entry w data i = { b with st := (b.st.setSlot a k x).rewrote 4 (32 * a + 4 * k) 4, armed := b.armed + 1 } := by
  simp only [Batch.judged] at h
  simp [Batch.entry, h, ha]

end

/-! ### The statement -/

theorem exec_armEvent_in_slot {e : Fin 64} (h : s.runsOn 0x20 e c) (ht : s.time % 64 = 4 * (c.byte 8 % 16)) :
    exec (.armEvent e) s = .next (s.armJudged c (s.judgeArm c.armer c.ops 0 0 (s.time + 4))).settle := by
  rw [exec, execArmEvent, execute_command_runsOn h, State.armEvent_in_slot ht (State.runsOn_started_ne h)]

theorem exec_armBatch_begins {e : Fin 64} (h : s.begins 0x21 e c) :
    exec (.armBatch e) s = .next ((s.start c).armBatch (s.go c)).settle := by
  rw [exec, execArmBatch, execute_command_begins h]

theorem exec_armBatch_runsOn {e : Fin 64} (h : s.runsOn 0x21 e c) : exec (.armBatch e) s = .next (s.armBatch c).settle := by
  rw [exec, execArmBatch, execute_command_runsOn h]

/-- Settles O17: ARM_EVENT by its judgement; ARM_BATCH as it starts and as it is taken; one entry of a batch by its judgement. -/
theorem armCommandsFinish : Obligations.ArmCommandsFinish := by
  refine ⟨fun s e c h ht => ⟨?_, State.judgeArm_inSafe, State.judgeArm_not_owned (w := c.armer) (o := c.ops)⟩,
    fun s e c h hp => ?_, fun s e c h hp => ?_, fun b w data i x hx a ha j hj => ?_⟩
  · rw [exec_armEvent_in_slot h ht]
    cases s.judgeArm c.armer c.ops 0 0 (s.time + 4) <;> rfl
  · rw [exec_armBatch_begins h]
    refine ⟨fun hsafe => ?_, fun hsafe hbad => ?_, fun hsafe hal h1 h16 hz => ?_⟩
    · rw [State.armBatch_inSafe (s := s.start c) (c := s.go c) hp hsafe]
    · rw [State.armBatch_malformed (s := s.start c) (c := s.go c) hp hsafe hbad]
    · rw [State.armBatch_fetches (s := s.start c) (c := s.go c) hp hsafe hal h1 h16 hz]
      rfl
  · rw [exec_armBatch_runsOn h]
    refine ⟨fun hf => ?_, fun hf hr ht hsent hsafe b hb n hn => ?_⟩
    · rw [State.armBatch_failed hp hf]
    · rw [State.armBatch_taken hp hf hr ht hsent hsafe]
      refine ⟨fun hgood => ?_, fun k st r hbad => ?_⟩
      · rw [State.batchTake_of_good hb.symm hn hgood]
      · rw [State.batchTake_of_bad hb.symm hn hbad]
  · have hjudged : j = b.judged w data i := by rw [hj, ha, hx]; rfl
    subst hjudged
    refine ⟨fun st r => Batch.entry_of_first_refused, fun st r => Batch.entry_of_later_refused, fun k y => Batch.entry_of_late,
      fun k y h => Batch.entry_of_ok h (by rw [ha, hx]; rfl)⟩

end Sys2Proof.Machine
end

section
/-! SUPPORT. CANCEL_EVENT (chapter 4), FORCE_ON and FORCE_OFF (chapter 11): what each does at its moment, and the statement about them. -/

namespace Sys2Proof.Machine

variable {s : State} {c : Cmd}

/-! ### CANCEL_EVENT (R121, R122, Table 4.12) -/

theorem State.cancelTake_in_slot (hp : c.phase = 0) (ht : s.time % 64 = 4 * (c.byte 8 % 16)) (hs : c.started ≠ some s.time) :
    s.cancelTake c = s.modCmd c.ord (fun x => { x with phase := 1, committed := true, sentAt := s.time }) :=
  if_pos (by simp [hp, solverSlotAt_iff.2 ht, hs])

section
variable {k : Nat}

theorem State.cancelSlot_of_unmatched (hm : s.cancelMatch c k = false) : s.cancelSlot c k = (s, 0, 0) := if_pos (by simp [hm])

variable (hm : s.cancelMatch c k = true)
include hm

/-- A slot that has not started goes FREE with ABORTED. -/
theorem State.cancelSlot_of_waiting (hst : (s.slot (c.byte 8) k).st ≤ 3) :
    s.cancelSlot c k = (s.freeSlot (c.byte 8) k 2, 2 ^ k, 0) := by
  simp [State.cancelSlot, hm, hst]

/-- A running slot whose end is not locked ends at its DMIN. -/
theorem State.cancelSlot_of_running (hst : (s.slot (c.byte 8) k).st = 4) (hend : s.endLocked (c.byte 8) (s.slot (c.byte 8) k) = false) :
    s.cancelSlot c k = (s.setSlot (c.byte 8) k { s.slot (c.byte 8) k with
      cancelEnd := some (max s.time ((s.slot (c.byte 8) k).tAct + (s.slot (c.byte 8) k).dmin)) }, 2 ^ k, 0) := by
  simp [State.cancelSlot, hm, hst, hend]

theorem State.cancelSlot_of_end_locked (hst : (s.slot (c.byte 8) k).st = 4) (hend : s.endLocked (c.byte 8) (s.slot (c.byte 8) k) = true) :
    s.cancelSlot c k = (s, 0, 2 ^ k) := by
  simp [State.cancelSlot, hm, hst, hend]

theorem State.cancelSlot_of_ended (hst : 5 ≤ (s.slot (c.byte 8) k).st) : s.cancelSlot c k = (s, 0, 2 ^ k) := by
  simp [State.cancelSlot, hm, show ¬(s.slot (c.byte 8) k).st ≤ 3 by omega, show (s.slot (c.byte 8) k).st ≠ 4 by omega]

end

/-- Every slot of a cancel's actuator is decided in turn: the state, and the masks of aborted and of completed slots. -/
def State.cancelSlots (s : State) (c : Cmd) : State × Nat × Nat :=
  (below 8).foldl (fun (x : State × Nat × Nat) k =>
    ((x.1.cancelSlot c k).1, x.2.1 + (x.1.cancelSlot c k).2.1, x.2.2 + (x.1.cancelSlot c k).2.2)) (s, 0, 0)

section
variable {r : State × Nat × Nat} (hp : c.phase = 1) (ht : s.time % 64 = 0) (hsent : c.sentAt < s.time) (hr : s.cancelSlots c = r)
include hp ht hsent hr

theorem State.cancelDecide_at_frame : s.cancelDecide c =
    (if r.2.1 = 0 then r.1 else r.1.bumpN rSCHED_CNT_B 15 0 (maskCount r.2.1)).finish c (if r.2.1 = 0 then 3 else 2)
      (pack [(7, 0, c.byte 8), (15, 8, r.2.1), (23, 16, r.2.2)]) := by
  rw [State.cancelDecide, if_neg (by simp [hp, ht, hsent]), ← hr, State.cancelSlots]

/-- A cancel that ends nothing completes as COMPLETED_BEFORE_ABORT. -/
theorem State.cancelDecide_of_none (h : r.2.1 = 0) :
    s.cancelDecide c = r.1.finish c 3 (pack [(7, 0, c.byte 8), (15, 8, 0), (23, 16, r.2.2)]) := by
  simp only [State.cancelDecide_at_frame hp ht hsent hr, h, if_true]

theorem State.cancelDecide_of_some (h : r.2.1 ≠ 0) : s.cancelDecide c =
    (r.1.bumpN rSCHED_CNT_B 15 0 (maskCount r.2.1)).finish c 2 (pack [(7, 0, c.byte 8), (15, 8, r.2.1), (23, 16, r.2.2)]) := by
  simp only [State.cancelDecide_at_frame hp ht hsent hr, h, if_false]

end

/-! ### FORCE_ON (R305, R306) -/

@[simp] theorem State.bump_time (x hi lo : Nat) : (s.bump x hi lo).time = s.time := rfl

theorem State.atF_of_runsOn {op e : Nat} (h : s.runsOn op e c) (ht : s.time % 64 = 0) : s.atF c = true := by
  simp [State.atF, ht, State.runsOn_started_ne h]

/-- The shot FORCE_ON begins, cut at `cap` where the duty budget ends it. -/
def State.forcedShot (s : State) (c : Cmd) (cap : Option Nat) : Shot :=
  { forced := true, forcedEnd := if c.opnd 12 15 = 0 then none else some (s.time + c.opnd 12 15), forcedCap := cap
    prof := c.byte 10, dur := c.opnd 12 15, truncated := cap.isSome }

section
variable {r : Option Nat × (Nat × Nat × Nat)} (i : Nat) (hF : s.atF c = true)
  (hr : s.forceCheck (c.byte 8) (c.byte 10) (c.opnd 12 15) = r)
include hF hr

theorem State.forceOn_of_refused (h : r.2.1 ≠ 0) : s.forceOn i c =
    (if r.2.1 = 0x22 then s.bump rDIAG_GSTAT 15 8 else if r.2.1 = 0x23 then s.bump rACT_GSTAT 23 12 else s).finish c r.2.1
      (pack [(7, 0, c.byte 8), (39, 32, r.2.2.1), (71, 64, r.2.2.2)]) := by
  subst hr
  rw [State.forceOn, if_neg (by simp [hF])]
  exact if_pos h

theorem State.forceOn_of_whole (h : r.2.1 = 0) (hcap : r.1 = none) : s.forceOn i c =
    ((s.beginShot (c.byte 8) s.time i (s.forcedShot c none)).lockEnds (c.byte 8) s.time).finish c 0
      (pack [(7, 0, c.byte 8), (63, 32, c.opnd 12 15)]) := by
  simp [State.forceOn, hF, hr, h, hcap, pack, State.forcedShot]

theorem State.forceOn_of_cut {x : Nat} (h : r.2.1 = 0) (hcap : r.1 = some x) : s.forceOn i c =
    (((s.bump rDIAG_GSTAT 7 0).beginShot (c.byte 8) s.time i (s.forcedShot c (some x))).lockEnds (c.byte 8) s.time).finish c 0
      (pack [(7, 0, c.byte 8), (8, 8, 1), (63, 32, x - s.time)]) := by
  simp [State.forceOn, hF, hr, h, hcap, pack, State.forcedShot]

end

/-! ### FORCE_OFF (R307) -/

section
variable {a : Nat}

theorem State.forceOffAct_of_idle (h : (s.act a).shot = none) : s.forceOffAct a false = (s.overrideEnd a s.time 2, 0, 0, false) := by
  simp [State.forceOffAct, h]

theorem State.forceOffAct_of_running {h : Shot} {flush : Bool} {u : State} {free : List Nat} (hshot : (s.act a).shot = some h)
    (hst : h.st = 0) (hu : u = s.overrideEnd a s.time 2)
    (hfree : free = if flush = true then (below 8).filter (fun k => 1 ≤ (u.slot a k).st && (u.slot a k).st ≤ 3) else []) :
    s.forceOffAct a flush = (free.foldl (fun (x : State) k => x.freeSlot a k 2) u, (s.runningSlots a).foldl (fun n k => n + 2 ^ k) 0,
      free.foldl (fun n k => n + 2 ^ k) 0, h.forced) := by
  subst hfree hu
  simp [State.forceOffAct, hshot, hst]

end

/-- FORCE_OFF on every actuator in turn that queue pair `q` owns: the state, how many shots ended, and how many slots were freed. -/
def State.forceOffOwned (s : State) (q : Nat) (flush : Bool) : State × Nat × Nat :=
  ((below 96).filter (fun a => s.owns q a)).foldl (fun (x : State × Nat × Nat) a =>
    ((x.1.forceOffAct a flush).1, x.2.1 + (match (x.1.act a).shot with | some h => decide (h.st = 0) | none => false).toNat,
      x.2.2 + maskCount (x.1.forceOffAct a flush).2.2.1)) (s, 0, 0)

section
variable {flush : Bool} (hF : s.atF c = true) (hflush : flush = decide (c.byte 9 % 2 = 1))
include hF hflush

theorem State.forceOff_one (ha : c.byte 8 ≠ 255) {r : State × Nat × Nat × Bool} (hr : r = s.forceOffAct (c.byte 8) flush) :
    s.forceOff c = r.1.finish c 0 (pack [(7, 0, c.byte 8), (15, 8, r.2.1), (23, 16, r.2.2.1), (24, 24, r.2.2.2.toNat)]) := by
  subst hr hflush
  rw [State.forceOff, if_neg (by simp [hF])]
  exact if_neg ha

theorem State.forceOff_owned (ha : c.byte 8 = 255) {r : State × Nat × Nat} (hr : r = s.forceOffOwned c.qp flush) :
    s.forceOff c = r.1.finish c 0 (pack [(7, 0, 255), (23, 8, r.2.1), (39, 24, r.2.2)]) := by
  subst hr hflush
  rw [State.forceOff, if_neg (by simp [hF])]
  exact if_pos ha

end

/-! ### The statement -/

theorem exec_cancelEvent_runsOn {e : Fin 64} (h : s.runsOn 0x22 e c) : exec (.cancelEvent e) s = .next (s.cancelTake c).settle := by
  rw [exec, execCancelEvent, execute_command_runsOn h]

theorem exec_cancelDecision_runsOn {e : Fin 64} (h : s.runsOn 0x22 e c) :
    exec (.cancelDecision e) s = .next (s.cancelDecide c).settle := by
  obtain ⟨hl, hc, hop, ⟨t, hstart, -⟩, htarget, -⟩ := h
  rw [exec, execCancelDecision, execute_live _ hl]
  simp [hc, hop, hstart, State.here, htarget]

theorem exec_forceOn_runsOn {e : Fin 64} (i : Fin 1024) (h : s.runsOn 0x23 e c) :
    exec (.forceOn e i) s = .next (s.forceOn i c).settle := by
  rw [exec, execForceOn, execute_command_runsOn h]

theorem exec_forceOff_runsOn {e : Fin 64} (h : s.runsOn 0x24 e c) : exec (.forceOff e) s = .next (s.forceOff c).settle := by
  rw [exec, execForceOff, execute_command_runsOn h]

/-- Settles O18: CANCEL_EVENT as it is taken, as it is decided and on one slot; FORCE_ON by its check; FORCE_OFF of one actuator and of
all that the queue pair owns, and on one actuator. -/
theorem cancelAndForceCommandsFinish : Obligations.CancelAndForceCommandsFinish := by
  refine ⟨fun s e c hrun => ⟨fun hp ht => ?_, fun hp ht hsent r hr => ?_, fun k => ⟨State.cancelSlot_of_unmatched, fun hm =>
      ⟨State.cancelSlot_of_waiting hm, State.cancelSlot_of_running hm, State.cancelSlot_of_end_locked hm, State.cancelSlot_of_ended hm⟩⟩⟩,
    fun s e i c ht => ⟨fun hrun => ?_, fun hrun flush hflush => ?_⟩,
    fun s a => ⟨State.forceOffAct_of_idle, fun h flush hshot hst u free => State.forceOffAct_of_running hshot hst⟩⟩
  · rw [exec_cancelEvent_runsOn hrun, State.cancelTake_in_slot hp ht (State.runsOn_started_ne hrun)]
  · rw [exec_cancelDecision_runsOn hrun]
    refine ⟨fun hnone => ?_, fun hsome => ?_⟩
    · rw [State.cancelDecide_of_none hp ht hsent hr.symm hnone]
    · rw [State.cancelDecide_of_some hp ht hsent hr.symm hsome]
  · have hF := State.atF_of_runsOn hrun ht
    rw [exec_forceOn_runsOn i hrun]
    refine ⟨fun hno => ?_, fun hok hwhole => ?_, fun x hok hcut => ?_⟩
    · rw [State.forceOn_of_refused i hF rfl hno]
    · rw [State.forceOn_of_whole i hF rfl hok hwhole]
      rfl
    · rw [State.forceOn_of_cut i hF rfl hok hcut]
      rfl
  · have hF := State.atF_of_runsOn hrun ht
    rw [exec_forceOff_runsOn hrun]
    refine ⟨fun hone r hr => ?_, fun hall r hr => ?_⟩
    · rw [State.forceOff_one hF hflush hone hr]
    · rw [State.forceOff_owned hF hflush hall hr]

end Sys2Proof.Machine
end

section
/-! SUPPORT. What the reactions to a fault leave standing of the idle checks (R228, R233, R244): reports, closing records, gates, ends of
shots and disabling change neither TIME nor what says which idle fault of an actuator is due. -/

namespace Sys2Proof.Machine

/-- From `s` to `u` TIME stands, and so does all that says which idle fault of ACT[a] is due (R228): since when its conditions hold,
what it has reported, and its delay. -/
structure State.KeepsIdle (a : Fin 96) (s u : State) : Prop where
  time : u.time = s.time
  lim : u.reg (rDIAG_LIM a) = s.reg (rDIAG_LIM a)
  idleOn : (u.act a).idleOn = (s.act a).idleOn
  idleRep : (u.act a).idleRep = (s.act a).idleRep

theorem State.railOf_lt (s : State) (m : Nat) : s.railOf m < 12 := by
  have hls : s.lsLane m < 256 := fld_lt ..
  have hrail : s.rf (rACT_CFG m) 26 26 < 2 := fld_lt ..
  simp only [State.railOf, State.trayOf]
  omega

namespace State.KeepsIdle

variable {a : Fin 96} {s u v : State}

theorem refl (s : State) : KeepsIdle a s s := ⟨rfl, rfl, rfl, rfl⟩

theorem foldl {ι : Type} {f : State → ι → State} (hf : ∀ u i, KeepsIdle a s u → KeepsIdle a s (f u i)) (l : List ι)
    (h : KeepsIdle a s u) : KeepsIdle a s (l.foldl f u) := by
  induction l generalizing u with
  | nil => exact h
  | cons i l ih => exact ih (hf u i h)

theorem ite {c : Prop} [Decidable c] (hu : KeepsIdle a s u) (hv : KeepsIdle a s v) : KeepsIdle a s (if c then u else v) := by
  split
  · exact hu
  · exact hv

variable (h : KeepsIdle a s u)
include h

/-- A change that touches neither TIME, the registers nor the actuators. -/
theorem other (htime : v.time = u.time := by rfl) (hregs : v.regs = u.regs := by rfl) (hacts : v.acts = u.acts := by rfl) :
    KeepsIdle a s v := by
  refine ⟨htime.trans h.time, .trans ?_ h.lim, .trans ?_ h.idleOn, .trans ?_ h.idleRep⟩ <;>
    simp only [State.reg, State.act, hregs, hacts]

/-! ### Registers and actuators -/

/-- No DIAG_LIM stands below 0x7804 or above 0x7DF4. -/
theorem setReg {b : Nat} {x : Word} (hb : b < 0x7804 ∨ 0x7E00 ≤ b := by decide) : KeepsIdle a s (u.setReg b x) := by
  refine ⟨h.time, ?_, h.idleOn, h.idleRep⟩
  rw [u.reg_setReg, if_neg (by simp only [rDIAG_LIM]; omega), h.lim]

theorem setRb {b i : Nat} {x : Bool} (hb : b < 0x7804 ∨ 0x7E00 ≤ b := by decide) : KeepsIdle a s (u.setRb b i x) := (h.setReg hb).other

theorem setAct {m : Nat} {x : Act} (hon : x.idleOn = (u.act m).idleOn := by rfl) (hrep : x.idleRep = (u.act m).idleRep := by rfl) :
    KeepsIdle a s (u.setAct m x) := by
  refine ⟨h.time, h.lim, .trans ?_ h.idleOn, .trans ?_ h.idleRep⟩ <;> rw [u.act_setAct] <;> split
  · next heq => rw [hon, heq]
  · rfl
  · next heq => rw [hrep, heq]
  · rfl

theorem modShot {m : Nat} {f : Shot → Shot} : KeepsIdle a s (u.modShot m f) := h.setAct

/-! ### Reports (R244 to R246) -/

theorem summaryIn : KeepsIdle a s u.summaryIn := by
  unfold State.summaryIn
  split
  · exact h
  · exact .ite h.other h

theorem coalesce {code : Nat} : KeepsIdle a s (u.coalesce code) := by
  unfold State.coalesce
  extract_lets m v
  have hv : KeepsIdle a s v := h.other
  exact (hv.setReg : KeepsIdle a s (v.bump rDIAG_LOST 15 0)).setReg (.inr (Nat.le_add_right_of_le (by decide)))

theorem latchCause {k : Nat} : KeepsIdle a s (u.latchCause k) := by
  have hbit : KeepsIdle a s (u.setRb rSAFE_CAUSE k true) := h.setRb
  exact .ite hbit hbit.other

theorem report {r : Report} : KeepsIdle a s (u.report r) := by
  unfold State.report
  extract_lets safe u v w x
  have hu : KeepsIdle a s u := .ite h.other h
  have hv : KeepsIdle a s v := .ite hu.latchCause hu
  have hw : KeepsIdle a s w := hv.summaryIn
  refine .ite hv (.ite ?_ hw.other)
  split
  · next l _ => exact .ite (hw.other : KeepsIdle a s (State.hand { w with hands := w.hands.erase l } x)).coalesce hw.coalesce
  · exact hw.coalesce

/-! ### Closing a shot record (R186, R212) -/

theorem railEnergy {m drv rcv : Nat} : KeepsIdle a s (u.railEnergy (u.railOf m) drv rcv) := by
  have hr := u.railOf_lt m
  unfold State.railEnergy
  extract_lets x d v y z
  have hy : KeepsIdle a s y := h.other
  have hz : KeepsIdle a s z := hy.setReg (.inl (by simp only [rBST_E_DRV]; omega))
  exact hz.setReg (.inl (by simp only [rBST_E_RCV]; omega))

theorem closeShot {m : Nat} {sh : Shot} : KeepsIdle a s (u.closeShot m sh) := by
  unfold State.closeShot
  extract_lets missed v lane drv rcv f at_ w
  have hv : KeepsIdle a s v := .ite h.setReg h
  have hw : KeepsIdle a s w := .ite hv.railEnergy hv
  exact hw.setAct

theorem cutWatch {m : Nat} : KeepsIdle a s (u.cutWatch m) := by
  unfold State.cutWatch
  split
  · extract_lets _ v w
    have hv : KeepsIdle a s v := .ite h.other h
    have hw : KeepsIdle a s w := hv.setReg
    exact .closeShot hw.setAct
  · exact h

/-! ### Gates (R149) -/

theorem drive {n : Nat} {want : Bool} {t : Nat} : KeepsIdle a s (u.drive n want t) := .ite h (.ite h.other h.other)

theorem gates {m t : Nat} : KeepsIdle a s (u.gates m t) := by
  unfold State.gates
  split
  · exact h.drive.drive.drive
  · extract_lets v rises w
    have hv : KeepsIdle a s v := h.drive.drive
    have hw : KeepsIdle a s w := hv.foldl (fun x m hx => hx.drive) _
    exact .ite (hw.foldl (fun x m hx => hx.cutWatch) _) hw

/-! ### The end of a shot (R107, R153 to R160) -/

theorem dutyAdd {m t : Nat} : KeepsIdle a s (u.dutyAdd m t) := by
  unfold State.dutyAdd
  split
  · extract_lets from_ key v
    have hv : KeepsIdle a s v := h.other
    exact .ite h hv.setAct
  · exact h

theorem flagAction {m t f : Nat} {start : Bool} : KeepsIdle a s (u.flagAction m start t f) := .ite h h.other

theorem setCmp {m hi lo : Nat} : KeepsIdle a s (u.setCmp m hi lo) := .ite h.other h

theorem clampNow {m i : Nat} : KeepsIdle a s (u.clampNow m i) := .ite h.other h

theorem placeEnd {m t mode i : Nat} {safe : Bool} {ov : Option Nat} : KeepsIdle a s (u.placeEnd m t mode safe ov i) := by
  unfold State.placeEnd
  split
  · exact h
  · extract_lets v ks w zero ssd x y _ z _ z'
    have hw : KeepsIdle a s w := h.dutyAdd.foldl (fun x k hx => .flagAction hx.other) ks
    have hx : KeepsIdle a s x := hw.modShot
    have hy : KeepsIdle a s y := .ite hx.setReg hx
    have hz : KeepsIdle a s z := .ite hy.setAct hy
    have hz' : KeepsIdle a s z' := .ite hz.other hz
    exact .ite h (.other hz'.setCmp.gates.clampNow)

theorem normalEnd {m e i : Nat} {sh : Shot} : KeepsIdle a s (u.normalEnd m e i sh) := by
  unfold State.normalEnd
  extract_lets ks last own safe cut mode v
  have hv : KeepsIdle a s v := .ite h.modShot h
  exact hv.placeEnd

theorem overrideEnd {m at_ status : Nat} : KeepsIdle a s (u.overrideEnd m at_ status) := by
  unfold State.overrideEnd
  split
  · refine .ite h ?_
    split
    · exact .ite h.normalEnd h.placeEnd
    · exact h.placeEnd
  · exact h

theorem freeSlot {m k status : Nat} : KeepsIdle a s (u.freeSlot m k status) := by
  unfold State.freeSlot
  extract_lets x shown v w
  have hv : KeepsIdle a s v := .ite (.ite h.other h.other) h
  have hw : KeepsIdle a s w := .ite hv.setReg hv
  exact hw.other

/-! ### Disabling (R233) -/

theorem recause {m cause rank : Nat} : KeepsIdle a s (u.recause m cause rank) := by
  unfold State.recause
  split
  · extract_lets _ v
    have hv : KeepsIdle a s v := .setAct (h.setReg (.inr (Nat.le_add_right ..)))
    exact .ite hv.other h
  · exact h

theorem disable {m cause rank : Nat} : KeepsIdle a s (u.disable m cause rank) := by
  unfold State.disable
  extract_lets _ v w x
  have hv : KeepsIdle a s v := .setAct (h.setRb (.inr (Nat.le_add_right_of_le (by decide))))
  have hw : KeepsIdle a s w := .setReg (hv.setRb (.inr (Nat.le_add_right ..))) (.inr (Nat.le_add_right ..))
  have hx : KeepsIdle a s x := hw.overrideEnd.foldl (fun x k hx => .ite hx.freeSlot hx) _
  exact .ite h.recause hx.report

theorem lengthen {m k : Nat} {react : Word} : KeepsIdle a s (u.lengthen m k react).1 := h.setReg (.inr (Nat.le_add_right ..))

theorem shotFault {m code at_ lane v1 v2 : Nat} {k : Option Nat} {ends did adds : Bool} {sh : Shot} :
    KeepsIdle a s (u.shotFault m code k ends at_ lane v1 v2 sh did adds) := by
  unfold State.shotFault
  extract_lets v q run ended w x y
  have hv : KeepsIdle a s v := h.setRb (.inr (Nat.le_add_right ..))
  have hq : KeepsIdle a s q.1 := by
    cases k with
    | none => exact hv
    | some k => cases adds with
      | true => exact hv.lengthen
      | false => exact hv
  have hw : KeepsIdle a s w := hq.report
  have hx : KeepsIdle a s x := .ite hw.modShot hw
  have hy : KeepsIdle a s y := .ite hx.overrideEnd hx
  exact .ite hy.disable hy

end State.KeepsIdle

@[simp] theorem State.shotFault_time (s : State) {a code at_ lane v1 v2 : Nat} {k : Option Nat} {ends did adds : Bool} {sh : Shot} :
    (s.shotFault a code k ends at_ lane v1 v2 sh did adds).time = s.time := (KeepsIdle.refl (a := 0) s).shotFault.time

@[simp] theorem State.drive_time (s : State) (n : Nat) (want : Bool) (t : Nat) : (s.drive n want t).time = s.time :=
  (KeepsIdle.refl (a := 0) s).drive.time

end Sys2Proof.Machine
end

section
/-! SUPPORT. The ends of a profile's phases and the move to the next one (R141 to R144, R239), and the statement about them. -/

namespace Sys2Proof.Machine

variable {s : State} {a : Nat} {h : Shot}

/-! ### T_MIN and T_MAX (R141, R142) -/

@[simp] theorem pastTmin_iff {x : BitVec 128} {entry t : Nat} : pastTmin x entry t = true ↔ entry + 64 * phTmin x ≤ t := by
  simp [pastTmin]

@[simp] theorem pastTmax_iff {x : BitVec 128} {entry t : Nat} : pastTmax x entry t = true ↔ entry + 64 * phTmax x ≤ t := by
  simp [pastTmax]

/-! ### The next phase (R144, R239) -/

section
variable (hshot : (s.act a).shot = some h) (hst : h.st = 0)
include hshot hst

theorem State.nextPhase_of_unended (hend : ∀ e, h.endLock = some e → s.time + 4 < e) (i : Nat) :
    s.nextPhase a i = if phLast (s.phaseRec h.prof (h.phase + 1)) = true ∧ s.spent a = true then s.strictEnd a (s.time + 4) i
      else s.enterPhase a (h.phase + 1) (s.time + 4) i := by
  cases hlock : h.endLock with
  | none => simp [State.nextPhase, hshot, hst, hlock]
  | some e => simp [State.nextPhase, hshot, hst, hlock, hend e hlock]

/-- An end locked at or before the moment of the next phase comes first. -/
theorem State.nextPhase_of_ended {e : Nat} (hlock : h.endLock = some e) (he : e ≤ s.time + 4) (i : Nat) : s.nextPhase a i = s := by
  simp [State.nextPhase, hshot, hst, hlock, he]

end

/-! ### The commands of the LS lane's slot -/

section
variable {a : Fin 96} (i : Fin 1024) (hl : s.live = true) (hshot : (s.act a).shot = some h) (hslot : s.lsSlot a = true)
include hl hshot hslot

theorem exec_phaseTimeExit_due (hwalk : s.walking a = true) (hexit : phExit (s.phaseOf a h) = 1)
    (hdue : h.entry + 64 * phTmax (s.phaseOf a h) ≤ s.time) : exec (.phaseTimeExit a i) s = .next (s.nextPhase a i).settle := by
  simp only [exec, execPhaseTimeExit, execute_live _ hl, hshot]
  rw [if_pos (by simp [hslot, hwalk, hexit, hdue])]

theorem exec_phaseTminEnd_due (hwalk : s.walking a = true) (hearly : h.early = true)
    (hdue : h.entry + 64 * phTmin (s.phaseOf a h) ≤ s.time) : exec (.phaseTminEnd a i) s = .next (s.nextPhase a i).settle := by
  simp only [exec, execPhaseTminEnd, execute_live _ hl, hshot]
  rw [if_pos (by simp [hslot, hwalk, hearly, hdue])]

theorem exec_phaseTmaxTimeout_due (hjudged : s.judged h = true) (hcls : s.cls a ≠ 4) (hlast : phLast (s.phaseOf a h) = false)
    (hentry : h.entry ≤ s.time) (hexit : phExit (s.phaseOf a h) = 0 ∨ phExit (s.phaseOf a h) = 2) (hmet : h.met = false)
    (hdue : h.entry + 64 * phTmax (s.phaseOf a h) ≤ s.time) (hend : ∀ e, h.endLock = some e → s.time + 4 < e) :
    exec (.phaseTmaxTimeout a i) s = .next ((if phPeak (s.phaseOf a h) then s.peakTimeout a h
      else s.modShot a (fun g => { g with sflags := setBit g.sflags 1 true })).nextPhase a i).settle := by
  simp only [exec, execPhaseTmaxTimeout, execute_live _ hl, hshot]
  rw [if_pos]
  cases hlock : h.endLock with
  | none => simp [hslot, hjudged, hcls, hlast, hentry, hexit, hmet, hdue]
  | some e => simp [hslot, hjudged, hcls, hlast, hentry, hexit, hmet, hdue, hend e hlock]

end

/-- Settles O19: the three ends of a phase in the LS lane's slot, and the move to the next one. -/
theorem phasesMoveOn : Obligations.PhasesMoveOn := by
  refine ⟨fun s a i h hl hshot hslot => ⟨exec_phaseTimeExit_due i hl hshot hslot, exec_phaseTminEnd_due i hl hshot hslot,
      exec_phaseTmaxTimeout_due i hl hshot hslot⟩,
    fun s a i h hshot hst => ⟨fun hend => State.nextPhase_of_unended hshot hst hend i,
      fun e hlock he => State.nextPhase_of_ended hshot hst hlock he i⟩⟩

end Sys2Proof.Machine
end

section
/-! SUPPORT. Current crossings, the regulated lane and the ends of a turn-off (R139, R141, R153 to R159), and the statement about them.
A command of a due time acts in the core cycle that holds it, t < TIME + 4 (log entry 13). -/

namespace Sys2Proof.Machine

variable {s : State} {a : Nat} {h : Shot}

/-! ### The regulated lane (R139) -/

section
variable {on : Bool} {t : Nat} (hshot : (s.act a).shot = some h)
include hshot

/-- The lane stands where the crossing wants it: a switching that waits is dropped. -/
theorem State.chop_of_eq (hon : h.regOn = on) : s.chop a on t = s.modShot a (fun g => { g with regWant := none }) := by
  simp [State.chop, hshot, hon]

theorem State.chop_after_tmin (hon : h.regOn ≠ on) (ht : h.regAt + 500 * s.rf (rACT_CFG a) 18 16 ≤ t) :
    s.chop a on t = (s.modShot a (fun g => { g with regOn := on, regAt := t, regWant := none })).gates a t := by
  simp [State.chop, hshot, hon, ht]

theorem State.chop_before_tmin (hon : h.regOn ≠ on) (ht : t < h.regAt + 500 * s.rf (rACT_CFG a) 18 16) :
    s.chop a on t = s.modShot a (fun g => { g with regWant := some on }) := by
  simp [State.chop, hshot, hon, Nat.not_le.2 ht]

end

/-! ### Crossings (R139, R141, R153) -/

section
variable {t : Nat} (hshot : (s.act a).shot = some h)
include hshot

section
variable (hst : h.st = 0) (hcls : s.cls a ≠ 4) (hentry : h.entry ≤ t)
include hst hcls hentry

theorem State.regCross_regulates {rise : Bool} (hreg : phReg (s.phaseOf a h) ≠ 0)
    (hexit : ¬(rise = true ∧ phExit (s.phaseOf a h) = 0 ∧ phDir (s.phaseOf a h) = true ∧ phLast (s.phaseOf a h) = false)) :
    s.regCross a rise t = s.chop a (!rise) t := by
  have hno : (rise && (phExit (s.phaseOf a h) == 0 && phDir (s.phaseOf a h) && !phLast (s.phaseOf a h))) = false := by
    rw [← Bool.not_eq_true]
    simpa [and_assoc] using hexit
  rw [State.regCross]
  simp [hshot, hst, hcls, hentry, hreg, hno]

/-- A phase that regulates nothing and does not exit by CURRENT notes that its target was reached. -/
theorem State.regCross_notes_target (hreg : phReg (s.phaseOf a h) = 0)
    (hexit : phLast (s.phaseOf a h) = true ∨ phExit (s.phaseOf a h) ≠ 0) :
    s.regCross a true t = s.modShot a (fun g => { g with sflags := setBit g.sflags 0 true }) := by
  rw [State.regCross]
  simp [hshot, hst, hcls, hentry, hreg, hexit]

end

/-- The current falls through I_ZERO. -/
theorem State.regCross_zero (hst : h.st = 1) (hoff : h.off ≤ 2) (hzero : h.zeroAt = none) (hcls : s.cls a ≤ 2) :
    s.regCross a false t = (s.modShot a (fun g => { g with zeroAt := some t })).gates a t := by
  rw [State.regCross]
  simp [hshot, hst, hoff, hzero, hcls]

end

section
variable {a : Fin 96} (hl : s.live = true)
include hl

theorem exec_regulationCrossing (rise : Bool) (ofs : Fin 4) :
    exec (.regulationCrossing a rise ofs) s = .next (s.regCross a rise (s.time + ofs.val)).settle := by
  simp only [exec, execRegulationCrossing, execute_live _ hl]

variable (hshot : (s.act a).shot = some h)
include hshot

theorem exec_exitCrossing_current (ofs : Fin 4) (hwalk : s.walking a = true) (hexit : phExit (s.phaseOf a h) = 0) :
    exec (.exitCrossing a ofs) s = .next (s.exitCross a (s.time + ofs.val)).settle := by
  simp only [exec, execExitCrossing, execute_live _ hl, hshot]
  rw [if_pos (by simp [hwalk, hexit])]

theorem exec_chopTminExpiry_due {w : Bool} (hst : h.st = 0) (hwant : h.regWant = some w)
    (hdue : h.regAt + 500 * s.rf (rACT_CFG a) 18 16 < s.time + 4) :
    exec (.chopTminExpiry a) s = .next ((s.modShot a (fun g =>
      { g with regOn := w, regAt := h.regAt + 500 * s.rf (rACT_CFG a) 18 16, regWant := none })).gates a
        (h.regAt + 500 * s.rf (rACT_CFG a) 18 16)).settle := by
  simp only [exec, execChopTminExpiry, execute_live _ hl, hshot, hwant]
  rw [if_pos (by simp [hst, hdue])]

/-! ### Turn-offs (R154, R158, R159) -/

variable (hst : h.st = 1)
include hst

theorem exec_coilTailEnd_due (hslot : s.lsSlot a = true) (hoff : h.off = 3)
    (hdue : h.tailFrom + 4000 * s.rf (rACT_SAFE a) 9 0 ≤ s.time) :
    exec (.coilTailEnd a) s = .next (s.finishOff a s.time).settle := by
  simp only [exec, execCoilTailEnd, execute_live _ hl, hshot]
  rw [if_pos (by simp [hslot, hst, hoff, hdue])]

theorem exec_softShutdownEnd_due {t : Nat} (ht : t = h.tEnd + 1000000 * (s.rf (rACT_SAFE a) 29 27 + 1)) (hoff : h.off = 4)
    (hzero : h.zeroAt = none) (hdue : t < s.time + 4) :
    exec (.softShutdownEnd a) s = .next (((s.modShot a (fun g => { g with zeroAt := some t })).setLane (s.lsLane a)
      { s.lane (s.lsLane a) with linear := none }).gates a t).settle := by
  subst ht
  simp only [exec, execSoftShutdownEnd, execute_live _ hl, hshot]
  rw [if_pos (by simp [hst, hoff, hzero, hdue])]

theorem exec_turnOffTimeout_due (hslot : s.lsSlot a = true) (hoff : h.off ≤ 2) (hzero : h.zeroAt = none)
    (hdue : h.tEnd + 32000 * max 1 (s.rf (rACT_CFG a) 7 0) ≤ s.time) :
    exec (.turnOffTimeout a) s = .next (((s.modShot a (fun g => { g with sflags := setBit g.sflags 2 true })).shotFault a 8 none false 0
      (s.lsLane a) h.iNow h.phase h).finishOff a s.time).settle := by
  simp only [exec, execTurnOffTimeout, execute_live _ hl, hshot]
  rw [if_pos (by simpa [hslot, hst, hoff, hzero] using hdue), State.shotFault_time]
  rfl

end

/-- Settles O20: the crossings of a shot, the regulated lane, and the three ends of a turn-off. -/
theorem crossingsAndTurnOffs : Obligations.CrossingsAndTurnOffs := by
  refine ⟨fun s a ofs h hl hshot => ⟨fun hst hcls hentry => ⟨fun rise hreg hexit => ?_, fun hreg hexit => ?_⟩,
      fun hst hoff hzero hcls => ?_, fun w hst hwant => exec_chopTminExpiry_due hl hshot hst hwant,
      exec_exitCrossing_current hl hshot ofs⟩,
    fun s a t on h hshot => ⟨State.chop_of_eq hshot, State.chop_after_tmin hshot, State.chop_before_tmin hshot⟩,
    fun s a h hl hshot hst => ⟨exec_turnOffTimeout_due hl hshot hst, exec_coilTailEnd_due hl hshot hst,
      fun hoff hzero hdue => exec_softShutdownEnd_due hl hshot hst rfl hoff hzero hdue⟩⟩
  · rw [exec_regulationCrossing hl, State.regCross_regulates hshot hst hcls hentry hreg hexit]
  · rw [exec_regulationCrossing hl, State.regCross_notes_target hshot hst hcls hentry hreg hexit]
  · rw [exec_regulationCrossing hl, State.regCross_zero hshot hst hoff hzero hcls]

end Sys2Proof.Machine
end

section
/-! SUPPORT. Faults of shots, idle faults and over-current trips (R156, R175, R182, R183, R226 to R229, log entry 23), and the statement
about them. -/

namespace Sys2Proof.Machine

variable {s : State} {h : Shot}

/-! ### The commands of the LS lane's slot (R182, R183, R226, R227) -/

section
variable {a : Fin 96} (hl : s.live = true) (hslot : s.lsSlot a = true)
include hl hslot

theorem exec_closeWatchTimeout_due (hwatch : (s.act a).watch = some h) (hdue : h.tOff + 1000 * fld (s.sigB a h) 23 14 ≤ s.time) :
    exec (.closeWatchTimeout a) s = .next (s.cutWatch a).settle := by
  simp only [exec, execCloseWatchTimeout, execute_live _ hl, hwatch]
  rw [if_pos (by simp [hslot, hdue])]

variable (hshot : (s.act a).shot = some h)
include hshot

theorem exec_openWatchEnd_due (hopens : s.opens a h = true) (hopen : h.tOpen = none) (hdone : h.openDone = false)
    (hdue : h.tAct + 4000 * fld (s.sigA a h) 23 16 ≤ s.time) :
    exec (.openWatchEnd a) s = .next
      ((s.modShot a (fun g => { g with openDone := true, sflags := setBit g.sflags 5 true })).bump rSFB_CNT_B 31 16).settle := by
  simp only [exec, execOpenWatchEnd, execute_live _ hl, hshot]
  rw [if_pos (by simp [hslot, hopens, hopen, hdone, hdue])]

theorem exec_openLoadCheck_due (hjudged : s.judged h = true) (hdone : h.olDone = false) (hth : fld h.lim 23 14 ≠ 0)
    (hdue : h.tAct + 8000 * fld h.lim 13 8 ≤ s.time) {u : State} (hu : u = s.modShot a (fun g => { g with olDone := true })) :
    exec (.openLoadCheck a) s = .next (if h.iMax < fld h.lim 23 14 then u.shotFault a 2 (some 2) false 0 (s.lsLane a) h.iMax h.phase h
      else u.setRun a 2 0).settle := by
  subst hu
  simp only [exec, execOpenLoadCheck, execute_live _ hl, hshot]
  rw [if_pos (by simp [hslot, hjudged, hdone, hth, hdue])]
  rfl

theorem exec_desatFault_due (hst : h.st ≤ 1) (hlim : fld h.lim 7 4 ≠ 0) (hrun : fld h.lim 7 4 ≤ h.desatRun) :
    exec (.desatFault a) s = .next ((s.modShot a (fun g => { g with desatRun := 0, swFault := true })).shotFault a 1 (some 1) true
      (s.time + 4) (s.lsLane a) h.iNow h.phase h).settle := by
  simp only [exec, execDesatFault, execute_live _ hl, hshot]
  rw [if_pos (by simp [hslot, hst, hlim, hrun])]
  rfl

end

/-! ### Idle faults (R228) -/

/-- How long an idle condition of ACT[a] stands before it is a fault, ns. -/
def State.idleDelay (s : State) (a : Nat) : Nat := 1000000 * (s.rf (rDIAG_LIM a) 27 24 + 1)

/-- A condition true since `on` has stood for `delay` at `now` and has not been reported. -/
def idleOnset (on : Option Nat) (reported : Bool) (delay now : Nat) : Bool := on.any (fun t => !reported && decide (t + delay ≤ now))

section
variable {on : Option Nat} {reported : Bool} {delay now t : Nat}

theorem idleOnset_none : idleOnset none reported delay now = false := rfl

theorem idleOnset_reported : idleOnset on true delay now = false := by simp [idleOnset]

theorem idleOnset_early (h : now < t + delay) : idleOnset (some t) reported delay now = false := by simp [idleOnset, h]

theorem idleOnset_due (h : t + delay ≤ now) : idleOnset (some t) false delay now = true := by simp [idleOnset, h]

end

/-- Idle check `j` of ACT[a] has stood long enough and has not been reported. -/
def State.idleDue (s : State) (a j : Nat) : Bool :=
  idleOnset ((s.act a).idleOn.getD j none) (bit (s.act a).idleRep j) (s.idleDelay a) s.time

/-- Idle check `j` of ACT[a] counts as reported, and its DIAG_AST bit is set. -/
def State.idleNoted (s : State) (a j : Nat) : State :=
  (s.setAct a { s.act a with idleRep := setBit (s.act a).idleRep j true }).setRb (rDIAG_AST a) (19 + j) true

/-- The onset of idle fault `j` of ACT[a] is reported, and disables where OFF_DIS says so. -/
def State.idleReport (s : State) (a j : Nat) : State :=
  let u := s.idleNoted a j
  let v := u.report { code := 3 + j, object := a, lane := u.lsLane a, v1 := if j = 2 then (s.act a).iLast else 0
                      react := 2 * (u.rb (rDIAG_REACT a) 15 && !u.disabled a).toNat }
  if u.rb (rDIAG_REACT a) 15 then v.disable a (3 + j) else v

/-- Idle check `j` in its turn. -/
def State.idleStep (a : Nat) (s : State) (j : Nat) : State := if s.idleDue a j then s.idleReport a j else s

theorem State.idleStep_of_due {a j : Nat} (h : s.idleDue a j = true) : s.idleStep a j = s.idleReport a j := if_pos h

theorem State.idleStep_of_not_due {a j : Nat} (h : s.idleDue a j = false) : s.idleStep a j = s := if_neg (ne_true_of_eq_false h)

theorem State.idleFaults_eq (s : State) (a : Nat) : s.idleFaults a = (below 3).foldl (State.idleStep a) s := by
  unfold State.idleFaults
  congr 1
  funext x j
  cases hon : (x.act a).idleOn.getD j none with
  | none => simp only [State.idleStep, State.idleDue, idleOnset, hon, Option.any_none, Bool.false_eq_true, if_false]
  | some t =>
    simp only [State.idleStep, State.idleDue, idleOnset, hon, Option.any_some]
    rfl

theorem State.idleDue_eq_false {a i : Nat} (h : (s.act a).idleOn.getD i none = none ∨ bit (s.act a).idleRep i = true ∨
      ∃ t, (s.act a).idleOn.getD i none = some t ∧ s.time < t + s.idleDelay a) : s.idleDue a i = false := by
  rcases h with hnone | hrep | ⟨t, hon, hearly⟩
  · rw [State.idleDue, hnone, idleOnset_none]
  · rw [State.idleDue, hrep, idleOnset_reported]
  · rw [State.idleDue, hon, idleOnset_early hearly]

theorem State.idleDue_of_due {a j t : Nat} (hon : (s.act a).idleOn.getD j none = some t) (hrep : bit (s.act a).idleRep j = false)
    (hdue : t + s.idleDelay a ≤ s.time) : s.idleDue a j = true := by
  rw [State.idleDue, hon, hrep, idleOnset_due hdue]

theorem State.KeepsIdle.idleDue {a : Fin 96} {u : State} (h : KeepsIdle a s u) (i : Nat) : u.idleDue a i = s.idleDue a i := by
  simp only [State.idleDue, State.idleDelay, State.rf, h.time, h.lim, h.idleOn, h.idleRep]

theorem State.idleNoted_idleDue {a : Fin 96} {i j : Nat} (hi : i < 3) (hne : i ≠ j) : (s.idleNoted a j).idleDue a i = s.idleDue a i := by
  have hset : (s.idleNoted a j).idleDue a i
      = (s.setAct a { s.act a with idleRep := setBit (s.act a).idleRep j true }).idleDue a i :=
    ((KeepsIdle.refl _).setRb (.inr (Nat.le_add_right ..))).idleDue i
  rw [hset]
  simp only [State.idleDue, State.idleDelay, State.rf, State.act_setAct_self, State.setAct_reg, State.setAct_time,
    bit_setBit_of_ne _ _ _ _ hi hne]

theorem State.idleReport_keepsIdle {a : Fin 96} {j : Nat} : KeepsIdle a (s.idleNoted a j) (s.idleReport a j) := by
  unfold State.idleReport
  extract_lets u v
  have hv : KeepsIdle a u v := (KeepsIdle.refl u).report
  exact .ite hv.disable hv

/-- The report of one idle check leaves the others as they were. -/
theorem State.idleReport_idleDue {a : Fin 96} {i j : Nat} (hi : i < 3) (hne : i ≠ j) : (s.idleReport a j).idleDue a i = s.idleDue a i := by
  rw [State.idleReport_keepsIdle.idleDue, State.idleNoted_idleDue hi hne]

theorem State.idleFaults_of_one {a : Fin 96} {j : Nat} (hj : j < 3) (hdue : s.idleDue a j = true)
    (hothers : ∀ i, i < 3 → i ≠ j → s.idleDue a i = false) : s.idleFaults a = s.idleReport a j := by
  have hafter (i : Nat) (hi : i < 3) (hne : i ≠ j) : (s.idleReport a j).idleDue a i = false :=
    (State.idleReport_idleDue hi hne).trans (hothers i hi hne)
  rw [State.idleFaults_eq, show below 3 = [0, 1, 2] from rfl, List.foldl_cons, List.foldl_cons, List.foldl_cons, List.foldl_nil]
  obtain rfl | rfl | rfl : j = 0 ∨ j = 1 ∨ j = 2 := by omega
  · rw [State.idleStep_of_due hdue, State.idleStep_of_not_due (hafter 1 (by decide) (by decide)),
      State.idleStep_of_not_due (hafter 2 (by decide) (by decide))]
  · rw [State.idleStep_of_not_due (hothers 0 (by decide) (by decide)), State.idleStep_of_due hdue,
      State.idleStep_of_not_due (hafter 2 (by decide) (by decide))]
  · rw [State.idleStep_of_not_due (hothers 0 (by decide) (by decide)), State.idleStep_of_not_due (hothers 1 (by decide) (by decide)),
      State.idleStep_of_due hdue]

theorem exec_idleFault {a : Fin 96} (hl : s.live = true) (hslot : s.lsSlot a = true) :
    exec (.idleFault a) s = .next (s.idleFaults a).settle := by
  simp only [exec, execIdleFault, execute_live _ hl, hslot, if_true]

/-! ### Over-current trips (R156, R175, R229) -/

/-- What a trip of lane `n` at code `i` does to ACT[a], which names it: it trips the shot whose phase in force uses the lane, or waits as a
fault of the LS lane between shots. -/
def State.tripNamer (n i : Nat) (y : State) (a : Nat) : State :=
  match (y.act a).shot with
  | some h =>
    if (y.lsLane a = n ∧ h.st ≤ 1) ∨ (h.st = 0 ∧ ((y.roleLane a 1 = n ∧ phLists (y.phaseOf a h) 1 = true) ∨
        (y.roleLane a 2 = n ∧ phLists (y.phaseOf a h) 2 = true))) then y.tripShot a n i h else y
  | none => if y.lsLane a = n then y.setAct a { y.act a with pend := (y.act a).pend ++ [{ code := 0, lane := n, cur := i }] } else y

theorem State.trip_of_off {n i : Nat} (h : (s.lane n).gate = false ∨ (s.lane n).oc = true) : s.trip n i = s :=
  if_pos (by simpa using h)

theorem State.trip_fires {n i : Nat} (hgate : (s.lane n).gate = true) (hoc : (s.lane n).oc = false) {u v : State}
    (hu : u = (s.setLane n { s.lane n with oc := true, gate := false, lastEdge := some (s.time + 4) }).emit (.gate n false (s.time + 4)))
    (hv : v = (u.setRb (if n % 48 < 32 then rTRAY_OC_LO (n / 48) else rTRAY_OC_HI (n / 48)) (n % 48 % 32) true).bump
      (rTRAY_CNT (n / 48)) 31 16) : s.trip n i = (v.namers n).foldl (State.tripNamer n i) v := by
  subst hu hv
  rw [State.trip, if_neg (by simp [hgate, hoc])]
  change List.foldl _ _ _ = _
  congr 1
  funext y a
  cases hshot : (y.act a).shot <;> simp only [State.tripNamer, hshot, Bool.or_eq_true, Bool.and_eq_true, beq_iff_eq, decide_eq_true_eq]

theorem exec_overCurrent {n : Fin 192} {i : Fin 1024} {c : Instr} (hl : s.live = true)
    (hc : c ∈ [Instr.overCurrentTrip n i, Instr.ocBlankEnd n i]) : exec c s = .next (if s.blankOver n then s.trip n i else s).settle := by
  obtain rfl | rfl : c = .overCurrentTrip n i ∨ c = .ocBlankEnd n i := by simpa using hc
  · simp only [exec, execOverCurrentTrip, execute_live _ hl]
  · simp only [exec, execOcBlankEnd, execute_live _ hl]

/-- Settles O22: the checks in the LS lane's slot, the idle faults, and the over-current trip with what it does to the actuators that
name the lane. -/
theorem faultsOfShotsAreFound : Obligations.FaultsOfShotsAreFound := by
  refine ⟨fun s a h hl hslot => ⟨exec_openWatchEnd_due hl hslot, exec_closeWatchTimeout_due hl hslot,
      fun hshot hjudged hdone hth hdue => exec_openLoadCheck_due hl hslot hshot hjudged hdone hth hdue rfl⟩,
    fun s a hl hslot => ⟨fun h => exec_desatFault_due hl hslot, fun j t hj hon hrep hdue hothers => ?_⟩,
    fun s n i hl c hc => ⟨fun hoff => ?_, fun hblank hgate hoc u v hu hv => ?_⟩⟩
  · rw [exec_idleFault hl hslot, State.idleFaults_of_one hj (State.idleDue_of_due hon hrep hdue)
      (fun i hi hne => State.idleDue_eq_false (hothers i hi hne))]
    rfl
  · rw [exec_overCurrent hl hc]
    rcases hoff with hblank | hoff
    · simp [hblank]
    · simp [State.trip_of_off hoff]
  · rw [exec_overCurrent hl hc, if_pos hblank, State.trip_fires hgate hoc hu hv]
    rfl

end Sys2Proof.Machine
end

section
/-! SUPPORT. Writes of the actuator, bank, lane, feedback and re-enable registers (R129, R130, R161, R163, R193, R234; log entries 19, 50 and
53), and the statement about them. -/

namespace Sys2Proof.Machine

variable {s : State}

/-! ### Writes that wait (R451) -/

section
variable {b : Nat} {v : Word} {f : State → State}

theorem State.trayWrite_of_stopped (h : s.trayWait b = true) : s.trayWrite b v f = { s with barWait := s.barWait ++ [(b, v)] } := if_pos h

theorem State.trayWrite_of_clocked (h : s.trayWait b = false) : s.trayWrite b v f = f s := if_neg (ne_true_of_eq_false h)

end

/-! ### ACT_CFG (R129, R130) -/

section
variable {a : Nat} {v : Word}

theorem actCfg_mask (v : Word) : v &&& 0x8FFFFFFF &&& 0x7FFFFFFF = v &&& 0x0FFFFFFF := by
  rw [BitVec.and_assoc]
  rfl

/-- An unbind is refused: a slot of ACT[a] is not FREE, or a forced shot is on it (R130). -/
def State.actHeld (s : State) (a : Nat) : Bool :=
  (below 8).any (fun k => (s.slot a k).st != 0) || (match (s.act a).shot with | some h => h.forced | none => false)

theorem State.actHeld_iff : s.actHeld a = true ↔ (∃ k < 8, (s.slot a k).st ≠ 0) ∨ ∃ h, (s.act a).shot = some h ∧ h.forced = true := by
  cases hshot : (s.act a).shot <;> simp [State.actHeld, below, hshot]

section
variable (hbound : s.rb (rACT_CFG a) 31 = true)
include hbound

theorem State.actCfgWrite_of_bound : s.actCfgWrite a v =
    if v &&& 0x0FFFFFFF ≠ s.reg (rACT_CFG a) &&& 0x0FFFFFFF then s.setRb (rACT_STAT a) 29 true
    else if bit v 31 then s
    else if s.actHeld a then s.setRb (rACT_STAT a) 29 true
    else (s.unbind a).setRb (rACT_CFG a) 31 false := by
  refine (if_pos hbound).trans ?_
  simp only [actCfg_mask]
  rfl

/-- Every field but BIND is fixed while the actuator is bound. -/
theorem State.actCfgWrite_fixed (hv : v &&& 0x0FFFFFFF ≠ s.reg (rACT_CFG a) &&& 0x0FFFFFFF) :
    s.actCfgWrite a v = s.setRb (rACT_STAT a) 29 true := by
  rw [State.actCfgWrite_of_bound hbound, if_pos hv]

variable (hv : v &&& 0x0FFFFFFF = s.reg (rACT_CFG a) &&& 0x0FFFFFFF)
include hv

theorem State.actCfgWrite_rebind (hbind : bit v 31 = true) : s.actCfgWrite a v = s := by
  rw [State.actCfgWrite_of_bound hbound, if_neg (not_not.2 hv), if_pos hbind]

variable (hbind : bit v 31 = false)
include hbind

theorem State.actCfgWrite_held (hheld : s.actHeld a = true) : s.actCfgWrite a v = s.setRb (rACT_STAT a) 29 true := by
  rw [State.actCfgWrite_of_bound hbound, if_neg (not_not.2 hv), if_neg (ne_true_of_eq_false hbind), if_pos hheld]

theorem State.actCfgWrite_unbinds (hheld : s.actHeld a = false) : s.actCfgWrite a v = (s.unbind a).setRb (rACT_CFG a) 31 false := by
  rw [State.actCfgWrite_of_bound hbound, if_neg (not_not.2 hv), if_neg (ne_true_of_eq_false hbind), if_neg (ne_true_of_eq_false hheld)]

end

section
variable (hbound : s.rb (rACT_CFG a) 31 = false) {u : State} (hu : u = s.setReg (rACT_CFG a) (v &&& 0x8FFFFFFF))
include hbound hu

theorem State.actCfgWrite_of_unbound : s.actCfgWrite a v =
    if bit v 31 then
      (if u.bindErr a = 0 then u.bind a else (u.setRb (rACT_CFG a) 31 false).setAct a { s.act a with bindErr := u.bindErr a })
    else u := by
  subst hu
  exact if_neg (ne_true_of_eq_false hbound)

theorem State.actCfgWrite_stores (hbind : bit v 31 = false) : s.actCfgWrite a v = u := by
  rw [State.actCfgWrite_of_unbound hbound hu, if_neg (ne_true_of_eq_false hbind)]

variable (hbind : bit v 31 = true)
include hbind

theorem State.actCfgWrite_binds (herr : u.bindErr a = 0) : s.actCfgWrite a v = u.bind a := by
  rw [State.actCfgWrite_of_unbound hbound hu, if_pos hbind, if_pos herr]

theorem State.actCfgWrite_bind_fails (herr : u.bindErr a ≠ 0) :
    s.actCfgWrite a v = (u.setRb (rACT_CFG a) 31 false).setAct a { s.act a with bindErr := u.bindErr a } := by
  rw [State.actCfgWrite_of_unbound hbound hu, if_pos hbind, if_neg herr]

end

end

/-! ### LANE_CFG (R163) -/

section
variable {n : Nat} {v : Word}

theorem State.laneCfgWrite_fixed (h : s.laneFixed n = true) : s.laneCfgWrite n v = s.setRb (rLANE_CFG n) 13 true := if_pos h

section
variable (hfree : s.laneFixed n = false) {w : Word} {u : State} (hw : w = setBit (v &&& 0xFFFE0000) 13 (s.rb (rLANE_CFG n) 13 && !bit v 13))
  (hu : u = s.setReg (rLANE_CFG n) (if s.laneOn n then w else setFld w 31 30 0))
include hfree hw hu

theorem State.laneCfgWrite_of_free {z : State} (hz : z = u.drive n false u.time) : s.laneCfgWrite n v =
    if u.gmode n = 0 then z.setLane n { z.lane n with rdy := false, settle := none, bootUv := false, bootHold := false }
    else if u.gmode n = s.gmode n then u
    else z.setLane n { z.lane n with
      rdy := false
      settle := if u.run != 1 && u.rf rCLK_STAT 25 22 != 0 then
        some (max (z.time + 20000) (if u.run ≠ 0 ∧ u.pwr.seqAt ≠ 0 then u.pwr.seqAt + 22000 else 0)) else none
      bootUv := false, bootHold := false } := by
  subst hz hu hw
  exact if_neg (ne_true_of_eq_false hfree)

/-- A lane in no gate mode goes off and needs no settling. -/
theorem State.laneCfgWrite_off (hg : u.gmode n = 0) {z : State} (hz : z = u.drive n false u.time) :
    s.laneCfgWrite n v = z.setLane n { z.lane n with rdy := false, settle := none, bootUv := false, bootHold := false } := by
  rw [State.laneCfgWrite_of_free hfree hw hu hz, if_pos hg]

theorem State.laneCfgWrite_same (hg : u.gmode n ≠ 0) (hsame : u.gmode n = s.gmode n) : s.laneCfgWrite n v = u := by
  rw [State.laneCfgWrite_of_free hfree hw hu rfl, if_neg hg, if_pos hsame]

/-- In RUN with the tray clock up, a lane in a new gate mode goes off and settles for 20 us. -/
theorem State.laneCfgWrite_settles (hg : u.gmode n ≠ 0) (hother : u.gmode n ≠ s.gmode n) (hrun : s.run = 0)
    (hclk : s.rf rCLK_STAT 25 22 ≠ 0) {z : State} (hz : z = u.drive n false u.time) :
    s.laneCfgWrite n v =
      z.setLane n { z.lane n with rdy := false, settle := some (z.time + 20000), bootUv := false, bootHold := false } := by
  have hrunu : u.run = 0 := by
    rw [hu]
    exact hrun
  have hclku : u.rf rCLK_STAT 25 22 ≠ 0 := by
    rw [hu, State.rf, State.reg_setReg, if_neg (by simp only [rLANE_CFG, rCLK_STAT]; omega)]
    exact hclk
  rw [State.laneCfgWrite_of_free hfree hw hu hz, if_neg hg, if_neg hother]
  simp [hrunu, hclku]

end

end

section
variable (hl : s.live = true)
include hl

theorem exec_actCfgWrite (a : Fin 96) (v : Word) : exec (.actCfgWrite a v) s = .next (s.actCfgWrite a v).settle := by
  simp only [exec, execActCfgWrite, execute_live _ hl]

theorem exec_bankCfgWrite (b : Fin 32) (v : Word) : exec (.bankCfgWrite b v) s = .next (s.bankCfgWrite b v).settle := by
  simp only [exec, execBankCfgWrite, execute_live _ hl]

theorem exec_laneCfgWrite (n : Fin 192) (v : Word) :
    exec (.laneCfgWrite n v) s = .next (s.trayWrite (rLANE_CFG n) v (fun s => s.laneCfgWrite n v)).settle := by
  simp only [exec, execLaneCfgWrite, execute_live _ hl]

theorem exec_actuatorReenable (m : Fin 3) (v : Word) : exec (.actuatorReenable m v) s = .next (s.reenableWord m v).settle := by
  simp only [exec, execActuatorReenable, execute_live _ hl]

theorem exec_feedbackUnfreeze (m : Fin 3) (v : Word) :
    exec (.feedbackUnfreeze m v) s = .next (s.trayWrite (rSFB_FROZEN m) v (fun s => s.unfreezeWord m v)).settle := by
  simp only [exec, execFeedbackUnfreeze, execute_live _ hl]

end

/-! ### Re-enabling (R234) -/

section
variable {a : Nat}

theorem State.reenRefused_iff : s.reenRefused a = true ↔ (s.lsLane a < 192 ∧ s.rb (rTRAY_TEMP (s.trayOf a)) 21 = true) ∨
    (s.roleLane a 2 < 192 ∧ (s.rail (s.railOf a)).st = 5) := by
  simp [State.reenRefused]

theorem State.reenable_of_refused (h : s.reenRefused a = true) : s.reenable a = s.setRb rDIAG_GSTAT 30 true := if_pos h

variable (h : s.reenRefused a = false)
include h

theorem State.reenable_of_enabled (hdis : s.disabled a = false) : s.reenable a = s := by
  rw [State.reenable, if_neg (ne_true_of_eq_false h), if_pos (by simp [hdis])]

theorem State.reenable_of_disabled (hdis : s.disabled a = true) :
    s.reenable a = ((s.setRb (rDIAG_DIS (a / 32)) (a % 32) false).setRf (rDIAG_AST a) 31 28 0xF).setRf (rDIAG_AST a) 15 0 0 := by
  rw [State.reenable, if_neg (ne_true_of_eq_false h), if_neg (by simp [hdis])]

end

/-- Settles O23: the writes of ACT_CFG, BANK_CFG and LANE_CFG, of the feedback and diagnostics words, and one actuator's share in those. -/
theorem actuatorRegistersGuardTheirFields : Obligations.ActuatorRegistersGuardTheirFields := by
  refine ⟨fun s v hl => ⟨fun a hbound => ?_, fun a hfree => ?_, fun b => exec_bankCfgWrite hl b v, fun n => ?_⟩,
    fun s m v hl => ⟨exec_actuatorReenable hl m v, fun hwait => ?_, fun hclk => ?_⟩,
    fun s a => ⟨rfl, State.reenable_of_refused, State.reenable_of_enabled, State.reenable_of_disabled, State.reenRefused_iff⟩⟩
  · rw [exec_actCfgWrite hl]
    refine ⟨fun hv => ?_, fun hv => ⟨fun hbind => ?_, fun hbind => ⟨fun hheld => ?_, fun hslots hshots => ?_⟩⟩⟩
    · rw [State.actCfgWrite_fixed hbound hv]
    · rw [State.actCfgWrite_rebind hbound hv hbind]
    · rw [State.actCfgWrite_held hbound hv hbind (State.actHeld_iff.2 hheld)]
    · have hfree : s.actHeld a = false := by
        rw [← Bool.not_eq_true, State.actHeld_iff]
        rintro (⟨k, hk, hst⟩ | ⟨h, hshot, hforced⟩)
        · exact hst (hslots k hk)
        · simp [hshots h hshot] at hforced
      rw [State.actCfgWrite_unbinds hbound hv hbind hfree]
  · rw [exec_actCfgWrite hl]
    refine ⟨fun hbind herr => ?_, fun hbind herr => ?_, fun hbind => ?_⟩
    · rw [State.actCfgWrite_bind_fails hfree rfl hbind herr]
    · rw [State.actCfgWrite_binds hfree rfl hbind herr]
    · rw [State.actCfgWrite_stores hfree rfl hbind]
  · rw [exec_laneCfgWrite hl]
    refine ⟨fun hwait => ?_, fun hclk => ⟨fun hfixed => ?_, fun hfree => ⟨fun hg => ?_, fun hg hsame => ?_, fun hg hother hrun hup => ?_⟩⟩⟩
    · rw [State.trayWrite_of_stopped hwait]
    · rw [State.trayWrite_of_clocked hclk, State.laneCfgWrite_fixed hfixed]
    · rw [State.trayWrite_of_clocked hclk, State.laneCfgWrite_off hfree rfl rfl hg rfl]
    · rw [State.trayWrite_of_clocked hclk, State.laneCfgWrite_same hfree rfl rfl hg hsame]
    · rw [State.trayWrite_of_clocked hclk, State.laneCfgWrite_settles hfree rfl rfl hg hother hrun hup rfl]
  · rw [exec_feedbackUnfreeze hl, State.trayWrite_of_stopped hwait]
  · rw [exec_feedbackUnfreeze hl, State.trayWrite_of_clocked hclk]
    rfl

end Sys2Proof.Machine
end

section
/-! SUPPORT. Lane slots, bootstrap supplies, settling, duty sub-windows and tray temperatures (R163, R165, R169, R170, R186, R196, R230, R235,
R241 to R243; log entries 19, 23 and 51), and the statement about them. -/

namespace Sys2Proof.Machine

variable {s : State}

/-! ### A lane's slot (R165, R169, R170, R186, R196) -/

section
variable {n code : Nat} {above bel : Bool}

/-- The actuators that name LANE[n] as their LS lane, ascending. -/
def State.lsNamers (s : State) (n : Nat) : List Nat := (below 96).filter (fun a => s.lsLane a = n)

/-- The actuator that LANE[n]'s slot serves: the first bound one that names it as LS, else the first that does. -/
def State.slotOwner (s : State) (n : Nat) : Option Nat := ((s.lsNamers n).find? (fun a => (s.act a).bound)).or (s.lsNamers n).head?

/-- The sample LANE[n] holds in its slot, with the trimmed code. -/
def State.slotHeld (s : State) (n code : Nat) : Held :=
  match s.slotOwner n with
  | some a => s.holdNow n a code
  | none => { t := s.time, code := code, drain := (s.lane n).mux, uns := false, ph := none, hs := false, hsv := false, ls := false }

/-- A lane takes the sample held in the slot before: its current, or its drain voltage while the current reads zero. -/
def Lane.taken (l : Lane) (prev : Option Held) : Lane :=
  match prev with
  | some y => if y.drain then { l with vd := y.code, i := 0 } else { l with i := y.code }
  | none => l

theorem Lane.taken_eq (l : Lane) (prev : Option Held) : l.taken prev = { l with
    i := match prev with | some y => (if y.drain then 0 else y.code) | none => l.i
    vd := match prev with | some y => (if y.drain then y.code else l.vd) | none => l.vd } := by
  cases prev with
  | none => rfl
  | some y => cases hdrain : y.drain <;> simp only [Lane.taken, hdrain, if_true, Bool.false_eq_true, if_false]

/-- LANE[n] in its slot: it holds `code`, and takes the code held before. -/
def State.slotLane (s : State) (n code : Nat) (above bel : Bool) : Lane :=
  let low := s.gmode n == 1 && (s.lane n).rdy
  { s.lane n with
    above := low && above, below_ := low && bel, bootUv := (s.lane n).bootUv && !above
    held := some (s.slotHeld n code) : Lane }.taken (s.lane n).held

/-- The work of LANE[n]'s slot: its unbound actuators hand over their records, the one it serves takes the sample held before. -/
def State.slotServed (s : State) (n code : Nat) (above bel : Bool) : State :=
  let u := ((s.lsNamers n).filter (fun a => !(s.act a).bound)).foldl (fun (y : State) a => y.handRecords a)
    (s.setLane n (s.slotLane n code above bel))
  match s.slotOwner n, (s.lane n).held with
  | some a, some y => u.lsWork a code y
  | _, _ => u

/-- TRAY_PEEK_DATA follows LANE[n] where TRAY_PEEK names it (R196). -/
def State.trayPeeked (s : State) (n : Nat) : State :=
  if s.rf (rTRAY_PEEK (n / 48)) 5 0 = n % 48 then s.setReg (rTRAY_PEEK_DATA (n / 48)) (s.lane n).peekWord else s

theorem State.laneSlot_idle (h : s.time % 64 ≠ 4 * (n % 16) ∨ s.inDoze = true) : s.laneSlot n code above bel = s :=
  if_pos (by simpa [laneSlotAt] using h)

theorem State.laneSlot_serves (ht : s.time % 64 = 4 * (n % 16)) (hdoze : s.inDoze = false) : s.laneSlot n code above bel =
    (s.slotServed n (if (s.lane n).rdy then s.trimmed n code else 0) above bel).trayPeeked n :=
  if_neg (by simp [laneSlotAt, ht, hdoze])

end

theorem exec_laneSlot (hl : s.live = true) (n : Fin 192) (code : Fin 1024) (above bel : Bool) :
    exec (.laneSlot n code above bel) s = .next (s.laneSlot n code above bel).settle := by
  simp only [exec, execLaneSlot, execute_live _ hl]

/-! ### Bootstrap supplies and settling (R163, R165, R230) -/

section
variable {n : Nat}

/-- LANE[n] with its bootstrap supply under-voltage and its gate off (R165). -/
def State.bootUvOff (s : State) (n : Nat) : State :=
  let l := s.lane n
  let u := s.setLane n { l with bootUv := true, bootHold := l.gate, gate := false, lastEdge := if l.gate then some s.nextCycle else l.lastEdge }
  if l.gate then u.emit (.gate n false s.nextCycle) else u

theorem State.bootUvOff_of_on (h : (s.lane n).gate = true) : s.bootUvOff n =
    (s.setLane n { s.lane n with bootUv := true, bootHold := true, gate := false, lastEdge := some (s.time + 4) }).emit
      (.gate n false (s.time + 4)) := by
  simp only [State.bootUvOff, h, if_true]
  rfl

theorem State.bootUvOff_of_off (h : (s.lane n).gate = false) :
    s.bootUvOff n = s.setLane n { s.lane n with bootUv := true, bootHold := false, gate := false } := by
  simp only [State.bootUvOff, h, Bool.false_eq_true, if_false]

/-- The fault of LANE[n]'s bootstrap supply waits for the LS slot of ACT[a]'s shot (R230). -/
def State.bootUvNamer (n : Nat) (y : State) (a : Nat) : State :=
  match (y.act a).shot with
  | some h => if y.judged h then
      let z := y.modShot a (fun g => { g with swFault := true })
      z.setAct a { z.act a with pend := (z.act a).pend ++ [{ code := 6, lane := n, cur := 0, phase := h.phase, shot := true }] }
    else y
  | none => y

theorem State.bootUv_of_inert (h : s.gmode n ≠ 2 ∨ (s.lane n).rdy = false ∨ (s.lane n).bootUv = true) : s.bootUv n = s := if_pos h

theorem State.bootUv_fires (hmode : s.gmode n = 2) (hrdy : (s.lane n).rdy = true) (huv : (s.lane n).bootUv = false) {u : State}
    (hu : u = (s.bootUvOff n).bump (rTRAY_CNT (n / 48)) 15 0) : s.bootUv n = (u.namers n).foldl (State.bootUvNamer n) u := by
  subst hu
  exact if_neg (by simp [hmode, hrdy, huv])

end

section
variable (hl : s.live = true) (n : Fin 192)
include hl

theorem exec_bootstrapUndervoltage : exec (.bootstrapUndervoltage n) s = .next (s.bootUv n).settle := by
  simp only [exec, execBootstrapUndervoltage, execute_live _ hl]

variable {t : Nat} (hsettle : (s.lane n).settle = some t)
include hsettle

theorem exec_laneSettled_due (ht : t < s.time + 4) {u : State} (hu : u = s.setLane n { s.lane n with settle := none, rdy := true }) :
    exec (.laneSettled n) s = .next ((u.lsActs n).foldl (fun (y : State) a => y.gates a t) u).settle := by
  subst hu
  simp only [exec, execLaneSettled, execute_live _ hl, hsettle, if_pos ht]

theorem exec_laneSettled_early (ht : s.time + 4 ≤ t) : exec (.laneSettled n) s = .next s.settle := by
  simp only [exec, execLaneSettled, execute_live _ hl, hsettle, if_neg (Nat.not_lt.2 ht)]

end

/-! ### Duty sub-windows (R235) -/

theorem State.subwindow_changes {a w : Nat} (ht : s.time % 64 = 0) (hbound : (s.act a).bound = true) (hw : w = s.time / s.subLen a)
    (hnew : w ≠ (s.act a).subWin) {u : State} (hu : u = s.dutyAdd a s.time) : s.subwindow a =
    ({ u.setAct a { u.act a with subWin := w } with duty := tabSet 0 u.duty (16 * a + w % 16) 0 } : State).rewrote 7 (16 * a + w % 16) 1 := by
  subst hw hu
  exact if_pos ⟨ht, hbound, hnew⟩

theorem exec_subwindowChange (hl : s.live = true) (a : Fin 96) : exec (.subwindowChange a) s = .next (s.subwindow a).settle := by
  simp only [exec, execSubwindowChange, execute_live _ hl]

/-! ### Tray temperatures (R241 to R243) -/

section
variable {t code : Nat}

/-- The tray's sample is kept, in TRAY_TEMP and in the log of the highest ones. -/
def State.trayNoted (s : State) (t code : Nat) : State :=
  { s.setRf (rTRAY_TEMP t) 9 0 code with
    devLog := { s.devLog with temps := s.devLog.temps.set t (max code (s.devLog.temps.getD t 0)) } }

/-- TWARN follows the sample (R242). -/
def State.trayWarned (s : State) (t code : Nat) : State :=
  if !s.rb (rTRAY_TEMP t) 20 && decide (s.rf (rTRAY_TEMP t) 31 22 ≤ code) then
    (s.setRb (rTRAY_TEMP t) 20 true).report { code := 13, object := t, v1 := code, v2 := 1 }
  else if s.rb (rTRAY_TEMP t) 20 && decide (code + 20 < s.rf (rTRAY_TEMP t) 31 22) then s.setRb (rTRAY_TEMP t) 20 false
  else s

/-- What hangs on a tray, the listed actuators and its two rails, is disabled; a rail that BST_HOLD holds stays (R243). -/
def State.trayDisabled (s : State) (t : Nat) (l : List Nat) : State :=
  [2 * t, 2 * t + 1].foldl (fun (y : State) r =>
    if y.rf rBST_HOLD 30 28 = r ∧ y.rf rBST_HOLD 27 20 ≠ 0xFF then y else y.setRb (rBST_CFG r) 31 false)
      (l.foldl (fun (y : State) a => y.disable a 13) s)

/-- TSD sets: the tray's actuators and rails are disabled, with a report (R243). -/
def State.trayShutDown (s : State) (t code : Nat) : State :=
  let w := s.setRb (rTRAY_TEMP t) 21 true
  let l := (below 96).filter (fun a => (w.act a).bound && w.trayOf a == t)
  (w.trayDisabled t l).report { code := 13, object := t, v1 := code, v2 := 2, react := 2 * (l.any (fun a => !w.disabled a)).toNat }

section
variable {v : State}

/-- The four cases of TWARN and the sample settle the flag, 20 codes apart (R242). -/
theorem State.eq_trayWarned
    (hset : s.rb (rTRAY_TEMP t) 20 = false → s.rf (rTRAY_TEMP t) 31 22 ≤ code →
      v = (s.setRb (rTRAY_TEMP t) 20 true).report { code := 13, object := t, v1 := code, v2 := 1 })
    (hclear : s.rb (rTRAY_TEMP t) 20 = true → code + 20 < s.rf (rTRAY_TEMP t) 31 22 → v = s.setRb (rTRAY_TEMP t) 20 false)
    (hlow : s.rb (rTRAY_TEMP t) 20 = false → code < s.rf (rTRAY_TEMP t) 31 22 → v = s)
    (hhigh : s.rb (rTRAY_TEMP t) 20 = true → s.rf (rTRAY_TEMP t) 31 22 ≤ code + 20 → v = s) : v = s.trayWarned t code := by
  unfold State.trayWarned
  cases hwarn : s.rb (rTRAY_TEMP t) 20 with
  | false =>
    rcases Nat.lt_or_ge code (s.rf (rTRAY_TEMP t) 31 22) with hlt | hge
    · simp [hlow hwarn hlt, Nat.not_le.2 hlt]
    · simp [hset hwarn hge, hge]
  | true =>
    rcases Nat.lt_or_ge (code + 20) (s.rf (rTRAY_TEMP t) 31 22) with hlt | hge
    · simp [hclear hwarn hlt, hlt]
    · simp [hhigh hwarn hge, Nat.not_lt.2 hge]

variable (hon : s.inRun = true ∨ s.inSafe = true) {u : State} (hu : u = s.trayNoted t code) (hv : v = u.trayWarned t code)
include hon hu hv

theorem State.trayTemp_eq : s.trayTemp t code =
    if !u.rb (rTRAY_TEMP t) 21 && decide (0x1C0 ≤ code) then v.trayShutDown t code
    else if u.rb (rTRAY_TEMP t) 21 && decide (code < 0x1AC) then v.setRb (rTRAY_TEMP t) 21 false
    else v := by
  subst hu hv
  exact if_neg (by rcases hon with h | h <;> simp [h])

theorem State.trayTemp_cool (htsd : u.rb (rTRAY_TEMP t) 21 = false) (hcode : code < 0x1C0) : s.trayTemp t code = v := by
  simp [State.trayTemp_eq hon hu hv, htsd, Nat.not_le.2 hcode]

theorem State.trayTemp_hot (htsd : u.rb (rTRAY_TEMP t) 21 = true) (hcode : 0x1AC ≤ code) : s.trayTemp t code = v := by
  simp [State.trayTemp_eq hon hu hv, htsd, Nat.not_lt.2 hcode]

theorem State.trayTemp_cooled (htsd : u.rb (rTRAY_TEMP t) 21 = true) (hcode : code < 0x1AC) :
    s.trayTemp t code = v.setRb (rTRAY_TEMP t) 21 false := by
  simp [State.trayTemp_eq hon hu hv, htsd, hcode]

theorem State.trayTemp_shuts_down (htsd : u.rb (rTRAY_TEMP t) 21 = false) (hcode : 0x1C0 ≤ code) :
    s.trayTemp t code = v.trayShutDown t code := by
  simp [State.trayTemp_eq hon hu hv, htsd, hcode]

end

end

theorem exec_trayTempSample (hl : s.live = true) (t : Fin 4) (code : Fin 1024) :
    exec (.trayTempSample t code) s = .next (s.trayTemp t code).settle := by
  simp only [exec, execTrayTempSample, execute_live _ hl]

/-- Settles O21: a lane's slot, its bootstrap supply and its settling, the actuator's duty sub-window, and the tray's temperature. -/
theorem lanesSampleSettleAndFollowSupplies : Obligations.LanesSampleSettleAndFollowSupplies := by
  refine ⟨fun s n code above bel hl => ?_, fun s n hl => ?_,
    fun s hl => ⟨fun a ht hbound hnew => ?_, fun t code hon u v hu hset hclear hlow hhigh => ?_⟩⟩
  · rw [exec_laneSlot hl]
    refine ⟨fun h => ?_, fun ht hdoze => ?_⟩
    · rw [State.laneSlot_idle h]
    · rw [State.laneSlot_serves ht hdoze, State.slotServed, State.slotLane, Lane.taken_eq]
      rfl
  · rw [exec_bootstrapUndervoltage hl]
    refine ⟨fun hmode hrdy huv u hon hoff => ?_, fun h => ?_, fun t hsettle ht u => exec_laneSettled_due hl n hsettle ht,
      fun t => exec_laneSettled_early hl n⟩
    · have hu : u = s.bootUvOff n := by
        cases hgate : (s.lane n).gate with
        | true => rw [hon hgate, State.bootUvOff_of_on hgate]
        | false => rw [hoff hgate, State.bootUvOff_of_off hgate]
      rw [State.bootUv_fires hmode hrdy huv rfl, ← hu]
      rfl
    · rw [State.bootUv_of_inert h]
  · rw [exec_subwindowChange hl, State.subwindow_changes ht hbound rfl hnew rfl]
  · have hv := State.eq_trayWarned hset hclear hlow hhigh
    rw [exec_trayTempSample hl]
    refine ⟨fun htsd hcode => ?_, fun htsd hcode => ?_, fun htsd hcode => ?_, fun htsd hcode w l hw hactors => ?_⟩
    · rw [State.trayTemp_cool hon hu hv htsd hcode]
    · rw [State.trayTemp_hot hon hu hv htsd hcode]
    · rw [State.trayTemp_cooled hon hu hv htsd hcode]
    · subst hw hactors
      rw [State.trayTemp_shuts_down hon hu hv htsd hcode]
      rfl

end Sys2Proof.Machine
end

section
/-! SUPPORT. Completions and records as they leave, on the master and on a slave (R185, R280 to R287, R332, R334; log entries 27 and 33), and
the statement about them. -/

namespace Sys2Proof.Machine

variable {s : State}

/-! ### The next completion (R281, R285) -/

section
variable {q : Nat}

theorem State.cplNext_head {c : Cpl} {l : List Cpl} (hwait : (s.qp q).wait = c :: l) (hheld : s.cplHeld c = false)
    (hroom : s.cplFree q c = true ∨ s.cqRoom q = true) : s.cplNext q = some c := by
  rw [State.cplNext, hwait]
  exact List.find?_cons_of_pos (by simpa [hheld] using hroom.symm)

theorem State.cplNext_eq_none_iff : s.cplNext q = none ↔
    ∀ c ∈ (s.qp q).wait, s.cplHeld c = true ∨ (s.cqRoom q = false ∧ s.cplFree q c = false) := by
  simp [State.cplNext, ← Bool.not_eq_false, Classical.or_iff_not_imp_left]

end

/-! ### COMPLETION_WRITE (R280 to R282, R332, R334) -/

section
variable {q : Nat} {c : Cpl}

theorem State.cplWrite_next (hnext : s.cplNext q = some c) (hdma : s.dmaOk = true) (hen : s.qpEn q = true) {u : State}
    (hu : u = (s.setQp q { s.qp q with wait := (s.qp q).wait.erase c, nextCseq := ((s.qp q).nextCseq + 1) % 65536 }).hostWrite
      (s.addrAt (rQP_CQ_LO q) + 32 * ((s.qp q).nextCseq % s.cqSize q)) 32 (c.bytes (s.qp q).nextCseq)) :
    s.cplWrite q = (if c.irq then u.setRb (rQP_STAT q) 28 true else u).cplGone c := by
  subst hu
  simp only [State.cplWrite, hnext, hdma, hen, Bool.and_self, if_true]
  rfl

theorem State.cplWrite_waits (h : s.cplNext q = none ∨ s.dmaOk = false ∨ s.qpEn q = false) : s.cplWrite q = s := by
  cases hnext : s.cplNext q with
  | none => simp only [State.cplWrite, hnext]
  | some c =>
    have hoff : ¬(s.dmaOk && s.qpEn q) = true := by simpa [hnext, ← Bool.not_eq_true, Classical.or_iff_not_imp_left] using h
    simp only [State.cplWrite, hnext, if_neg hoff]

section
variable (hfwd : s.fwd.find? (fun x => x.qp = q && !s.cplHeld x) = some c)
include hfwd

theorem State.cplSend_command (hslot : c.slot = none) :
    s.cplSend q = (({ s with fwd := s.fwd.erase c }).sendTo 0x11 0 (c.tage.getD 0) 32 (c.bytes 0)).cplGone c := by
  simp only [State.cplSend, hfwd, hslot, Option.isNone_none, if_true]

variable (hslot : c.slot ≠ none)
include hslot

theorem State.cplSend_event_waits (h : (∃ u ∈ s.ring.unans, u.key = 8) ∨ s.fwd.find? (fun x => x.slot.isSome) ≠ some c) :
    s.cplSend q = s := by
  simp only [State.cplSend, hfwd]
  rw [if_neg (by simpa using hslot), if_pos (by simpa using h)]

theorem State.cplSend_event (hans : ∀ u ∈ s.ring.unans, u.key ≠ 8) (hfirst : s.fwd.find? (fun x => x.slot.isSome) = some c) :
    s.cplSend q = ({ s with ring := { s.ring with unans := s.ring.unans ++ [({ key := 8, sent := s.time } : Unans)] } }).sendTo
      0x12 0 (s.tage 8) 32 (c.bytes 0) := by
  simp only [State.cplSend, hfwd]
  rw [if_neg (by simpa using hslot), if_neg (by simpa [hfirst] using hans)]

end

end

section
variable (hl : s.live = true) (q : Fin 32)
include hl

theorem exec_completionWrite_master (hm : s.master = true) : exec (.completionWrite q) s = .next (s.cplWrite q).settle := by
  simp only [exec, execCompletionWrite, execute_live _ hl, hm, if_true]

theorem exec_completionWrite_slave (hm : s.master = false) : exec (.completionWrite q) s = .next (s.cplSend q).settle := by
  simp only [exec, execCompletionWrite, execute_live _ hl, hm, Bool.false_eq_true, if_false]

end

/-! ### RECORD_WRITE (R185, R286, R287, R334) -/

section
variable {r : Nat}

section
variable {l : List Hand} (hlist : l = s.hands.filter (fun h => h.prod == 1 && h.rs == r))
include hlist

theorem State.loseShots_of_none (h : l = []) : s.loseShots r = s := by
  subst hlist
  exact if_pos (by simp [h])

theorem State.loseShots_of_some (h : l ≠ []) : s.loseShots r =
    (({ s with hands := s.hands.filter (fun h => !(h.prod == 1 && h.rs == r)) }).bumpN rSFB_CNT_C 31 16 l.length).setRs r
      { s.rs r with disc := true } := by
  subst hlist
  exact if_neg (by rwa [List.isEmpty_iff])

end

theorem State.recWrite_of_none (h : s.firstHand r = none) : s.recWrite r = s := by simp only [State.recWrite, h]

section
variable {h : Hand} (hfirst : s.firstHand r = some h)
include hfirst

theorem State.recWrite_of_full (hfull : s.rsNoRoom r h.entries.length = true) : s.recWrite r = s.loseShots r := by
  simp only [State.recWrite, hfirst, if_pos hfull]

variable (hroom : s.rsNoRoom r h.entries.length = false)
include hroom

theorem State.recWrite_writes (hdma : s.dmaOk = true) : s.recWrite r = s.writeHand r h := by
  simp only [State.recWrite, hfirst, if_neg (ne_true_of_eq_false hroom), if_pos hdma]

theorem State.recWrite_waits (hdma : s.dmaOk = false) : s.recWrite r = s := by
  simp only [State.recWrite, hfirst, if_neg (ne_true_of_eq_false hroom), if_neg (ne_true_of_eq_false hdma)]

end

/-- On a slave the first record of a stream enters its outbox, or the stream loses its shot records (R185, R334). -/
def State.outboxed (s : State) (r : Nat) : State :=
  match s.firstHand r with
  | some h => if 8 < s.outFill r + h.entries.length then s.loseShots r else s.intoOutbox r h
  | none => s

/-- What becomes of the outbox in each case of the first hand-over decides the state. -/
theorem State.eq_outboxed {u : State} (hfits : ∀ h, s.firstHand r = some h → s.outFill r + h.entries.length ≤ 8 → u = s.intoOutbox r h)
    (hfull : ∀ h, s.firstHand r = some h → 8 < s.outFill r + h.entries.length → u = s.loseShots r)
    (hnone : s.firstHand r = none → u = s) : u = s.outboxed r := by
  cases hfirst : s.firstHand r with
  | none => simp only [State.outboxed, hfirst, hnone hfirst]
  | some h =>
    rcases Nat.lt_or_ge 8 (s.outFill r + h.entries.length) with hlt | hge
    · simp only [State.outboxed, hfirst, if_pos hlt, hfull h hfirst hlt]
    · simp only [State.outboxed, hfirst, if_neg (Nat.not_lt.2 hge), hfits h hfirst hge]

/-- The oldest record in the outbox of a stream is sent unless one of the stream is unanswered (R334). -/
def State.outboxSent (s : State) (r : Nat) : State :=
  match s.ring.outbox.find? (fun h => h.rs = r) with
  | some h =>
    if s.ring.unans.any (fun x => x.key = r) then s
    else ({ s with ring := { s.ring with unans := s.ring.unans ++ [({ key := r, sent := s.time } : Unans)] } }).sendRecord r h
  | none => s

theorem State.recSend_eq : s.recSend r = (s.outboxed r).outboxSent r := rfl

theorem State.outboxSent_sends {h : Hand} (hold : s.ring.outbox.find? (fun h => h.rs = r) = some h)
    (hans : ∀ x ∈ s.ring.unans, x.key ≠ r) : s.outboxSent r =
    ({ s with ring := { s.ring with unans := s.ring.unans ++ [({ key := r, sent := s.time } : Unans)] } }).sendRecord r h := by
  simp only [State.outboxSent, hold]
  exact if_neg (by simpa using hans)

theorem State.outboxSent_waits (h : s.ring.outbox.find? (fun h => h.rs = r) = none ∨ ∃ x ∈ s.ring.unans, x.key = r) :
    s.outboxSent r = s := by
  cases hold : s.ring.outbox.find? (fun h => h.rs = r) with
  | none => simp only [State.outboxSent, hold]
  | some o =>
    have hans : ∃ x ∈ s.ring.unans, x.key = r := by simpa [hold] using h
    simp only [State.outboxSent, hold]
    exact if_pos (by simpa using hans)

end

section
variable (hl : s.live = true) (r : Fin 8)
include hl

theorem exec_recordWrite_master (hm : s.master = true) : exec (.recordWrite r) s = .next (s.recWrite r).settle := by
  simp only [exec, execRecordWrite, execute_live _ hl, hm, if_true]

theorem exec_recordWrite_slave (hm : s.master = false) : exec (.recordWrite r) s = .next (s.recSend r).settle := by
  simp only [exec, execRecordWrite, execute_live _ hl, hm, Bool.false_eq_true, if_false]

end

/-- Settles O29: a completion written by the master, which one is next, and one sent by a slave; a record of the master, and of a slave. -/
theorem completionsAndRecordsAreWritten : Obligations.CompletionsAndRecordsAreWritten := by
  refine ⟨fun s q hl hm => ?_, fun s q c l hwait => ⟨State.cplNext_head hwait, fun hroom hfree => ?_, fun hheld => ?_⟩,
    fun s q c hl hm hfwd => ?_, fun s r hl hm => ?_, fun s u r hl hm hfits hfull hnone => ?_⟩
  · rw [exec_completionWrite_master hl q hm]
    refine ⟨fun c hnext hdma hen => ?_, fun h => ?_⟩
    · rw [State.cplWrite_next hnext hdma hen rfl]
    · rw [State.cplWrite_waits h]
  · exact State.cplNext_eq_none_iff.2 fun x hx => .inr ⟨hroom, hfree x (hwait ▸ hx)⟩
  · exact State.cplNext_eq_none_iff.2 fun x hx => .inl (hheld x (hwait ▸ hx))
  · rw [exec_completionWrite_slave hl q hm]
    refine ⟨fun hslot => ?_, fun hslot h => ?_, fun hslot hans hfirst => ?_⟩
    · rw [State.cplSend_command hfwd hslot]
    · rw [State.cplSend_event_waits hfwd hslot h]
    · rw [State.cplSend_event hfwd hslot hans hfirst]
  · rw [exec_recordWrite_master hl r hm]
    refine ⟨fun h hfirst => ⟨fun hroom hdma => ?_, fun hfull l hlist => ⟨fun hsome => ?_, fun hnone => ?_⟩, fun hdma hroom => ?_⟩,
      fun hnone => ?_⟩
    · rw [State.recWrite_writes hfirst hroom hdma]
    · rw [State.recWrite_of_full hfirst hfull, State.loseShots_of_some hlist hsome]
    · rw [State.recWrite_of_full hfirst hfull, State.loseShots_of_none hlist hnone]
    · rw [State.recWrite_waits hfirst hroom hdma]
    · rw [State.recWrite_of_none hnone]
  · have hu := State.eq_outboxed hfits hfull hnone
    rw [exec_recordWrite_slave hl r hm, State.recSend_eq, ← hu]
    refine ⟨fun h hold hans => ?_, fun h => ?_⟩
    · rw [State.outboxSent_sends hold hans]
    · rw [State.outboxSent_waits h]

end Sys2Proof.Machine
end

section
/-! SUPPORT. A boost controller's slot, the rail states of Table 7.2 and the converter's switching (R201 to R206, R217, R219; log entry 24), and
the statement about them. -/

namespace Sys2Proof.Machine

variable {s : State}

/-! ### The controller's slot (R201 to R206, R217, R219) -/

section
variable {r vb vr vs : Nat}

theorem State.boostSlot_idle (h : s.time % 64 ≠ 0 ∨ s.inDoze = true) : s.boostSlot r vb vr vs = s := if_pos h

theorem State.boostSlot_works (ht : s.time % 64 = 0) (hdoze : s.inDoze = false) {u : State}
    (hu : u = { s.setRail r { s.rail r with vb := vb, vr := vr } with vsup := vs }) :
    s.boostSlot r vb vr vs = (((((u.setpoint r).railTake r).railChecks r).railNext r).holdSlot r).railSwitch r := by
  subst hu
  exact if_neg (by simp [ht, hdoze])

end

theorem exec_boostSlot (hl : s.live = true) (r : Fin 8) (vb vr vs : Fin 1024) :
    exec (.boostSlot r vb vr vs) s = .next (s.boostSlot r vb vr vs).settle := by
  simp only [exec, execBoostSlot, execute_live _ hl]

/-! ### The rail states (Table 7.2) -/

section
variable {r : Nat}

theorem State.quietLow_iff : s.quietLow r = true ↔ (s.rail r).st = 1 ∧ (s.rail r).quietDone = false ∧
    (s.rail r).startAt + 1000000 ≤ s.time ∧ (s.rail r).vb + 50 < s.vsup := by
  simp [State.quietLow, and_assoc]

theorem State.startLate_iff : s.startLate r = true ↔
    (s.rail r).st = 1 ∧ (s.rail r).startAt + 1000000 * max 1 (s.rf (rBST_CFG r) 23 16) ≤ s.time := by
  simp [State.startLate]

/-- The rail stops switching and waits in state `st`: PASS or HOLD. -/
def State.railParks (s : State) (r st : Nat) : State := s.setRail r { s.rail r with st := st, enable := false, uv := false }

/-- Outside RUN every rail goes to OFF; a cleared EN takes there every rail that is not in FAULT. -/
theorem State.railNext_off (h : s.inRun = false ∨ (s.rb (rBST_CFG r) 31 = false ∧ (s.rail r).st ≠ 5)) (hst : (s.rail r).st ≠ 0) :
    s.railNext r = s.railOff r := by
  rw [State.railNext]
  refine (if_pos ?_).trans (if_neg hst)
  rcases h with hrun | ⟨hen, hfault⟩
  · simp [hrun]
  · simp [hen, hfault]

section
variable (hrun : s.inRun = true) (hen : s.rb (rBST_CFG r) 31 = true) (hquiet : s.quietLow r = false) (hlate : s.startLate r = false)
include hrun hen hquiet hlate

/-- An enabled rail in RUN with no limit of START due: rows 4 to 9 of Table 7.2, the first that holds. -/
theorem State.railNext_of_enabled : s.railNext r =
    if ((s.rail r).st = 1 ∨ (s.rail r).st = 2 ∨ (s.rail r).st = 3) ∧ s.dip = true ∧ s.isHoldRail r = false then s.railParks r 4
    else if ((s.rail r).st = 1 ∨ (s.rail r).st = 2) ∧ (s.rail r).setAct < s.vsup + 30 then s.railParks r 3
    else if (s.rail r).st = 3 ∧ s.vsup + 40 ≤ (s.rail r).setAct then s.railStart r
    else if (s.rail r).st = 1 ∧ (s.rail r).setAct ≤ (s.rail r).vb + s.bstHyst r then s.setRail r { s.rail r with st := 2 }
    else if (s.rail r).st = 4 ∧ s.dip = false then s.railStart r
    else if (s.rail r).st = 0 ∨ (s.rail r).st = 5 then s.railStart r
    else s := by
  simp [State.railNext, State.railParks, hrun, hen, hquiet, hlate, and_assoc, or_assoc]

theorem State.railNext_holds (hst : (s.rail r).st = 1 ∨ (s.rail r).st = 2 ∨ (s.rail r).st = 3) (hdip : s.dip = true)
    (hother : s.isHoldRail r = false) : s.railNext r = s.railParks r 4 := by
  rw [State.railNext_of_enabled hrun hen hquiet hlate, if_pos ⟨hst, hdip, hother⟩]

theorem State.railNext_bypasses (hst : (s.rail r).st = 1 ∨ (s.rail r).st = 2) (hdip : s.dip = false)
    (hnear : (s.rail r).setAct < s.vsup + 30) : s.railNext r = s.railParks r 3 := by
  rw [State.railNext_of_enabled hrun hen hquiet hlate, if_neg (by simp [hdip]), if_pos ⟨hst, hnear⟩]

theorem State.railNext_regulates (hst : (s.rail r).st = 1) (hdip : s.dip = false) (hfar : s.vsup + 30 ≤ (s.rail r).setAct)
    (hup : (s.rail r).setAct ≤ (s.rail r).vb + s.bstHyst r) : s.railNext r = s.setRail r { s.rail r with st := 2 } := by
  rw [State.railNext_of_enabled hrun hen hquiet hlate, if_neg (by simp [hdip]), if_neg (by simp [hfar]), if_neg (by simp [hst]),
    if_pos ⟨hst, hup⟩]

theorem State.railNext_starts (hst : (s.rail r).st = 0 ∨ (s.rail r).st = 5) : s.railNext r = s.railStart r := by
  rw [State.railNext_of_enabled hrun hen hquiet hlate]
  rcases hst with hst | hst <;> simp [hst]

end

end

/-! ### The converter (R202) -/

theorem Rail.atIpk_iff {x : Rail} {mv : Nat} : x.atIpk mv = true ↔ x.ipk ≤ if x.st = 1 then 2 * mv else mv := by
  simp [Rail.atIpk]

section
variable (hl : s.live = true) (r : Fin 8)
include hl

/-- A switching period begins once the last has ended; its length is that of FSW now. -/
theorem exec_switchingPeriodStart_due (hen : (s.rail r).enable = true) (hst : (s.rail r).st = 1 ∨ (s.rail r).st = 2) (hhold : s.holdAt = none)
    (hend : ∀ p, (s.rail r).period = some p → p + (s.rail r).perLen ≤ s.time) :
    exec (.switchingPeriodStart r) s =
      .next (s.setRail r { s.rail r with gate := true, period := some s.time, perLen := s.fswNs r }).settle := by
  simp only [exec, execSwitchingPeriodStart, execute_live _ hl]
  cases hper : (s.rail r).period with
  | none => simp [hen, hst, hhold]
  | some p => simp [hen, hst, hhold, hend p hper]

variable {p : Nat} (hper : (s.rail r).period = some p) (hgate : (s.rail r).gate = true)
include hper hgate

theorem exec_ipkCrossing_of_gate (c : Sensed) : exec (.ipkCrossing r c) s =
    .next (if (s.rail r).atIpk c.mv = true ∧ p + 100 ≤ s.time + c.ofs then s.setRail r { s.rail r with gate := false } else s).settle := by
  simp [exec, execIpkCrossing, execute_live _ hl, hper, hgate]

theorem exec_switchingDutyLimit_due (hdue : p + 9 * (s.rail r).perLen / 10 < s.time + 4) :
    exec (.switchingDutyLimit r) s = .next (s.setRail r { s.rail r with gate := false }).settle := by
  simp [exec, execSwitchingDutyLimit, execute_live _ hl, hper, hgate, hdue]

end

/-- Settles O24: the slot in its order, the rows of Table 7.2, and the gate of the converter. -/
theorem boostSlotsRailsAndConverters : Obligations.BoostSlotsRailsAndConverters := by
  refine ⟨fun s r vb vr vs hl => ⟨fun h => ?_, fun ht hdoze => ?_⟩,
    fun s r hquiet hlate => ⟨State.railNext_off, fun hrun hen => ⟨State.railNext_holds hrun hen hquiet hlate,
      State.railNext_bypasses hrun hen hquiet hlate, State.railNext_regulates hrun hen hquiet hlate,
      State.railNext_starts hrun hen hquiet hlate⟩⟩,
    fun s r ofs mv hl => ⟨exec_switchingPeriodStart_due hl r, fun p hper hgate => ⟨fun hblank hipk => ?_, fun h => ?_,
      exec_switchingDutyLimit_due hl r hper hgate⟩⟩⟩
  · rw [exec_boostSlot hl, State.boostSlot_idle h]
  · rw [exec_boostSlot hl, State.boostSlot_works ht hdoze rfl]
  · rw [exec_ipkCrossing_of_gate hl r hper hgate, if_pos ⟨Rail.atIpk_iff.2 hipk, hblank⟩]
  · rw [exec_ipkCrossing_of_gate hl r hper hgate, if_neg]
    rintro ⟨hipk, hblank⟩
    exact h.elim (Nat.not_lt.2 hblank) (Nat.not_lt.2 (Rail.atIpk_iff.1 hipk))

end Sys2Proof.Machine
end

section
/-! SUPPORT. The limits of START, the hold switch and the words of a rail (R201, R203, R204, R209, R215, R217, R451; log entries 24 and 50), and
the statement about them. -/

namespace Sys2Proof.Machine

variable {s : State}

/-! ### The limits of START (R203, R204) -/

section
variable (hl : s.live = true) (r : Fin 8) (ht : s.time % 64 = 0) (hrun : s.inRun = true) (hen : s.rb (rBST_CFG r) 31 = true)
  (hst : (s.rail r).st = 1)
include hl ht hrun hen hst

theorem exec_startQuietEnd_due (hdue : (s.rail r).startAt + 1000000 ≤ s.time) (hnew : (s.rail r).quietDone = false) :
    exec (.startQuietEnd r) s =
      .next (if s.quietLow r then s.railFault r 1 else s.setRail r { s.rail r with quietDone := true }).settle := by
  simp only [exec, execStartQuietEnd, execute_live _ hl]
  rw [if_pos ⟨ht, hrun, hen, hst, hnew, hdue⟩]

theorem exec_startTimeout_due (hdue : (s.rail r).startAt + 1000000 * max 1 (s.rf (rBST_CFG r) 23 16) ≤ s.time)
    (hquiet : s.quietLow r = false) : exec (.startTimeout r) s = .next (s.railFault r 2).settle := by
  simp only [exec, execStartTimeout, execute_live _ hl]
  rw [if_pos ⟨ht, hrun, hen, State.startLate_iff.2 ⟨hst, hdue⟩, hquiet⟩]

end

theorem State.quietLow_eq_false {r : Nat} (h : (s.rail r).quietDone = true ∨ s.vsup ≤ (s.rail r).vb + 50) : s.quietLow r = false := by
  rw [← Bool.not_eq_true, State.quietLow_iff]
  rintro ⟨-, hnew, -, hlow⟩
  exact h.elim (fun hdone => by simp [hdone] at hnew) (Nat.not_le.2 hlow)

/-! ### The hold switch (R215, R217) -/

/-- A hold switch that turns off short of its commit is counted and shown in the journal's status. -/
theorem State.holdOff_short {u : State}
    (hu : u = (if s.rf rBST_HOLD 27 20 < 192 then s.drive (s.rf rBST_HOLD 27 20) false s.time else s)) :
    s.holdOff true = (({ u with holdAt := none, holdOffAt := u.time } : State).bump rBST_GSTAT 7 0).setRb rJRN_STAT 5 true := by
  subst hu
  rfl

theorem exec_holdSwitchTimeout_due (hl : s.live = true) {t : Nat} (hon : s.holdAt = some t) (ht : s.time % 64 = 0)
    (hdue : t + 250000 * max 1 (s.rf rBST_HOLD 7 0) ≤ s.time) : exec .holdSwitchTimeout s = .next (s.holdOff true).settle := by
  simp only [exec, execHoldSwitchTimeout, execute_live _ hl, hon]
  rw [if_pos ⟨ht, hdue⟩]

/-- BST_HOLD is refused while the hold switch is on, and where the lane named may not be one. -/
theorem State.bstHoldWrite_refused {v : Word} (h : s.holdAt.isSome = true ∨ s.holdLaneOk (fld v 30 28) (fld v 27 20) = false) :
    s.bstHoldWrite v = s.setRb rBST_GSTAT 30 true := if_pos (by simpa using h)

theorem State.bstHoldWrite_stores {v : Word} (hoff : s.holdAt = none) (hok : s.holdLaneOk (fld v 30 28) (fld v 27 20) = true) :
    s.bstHoldWrite v = s.setReg rBST_HOLD (v &&& 0x7FFFFCFF) := if_neg (by simp [hoff, hok])

theorem exec_bstHoldWrite (hl : s.live = true) (v : Word) : exec (.bstHoldWrite v) s = .next (s.bstHoldWrite v).settle := by
  simp only [exec, execBstHoldWrite, execute_live _ hl]

/-! ### The setpoint words (R201, R209, R451) -/

section
variable (hl : s.live = true) (r : Fin 8) (v : Word)
include hl

theorem exec_boostSetpointWrite_set : exec (.boostSetpointWrite r false v) s =
    .next (s.trayWrite (rBST_SET r) v (fun s => s.bstPointWrite r false v)).settle := by
  simp only [exec, execBoostSetpointWrite, execute_live _ hl, Bool.false_eq_true, if_false]

theorem exec_boostSetpointWrite_adapt : exec (.boostSetpointWrite r true v) s =
    .next (s.trayWrite (rBST_ADAPT r) v (fun s => s.bstPointWrite r true v)).settle := by
  simp only [exec, execBoostSetpointWrite, execute_live _ hl, if_true]

end

/-- Settles O25: the two limits of START, the hold switch and its word, and the setpoint words. -/
theorem startLimitsAndRailWords : Obligations.StartLimitsAndRailWords := by
  refine ⟨fun s r hl ht hrun hen hst => ⟨fun hdue hnew => ⟨fun hlow => ?_, fun hup => ?_⟩, fun hdue h => ?_⟩,
    fun s v hl => ⟨fun t hon ht hdue u hu => ?_, fun t hon => ?_, fun _ hbad => ?_, fun hoff hok => ?_,
      fun r => ⟨fun hclk => ?_, fun hclk => ?_, fun hwait => ?_⟩⟩⟩
  · rw [exec_startQuietEnd_due hl r ht hrun hen hst hdue hnew, if_pos (State.quietLow_iff.2 ⟨hst, hnew, hdue, hlow⟩)]
  · rw [exec_startQuietEnd_due hl r ht hrun hen hst hdue hnew, if_neg (ne_true_of_eq_false (State.quietLow_eq_false (.inr hup)))]
  · rw [exec_startTimeout_due hl r ht hrun hen hst hdue (State.quietLow_eq_false h)]
  · rw [exec_holdSwitchTimeout_due hl hon ht hdue, State.holdOff_short hu]
  · rw [exec_bstHoldWrite hl, State.bstHoldWrite_refused (.inl (by simp [hon]))]
  · rw [exec_bstHoldWrite hl, State.bstHoldWrite_refused (.inr hbad)]
  · rw [exec_bstHoldWrite hl, State.bstHoldWrite_stores hoff hok]
  · rw [exec_boostSetpointWrite_set hl, State.trayWrite_of_clocked hclk]
    rfl
  · rw [exec_boostSetpointWrite_adapt hl, State.trayWrite_of_clocked hclk]
    rfl
  · rw [exec_boostSetpointWrite_set hl, State.trayWrite_of_stopped hwait]

end Sys2Proof.Machine
end

section
/-! SUPPORT. Supply and clock events, the shell temperature and the steps of start-up (R217, R437, R438, R442, R443, R446, R452, R465, R480;
log entries 4, 42 and 43), and the statement about them. -/

namespace Sys2Proof.Machine

variable {s : State}

/-- What a command that acts during start-up too answers while the device is neither in WATCH nor held in reset (log entry 2). -/
theorem anytime_awake (f : State → State) (hw : s.watch = false) (hh : s.held = false) : anytime f s = .next (f s).settle := by
  simp [anytime, hw, hh]

/-! ### The dip of VSUP (R217, R437, R438) -/

section
variable {v us : Nat}

theorem State.dipBegin_inert (h : s.time % 64 ≠ 0 ∨ s.dip = true ∨ s.warnLevel ≤ v ∨ us < fld s.pwr.vsupReg 15 12) :
    s.dipBegin v us = s := if_pos h

theorem State.dipBegin_begins (ht : s.time % 64 = 0) (hdip : s.dip = false) (hlow : v < s.warnLevel) (hus : fld s.pwr.vsupReg 15 12 ≤ us)
    {u : State} (hu : u = { s with dip := true, jrn := { s.jrn with dipFrom := s.time }, holdArm := s.jrn.commit.isSome }) :
    s.dipBegin v us = (u.setRb rPWR_STAT 26 true).bump rPWR_CNT 31 24 := by
  subst hu
  exact if_neg (by simp [ht, hdip, hlow, hus])

theorem State.dipEnd_inert (h : s.time % 64 ≠ 0 ∨ s.dip = false ∨ s.holdAt ≠ none ∨ s.time < s.holdOffAt + 10000 ∨
    v < s.warnLevel + s.warnHyst ∨ us < 10) : s.dipEnd v us = s := if_pos (by simpa only [Option.isSome_iff_ne_none] using h)

/-- A dip ends only once the hold switch has been off for 10 us. -/
theorem State.dipEnd_ends (ht : s.time % 64 = 0) (hdip : s.dip = true) (hhold : s.holdAt = none) (hoff : s.holdOffAt + 10000 ≤ s.time)
    (hhigh : s.warnLevel + s.warnHyst ≤ v) (hus : 10 ≤ us) :
    s.dipEnd v us = ({ s with dip := false, holdArm := false } : State).jrnNext :=
  if_neg (by simp [ht, hdip, hhold, hoff, hhigh, hus])

end

section
variable (hl : s.live = true) (v : Fin 1024) (us : Fin 64)
include hl

theorem exec_vsupDipBegin : exec (.vsupDipBegin v us) s = .next (s.dipBegin v us).settle := by
  simp only [exec, execVsupDipBegin, execute_live _ hl]

theorem exec_vsupDipEnd : exec (.vsupDipEnd v us) s = .next (s.dipEnd v us).settle := by
  simp only [exec, execVsupDipEnd, execute_live _ hl]

end

/-! ### Supply rails and the PLL (R436, R443) -/

section
variable (hw : s.watch = false) (hh : s.held = false)
include hw hh

theorem exec_railUndervoltage (r : Fin 5) : exec (.railUndervoltage r) s =
    .next (if s.boot = 0 then s else (s.setRb rPWR_STAT (25 - r) true).bump rPWR_CNT 23 16).settle := by
  simp only [exec, execRailUndervoltage, anytime_awake _ hw hh]

theorem exec_railFailure (r : Fin 5) : exec (.railFailure r) s =
    .next (if s.boot = 0 then s else (s.setRb rPWR_STAT (25 - r) true).mainReset 2).settle := by
  simp only [exec, execRailFailure, anytime_awake _ hw hh]

/-- A lock is lost only where one stands, from the second step of start-up on. -/
theorem exec_pllUnlock : exec .pllUnlock s = .next (if s.boot < 2 ∨ s.rb rCLK_STAT 29 = false then s
    else (((s.setRb rCLK_STAT 29 false).setRb rCLK_STAT 28 true).bump rPWR_CNT 15 8).latchCause 6).settle := by
  simp [exec, execPllUnlock, anytime_awake _ hw hh]

theorem exec_pllRelock : exec .pllRelock s = .next (if s.boot < 2 then s else s.setRb rCLK_STAT 29 true).settle := by
  simp only [exec, execPllRelock, anytime_awake _ hw hh]

end

/-! ### The shell temperature (R446) -/

section
variable {code : Nat}

/-- The die is over 170 °C: the device is held in reset. -/
def State.overheated (s : State) : State := { s with held := true, pwr := { s.pwr with overheat := true } }

/-- The sample is kept and the warning follows it, 20 codes apart. -/
def State.shellWarned (s : State) (code : Nat) : State :=
  let u := s.setRf rPWR_MEAS 9 0 code
  if s.rf rPWR_TEMP 31 22 ≤ code then u.setRb rPWR_TEMP 20 true
  else if code + 20 < s.rf rPWR_TEMP 31 22 then u.setRb rPWR_TEMP 20 false else u

theorem State.shellTemp_cool (hcool : code < 0x1C0) : s.shellTemp code = (s.shellWarned code).setRb rPWR_TEMP 21 false := by
  have hlow : ¬0x1D4 ≤ code := by omega
  simp [State.shellTemp, State.shellWarned, Nat.not_le.2 hcool, hlow]

section
variable (hhot : 0x1C0 ≤ code) {w : State} (hw : w = (s.shellWarned code).setRb rPWR_TEMP 21 true)
include hhot hw

/-- From 160 °C up: the SAFE cause is latched with the flag, from 170 °C up a reset follows. -/
theorem State.shellTemp_of_hot {m : State} (hm : m = if s.rb rPWR_TEMP 21 then w else w.latchCause 7) :
    s.shellTemp code = if 0x1D4 ≤ code then (m.mainReset 3).overheated else m := by
  subst hm hw
  cases hflag : s.rb rPWR_TEMP 21 <;> simp [State.shellTemp, State.shellWarned, State.overheated, hhot, hflag]

theorem State.shellTemp_latches (hbelow : code < 0x1D4) (hflag : s.rb rPWR_TEMP 21 = false) : s.shellTemp code = w.latchCause 7 := by
  rw [State.shellTemp_of_hot hhot hw rfl, if_neg (Nat.not_le.2 hbelow), if_neg (ne_true_of_eq_false hflag)]

theorem State.shellTemp_stands (hbelow : code < 0x1D4) (hflag : s.rb rPWR_TEMP 21 = true) : s.shellTemp code = w := by
  rw [State.shellTemp_of_hot hhot hw rfl, if_neg (Nat.not_le.2 hbelow), if_pos hflag]

end

theorem State.shellTemp_resets (hover : 0x1D4 ≤ code) {w : State} (hw : w = (s.shellWarned code).setRb rPWR_TEMP 21 true) :
    s.shellTemp code = ((if s.rb rPWR_TEMP 21 then w else w.latchCause 7).mainReset 3).overheated := by
  rw [State.shellTemp_of_hot (by omega) hw rfl, if_pos hover]

end

theorem exec_shellTempSample (hl : s.live = true) (c : Fin 1024) : exec (.shellTempSample c) s = .next (s.shellTemp c).settle := by
  obtain ⟨-, -, hh⟩ := State.live_iff.1 hl
  simp [exec, execShellTempSample, always, hl, hh]

/-- While reset is held a sample can only release what the overheated die holds. -/
theorem exec_shellTempSample_held (hh : s.held = true) (c : Fin 1024) : exec (.shellTempSample c) s =
    .next (if s.pwr.overheat = true ∧ c.val < 0x1AC then { s with held := s.pwr.brownHeld, pwr := { s.pwr with overheat := false } }
      else s : State).settle := by
  simp [exec, execShellTempSample, always, hh]

/-! ### Start-up (R442, R452, R465, R480) -/

section
variable {slave test xtal refclk : Bool} {trays : Nat}

theorem State.startupStep_straps (h : s.boot = 0) : s.startupStep slave test xtal refclk trays =
    { s with boot := 1, master := !slave, pwr := { s.pwr with testmode := test } } := by
  simp only [State.startupStep, h]

section
variable (h : s.boot = 1)
include h

/-- Start-up waits for a clock source. -/
theorem State.startupStep_unclocked (hr : s.refChoice xtal refclk = 0) : s.startupStep slave test xtal refclk trays = s := by
  simp only [State.startupStep, h, hr, if_true]

theorem State.startupStep_clock {r : Nat} (hr : r = s.refChoice xtal refclk) (hsome : r ≠ 0) :
    s.startupStep slave test xtal refclk trays =
      { (((s.setRf rCLK_STAT 31 30 r).setRb rCLK_STAT 29 true).setRb rCLK_STAT 27 xtal).setRb rCLK_STAT 26 refclk with
        boot := 2, time := 0 } := by
  subst hr
  simp only [State.startupStep, h, if_neg hsome]

end

theorem State.startupStep_fuses (h : s.boot = 2) : s.startupStep slave test xtal refclk trays = { s.fuseLoad with boot := 3 } := by
  simp only [State.startupStep, h]

theorem State.startupStep_vendor (h : s.boot = 3) :
    s.startupStep slave test xtal refclk trays = if s.vendorStop then s else { s with boot := 4 } := by
  simp only [State.startupStep, h]

theorem State.startupStep_trays (h : s.boot = 4) : s.startupStep slave test xtal refclk trays =
    { s.setRf rCLK_STAT 25 22 trays with boot := 5, pwr := { s.pwr with trays := trays } } := by
  simp only [State.startupStep, h]

theorem State.startupStep_journal (h : s.boot = 5) : s.startupStep slave test xtal refclk trays = { s.jrnStart with boot := 6 } := by
  simp only [State.startupStep, h]

theorem State.startupStep_ready (h : s.boot = 6) : s.startupStep slave test xtal refclk trays = s.ready := by
  simp only [State.startupStep, h]

theorem State.startupStep_done (h : 7 ≤ s.boot) : s.startupStep slave test xtal refclk trays = s := by
  obtain ⟨n, hn⟩ := Nat.exists_eq_add_of_le' h
  simp only [State.startupStep, hn]

end

theorem exec_startupStep (hw : s.watch = false) (hh : s.held = false) (slave test xtal refclk : Bool) (trays : BitVec 4) :
    exec (.startupStep slave test xtal refclk trays) s = .next (s.startupStep slave test xtal refclk trays.toNat).settle := by
  simp only [exec, execStartupStep, anytime_awake _ hw hh]

/-- Settles O52: the dip, the supply rails and the PLL, the shell temperature, and the seven steps of start-up. -/
theorem supplyClockAndStartup : Obligations.SupplyClockAndStartup := by
  refine ⟨fun s v us hl => ?_, fun s hw hh => ?_, fun s u v w c hu hv hw => ?_, fun s slave test xtal refclk trays hw hh => ?_⟩
  · rw [exec_vsupDipBegin hl, exec_vsupDipEnd hl]
    refine ⟨fun ht hdip hlow hus => ?_, fun h => ?_, fun ht hdip hhold hoff hhigh hus => ?_, fun h => ?_⟩
    · rw [State.dipBegin_begins ht hdip hlow hus rfl]
    · rw [State.dipBegin_inert h]
    · rw [State.dipEnd_ends ht hdip hhold hoff hhigh hus]
    · rw [State.dipEnd_inert h]
  · rw [exec_pllUnlock hw hh, exec_pllRelock hw hh]
    refine ⟨fun r hb => ?_, fun r hb => ?_, fun hb hlock => ?_, fun h => ?_, fun hb => ?_, fun hb => ?_⟩
    · rw [exec_railUndervoltage hw hh, exec_railFailure hw hh, if_neg hb, if_neg hb]
      exact ⟨rfl, rfl⟩
    · rw [exec_railUndervoltage hw hh, exec_railFailure hw hh, if_pos hb, if_pos hb]
      exact ⟨rfl, rfl⟩
    · rw [if_neg (not_or.2 ⟨Nat.not_lt.2 hb, ne_false_of_eq_true hlock⟩)]
    · rw [if_pos h]
    · rw [if_neg (Nat.not_lt.2 hb)]
    · rw [if_pos hb]
  · have hwarned : v = s.shellWarned c := by
      rw [hv, hu]
      rfl
    rw [hwarned] at hw
    refine ⟨fun hl hcool => ?_, fun hl hhot hbelow => ⟨fun hflag => ?_, fun hflag => ?_⟩, fun hl hover m hm => ?_,
      fun hh hheat hcool => ?_, fun hh h => ?_⟩
    · rw [exec_shellTempSample hl, State.shellTemp_cool hcool, hwarned]
    · rw [exec_shellTempSample hl, State.shellTemp_latches hhot hw hbelow hflag]
    · rw [exec_shellTempSample hl, State.shellTemp_stands hhot hw hbelow hflag]
    · rw [exec_shellTempSample hl, State.shellTemp_resets hover hw, ← hm]
      rfl
    · rw [exec_shellTempSample_held hh, if_pos ⟨hheat, hcool⟩]
    · rw [exec_shellTempSample_held hh, if_neg]
      rintro ⟨hheat, hcool⟩
      exact h.elim (fun hoff => by simp [hheat] at hoff) (Nat.not_le.2 hcool)
  · rw [exec_startupStep hw hh]
    refine ⟨fun hb => ?_, fun hb hr => ?_, fun r hb hr hsome => ?_, fun hb => ?_, fun hb hstop => ?_, fun hb hgo => ?_, fun hb => ?_,
      fun hb => ?_, fun hb => ?_, fun hb => ?_⟩
    · rw [State.startupStep_straps hb]
    · rw [State.startupStep_unclocked hb hr]
    · rw [State.startupStep_clock hb hr hsome]
    · rw [State.startupStep_fuses hb]
    · rw [State.startupStep_vendor hb, if_pos hstop]
    · rw [State.startupStep_vendor hb, if_neg (ne_true_of_eq_false hgo)]
    · rw [State.startupStep_trays hb]
    · rw [State.startupStep_journal hb]
    · rw [State.startupStep_ready hb]
    · rw [State.startupStep_done hb]

end Sys2Proof.Machine
end

section
/-! SUPPORT. That a command answers a next state whatever its effect does (log entry 2), and the statement about every command but VENDOR_TEST
(R258, R298, R317; log entry 12). -/

namespace Sys2Proof.Machine

/-- A command of the running main domain answers a next state. -/
theorem execute_answers (f : State → State) (s : State) : ∃ t, execute f s = .next t := ⟨_, rfl⟩

/-- A command that acts during start-up too answers a next state. -/
theorem anytime_answers (f : State → State) (s : State) : ∃ t, anytime f s = .next t := ⟨_, rfl⟩

/-- A reset, a supply event or a wake event answers a next state. -/
theorem always_answers (f : State → State) (s : State) : ∃ t, always f s = .next t := ⟨_, rfl⟩

/-- Settles O4: a command acts while the main domain runs, during start-up too, or always, and none of the three ways refuses; TRST_N alone
acts on nothing. -/
theorem everyCommandAnswersANextState : Obligations.EveryCommandAnswersANextState := by
  intro c s hVendor
  cases c
  case vendorTest e => exact absurd rfl (hVendor e)
  case trstReset => exact ⟨s, rfl⟩
  case powerOnReset | brownout | brownoutReset | resetRelease | shellTempSample | watchWake | wakeMotionEdge | safeNLow =>
    simp only [exec, execPowerOnReset, execBrownout, execBrownoutReset, execResetRelease, execShellTempSample, execWatchWake,
      execWakeMotionEdge, execSafeNLow]
    exact always_answers _ s
  case railUndervoltage | railFailure | pllUnlock | pllRelock | startupStep =>
    simp only [exec, execRailUndervoltage, execRailFailure, execPllUnlock, execPllRelock, execStartupStep]
    exact anytime_answers _ s
  all_goals
    simp only [exec]
    exact execute_answers _ s

end Sys2Proof.Machine
end

section
/-! SUPPORT. Polls of the doorbell page, host liveness and heartbeats (R252, R262, R264, R265, R271, R337; log entries 13 and 27), and the
statement about them. -/

namespace Sys2Proof.Machine

variable {s : State}

/-! ### A poll begins (R252, R262) -/

/-- The read of the doorbell page: 448 bytes from DB_BASE (R262, R269). -/
def State.pageRead (s : State) : Rd := { kind := 0, arg := 0, addr := s.addrAt rDB_BASE_LO, len := 0x1C0 }

theorem State.addrAt_setReg_of_ne {a lo : Nat} (v : Word) (hlo : lo ≠ a) (hhi : lo + 4 ≠ a) : (s.setReg a v).addrAt lo = s.addrAt lo := by
  simp only [State.addrAt, State.reg_setReg, if_neg hlo, if_neg hhi]

theorem State.pollBegin_due (t : Nat) :
    s.pollBegin false t = ({ s with poll := { s.poll with last := some t, busy := true } } : State).hostRead s.pageRead := rfl

/-- A late poll counts in HL_STAT, which is no part of DB_BASE. -/
theorem State.pollBegin_late (t : Nat) : s.pollBegin true t =
    ({ s.bump rHL_STAT 15 8 with poll := { s.poll with last := some t, busy := true } } : State).hostRead s.pageRead := by
  have hbase : (s.bump rHL_STAT 15 8).pageRead = s.pageRead := by
    simp only [State.pageRead, State.bump, State.bumpN, State.addrAt_setReg_of_ne (lo := rDB_BASE_LO) (a := rHL_STAT) _ (by decide) (by decide)]
  rw [← hbase]
  rfl

theorem State.doorbellPoll_begins (hm : s.master = true) (hen : s.rb rDB_POLL 31 = true) (hidle : s.poll.busy = false)
    (hdma : s.dmaOk = true) (hdue : s.pollDue < s.time + 4) : s.doorbellPoll = s.pollBegin false (max s.pollDue s.time) :=
  if_pos (by simp [hm, hen, hidle, hdma, hdue])

theorem State.doorbellPoll_waits (h : s.rb rDB_POLL 31 = false ∨ s.poll.busy = true ∨ s.dmaOk = false ∨ s.time + 4 ≤ s.pollDue) :
    s.doorbellPoll = s := by
  refine if_neg ?_
  rcases h with h | h | h | h <;> simp [h]

/-! ### A poll ends (R262, R271) -/

/-- The whole of a poll's data may come once every read of it has been issued. -/
theorem State.polled_iff : s.polled = true ↔ (∃ r ∈ s.reads, r.kind = 0) ∧ ∀ r ∈ s.reads, r.kind = 0 → r.tag.isSome = true := by
  simp [State.polled, Classical.or_iff_not_imp_left]

theorem State.pollData_taken (d : BitVec 3584) (h : s.polled = true) :
    s.pollData d = ((((({ s with reads := s.reads.filter (fun (r : Rd) => r.kind ≠ 0) } : State).issueReads.takeHeartbeat
      (pageField d 0x100 4)).takeWords
        (fun g => (pageField d (0x140 + 8 * g) 4, pageField d (0x144 + 8 * g) 4))).takeQueueWords d).pollEnd) := if_pos h

theorem State.pollData_unasked (d : BitVec 3584) (h : (∀ r ∈ s.reads, r.kind ≠ 0) ∨ ∃ r ∈ s.reads, r.kind = 0 ∧ r.tag = none) :
    s.pollData d = s := by
  refine if_neg fun hp => ?_
  obtain ⟨⟨r, hr, hkind⟩, hissued⟩ := State.polled_iff.1 hp
  rcases h with hnone | ⟨x, hx, hx0, htag⟩
  · exact hnone r hr hkind
  · simpa [htag] using hissued x hx hx0

/-- That the poll is over has no part in whether the next one has fallen due. -/
theorem State.pollEnd_eq : s.pollEnd = if s.rb rDB_POLL 31 && s.dmaOk && decide (s.pollDue ≤ s.time)
    then ({ s with poll := { s.poll with busy := false } } : State).pollBegin true s.time
    else { s with poll := { s.poll with busy := false } } := rfl

theorem State.pollEnd_late (hen : s.rb rDB_POLL 31 = true) (hdma : s.dmaOk = true) (hdue : s.pollDue ≤ s.time) :
    s.pollEnd = ({ s with poll := { s.poll with busy := false } } : State).pollBegin true s.time := by
  rw [State.pollEnd_eq, if_pos (by simp [hen, hdma, hdue])]

theorem State.pollEnd_idle (h : s.rb rDB_POLL 31 = false ∨ s.dmaOk = false ∨ s.time < s.pollDue) :
    s.pollEnd = { s with poll := { s.poll with busy := false } } := by
  rw [State.pollEnd_eq, if_neg]
  rcases h with h | h | h <;> simp [h]

/-! ### Host liveness (R264, R265, R337) -/

/-- The declaration that the host is lost: the flag, the HB that says so, the new reference, and the SAFE cause under HOST_LOST_ACT. -/
theorem State.hostLost_declares (hm : s.master = true) (hen : s.rb rHL_LIVE 31 = true)
    (hdue : s.poll.ref + 100000 * s.liveTmo < s.time + 4) {u v : State} (hu : u = (s.setRb rHL_STAT 24 true).sendHb true)
    (hv : v = { u with poll := { u.poll with ref := u.time } }) : s.hostLost = if v.hostLostAct then v.latchCause 3 else v := by
  subst hv hu
  exact if_pos (by simp [hm, hen, hdue])

theorem State.hostLost_waits (h : s.master = false ∨ s.rb rHL_LIVE 31 = false ∨ s.time + 4 ≤ s.poll.ref + 100000 * s.liveTmo) :
    s.hostLost = s := by
  refine if_neg ?_
  rcases h with h | h | h <;> simp [h]

theorem State.hbPeriodic_sends (hm : s.master = true) (hen : s.rb rHL_LIVE 31 = true)
    (hdue : s.poll.hbSent + 25000 * s.liveTmo < s.time + 4) :
    s.hbPeriodic = ({ s with poll := { s.poll with hbSent := s.time } } : State).sendHb false := if_pos (by simp [hm, hen, hdue])

theorem State.hbPeriodic_waits (h : s.master = false ∨ s.rb rHL_LIVE 31 = false ∨ s.time + 4 ≤ s.poll.hbSent + 25000 * s.liveTmo) :
    s.hbPeriodic = s := by
  refine if_neg ?_
  rcases h with h | h | h <;> simp [h]

/-! ### The commands -/

section
variable (hl : s.live = true)
include hl

theorem exec_doorbellPoll : exec .doorbellPoll s = .next s.doorbellPoll.settle := by
  simp only [exec, execDoorbellPoll, execute_live _ hl]

theorem exec_pollData (d : BitVec 3584) : exec (.pollData d) s = .next (s.pollData d).settle := by
  simp only [exec, execPollData, execute_live _ hl]

theorem exec_hostLost : exec .hostLost s = .next s.hostLost.settle := by
  simp only [exec, execHostLost, execute_live _ hl]

theorem exec_hbSend : exec .hbSend s = .next s.hbPeriodic.settle := by
  simp only [exec, execHbSend, execute_live _ hl]

theorem exec_slaveHostLost_declares (hm : s.master = false) (hen : s.poll.hbEn = true)
    (hdue : s.poll.ref + 100000 * max s.poll.hbTmo 1 < s.time + 4) : exec .slaveHostLost s = .next s.slaveLost.settle := by
  simp [exec, execSlaveHostLost, execute_live _ hl, hm, hen, hdue]

theorem exec_slaveHostLost_waits (h : s.master = true ∨ s.poll.hbEn = false ∨ s.time + 4 ≤ s.poll.ref + 100000 * max s.poll.hbTmo 1) :
    exec .slaveHostLost s = .next s.settle := by
  simp only [exec, execSlaveHostLost, execute_live _ hl]
  rw [if_neg]
  rcases h with h | h | h <;> simp [h]

end

/-- Settles O26: a poll that falls due and its data, the end of a poll, then the master's watch, its heartbeats, and the watch of a slave. -/
theorem pollsReadThePageAndWatchTheHost : Obligations.PollsReadThePageAndWatchTheHost := by
  refine ⟨fun s hl hm => ⟨fun hen hidle hdma hdue => ?_, fun h => ?_, fun d => ⟨fun hsome hissued => ?_, fun h => ?_⟩⟩,
    fun s => ⟨fun hen hdma hdue => ?_, State.pollEnd_idle⟩,
    fun s hl => ⟨fun hm hen => ⟨fun hdue => ?_, fun hwait => ?_, fun hdue => ?_, fun hwait => ?_⟩, fun h => ?_,
      exec_slaveHostLost_declares hl, exec_slaveHostLost_waits hl⟩⟩
  · rw [exec_doorbellPoll hl, State.doorbellPoll_begins hm hen hidle hdma hdue, State.pollBegin_due]
    rfl
  · rw [exec_doorbellPoll hl, State.doorbellPoll_waits h]
  · rw [exec_pollData hl, State.pollData_taken d (State.polled_iff.2 ⟨hsome, hissued⟩)]
  · rw [exec_pollData hl, State.pollData_unasked d h]
  · rw [State.pollEnd_late hen hdma hdue, State.pollBegin_late]
    rfl
  · rw [exec_hostLost hl, State.hostLost_declares hm hen hdue rfl rfl]
  · rw [exec_hostLost hl, State.hostLost_waits (.inr (.inr hwait))]
  · rw [exec_hbSend hl, State.hbPeriodic_sends hm hen hdue]
  · rw [exec_hbSend hl, State.hbPeriodic_waits (.inr (.inr hwait))]
  · have hoff : ∀ {p : Prop}, s.master = false ∨ s.rb rHL_LIVE 31 = false ∨ p := fun {p} => h.imp_right .inl
    rw [exec_hostLost hl, exec_hbSend hl, State.hostLost_waits hoff, State.hbPeriodic_waits hoff]
    exact ⟨rfl, rfl⟩

end Sys2Proof.Machine
end

section
/-! SUPPORT. PCIe resets, link training, configuration and MSI-X writes, reads that return or fail, and the host link registers (R249 to R257,
R261, R262, R264, R265, R450; log entries 29 and 30), and the statement about them. -/

namespace Sys2Proof.Machine

variable {s : State}

/-! ### Resets and training (R257, R450) -/

theorem State.pcieReset_slave (k : Nat) (hm : s.master = false) : s.pcieReset k = s := if_pos (by simp [hm])

/-- What every PCIe reset leaves: LINK clear, BAR0 accesses on their way lost, reads to be issued again, no bus mastering, D0. -/
def State.linkCleared (s : State) : State :=
  ({ s with link := {}, barWait := []
            reads := (s.reads.filter (fun r => r.kind != 4)).map (fun r => { r with tag := none }) } : State).setRf rHL_STAT 26 25 0

section
variable (hm : s.master = true)
include hm

/-- PERST and a hot reset leave the link to be trained again. -/
theorem State.pcieReset_untrains {k : Nat} (hk : k < 2) : s.pcieReset k = s.linkCleared.setRf rHL_STAT 31 27 0 := by
  rw [State.pcieReset, if_neg (by simp [hm])]
  dsimp only
  rw [if_neg (by omega), if_neg (by omega)]
  rfl

/-- A link that goes down counts in LINK_DOWN. -/
theorem State.pcieReset_down : s.pcieReset 2 = (s.linkCleared.setRf rHL_STAT 31 27 0).bump rHL_STAT 7 0 := by
  rw [State.pcieReset, if_neg (by simp [hm])]
  rfl

/-- A function-level reset keeps the trained link, whose FIFOs are brought back. -/
theorem State.pcieReset_function : s.pcieReset 3 = s.linkCleared.bump rXING_CNT 15 8 := by
  rw [State.pcieReset, if_neg (by simp [hm])]
  rfl

end

section
variable (hl : s.live = true)
include hl

theorem exec_pcieReset (k : Fin 4) : exec (.pcieReset k) s = .next (s.pcieReset k).settle := by
  simp only [exec, execPcieReset, execute_live _ hl]

theorem exec_linkUp_trains (speed width : Fin 4) (hm : s.master = true) (hdown : s.rb rHL_STAT 31 = false) :
    exec (.linkUp speed width) s =
      .next ((s.setRf rHL_STAT 31 27 (16 + 4 * speed.val + width.val)).bump rXING_CNT 15 8).settle := by
  simp [exec, execLinkUp, execute_live _ hl, hm, hdown]

theorem exec_linkUp_unchanged (speed width : Fin 4) (h : s.master = false ∨ s.rb rHL_STAT 31 = true) :
    exec (.linkUp speed width) s = .next s.settle := by
  simp only [exec, execLinkUp, execute_live _ hl]
  rw [if_neg]
  rcases h with h | h <;> simp [h]

/-! ### Configuration writes (R249, R250) -/

theorem exec_configSpaceWrite (w : CfgWrite) (id : BitVec 16) (hm : s.master = true) (hup : s.rb rHL_STAT 31 = true) :
    exec (.configSpaceWrite ⟨w, id⟩) s = .next (({ s with link := { s.link with id := id.toNat } } : State).cfgWrite w).settle := by
  simp [exec, execConfigSpaceWrite, execute_live _ hl, hm, hup]

theorem exec_configSpaceWrite_down (w : CfgWrite) (id : BitVec 16) (h : s.master = false ∨ s.rb rHL_STAT 31 = false) :
    exec (.configSpaceWrite ⟨w, id⟩) s = .next s.settle := by
  simp only [exec, execConfigSpaceWrite, execute_live _ hl]
  rw [if_neg]
  rcases h with h | h <;> simp [h]

end

theorem floorTo_eq_sub_mod (m t : Nat) : floorTo m t = t - t % m := Nat.div_mul_self_eq_mod_sub_self

theorem State.cfgWrite_bar0 (a : BitVec 64) :
    s.cfgWrite (.bar false a) = { s with link := { s.link with bar0 := a.toNat - a.toNat % 0x10000 } } := by
  rw [← floorTo_eq_sub_mod]
  rfl

theorem State.cfgWrite_bar2 (a : BitVec 64) :
    s.cfgWrite (.bar true a) = { s with link := { s.link with bar2 := a.toNat - a.toNat % 0x1000 } } := by
  rw [← floorTo_eq_sub_mod]
  rfl

/-! ### The MSI-X table (R251, R256) -/

section
variable (hl : s.live = true) (x : Fin 1024) (v : Word)
include hl

theorem exec_msixTableWrite : exec (.msixTableWrite x v) s = .next (if s.barOk then
    if x.val < 64 then ({ s with link := { s.link with table := tabSet (if x.val % 4 = 3 then 1 else 0) s.link.table x v } } : State).msixRelease
    else s
  else s.unsupported).settle := by
  cases hbar : s.barOk <;> simp [exec, execMsixTableWrite, execute_live _ hl, hbar]

theorem exec_msixTableWrite_down (h : s.master = false ∨ s.rb rHL_STAT 31 = false) :
    exec (.msixTableWrite x v) s = .next s.settle := by
  have hbar : s.barOk = false := by rcases h with h | h <;> simp [State.barOk, h]
  have hun : s.unsupported = s := if_neg (by rcases h with h | h <;> simp [h])
  rw [exec_msixTableWrite hl, hbar, hun]
  rfl

section
variable (hm : s.master = true) (hup : s.rb rHL_STAT 31 = true)
include hm hup

theorem exec_msixTableWrite_unsupported (h : s.link.mse = false ∨ s.rb rHL_STAT 25 = true) :
    exec (.msixTableWrite x v) s = .next (s.aerNote 20).settle := by
  have hbar : s.barOk = false := by rcases h with h | h <;> simp [State.barOk, h]
  have hun : s.unsupported = s.aerNote 20 := if_pos (by simp [hm, hup])
  rw [exec_msixTableWrite hl, hbar, hun]
  rfl

variable (hmse : s.link.mse = true) (hd0 : s.rb rHL_STAT 25 = false)
include hmse hd0

theorem exec_msixTableWrite_table (hx : x.val < 64) : exec (.msixTableWrite x v) s = .next
    ({ s with link := { s.link with table := tabSet (if x.val % 4 = 3 then 1 else 0) s.link.table x v } } : State).msixRelease.settle := by
  rw [exec_msixTableWrite hl, if_pos (by simp [State.barOk, hm, hup, hmse, hd0]), if_pos hx]

theorem exec_msixTableWrite_beyond (hx : 64 ≤ x.val) : exec (.msixTableWrite x v) s = .next s.settle := by
  rw [exec_msixTableWrite hl, if_pos (by simp [State.barOk, hm, hup, hmse, hd0]), if_neg (Nat.not_lt.2 hx)]

end

end

/-! ### Reads that return or fail (R255) -/

section
variable (t : Fin 16)

theorem State.find_tag_eq_none (h : ∀ r ∈ s.reads, r.tag ≠ some t.val) : s.reads.find? (fun r => r.tag == some t.val) = none :=
  List.find?_eq_none.2 fun r hr => by simpa using h r hr

variable (hl : s.live = true) (d : BitVec 4096)
include hl

theorem exec_dmaReadCompletion (st : Fin 3) : exec (.dmaReadCompletion t st d) s = .next (s.readReturn t st d).settle := by
  simp only [exec, execDmaReadCompletion, execute_live _ hl]

theorem exec_dmaReadCompletion_unknown (h : ∀ r ∈ s.reads, r.tag ≠ some t.val) (st : Fin 3) :
    exec (.dmaReadCompletion t st d) s = .next s.settle := by
  rw [exec_dmaReadCompletion t hl, State.readReturn, State.find_tag_eq_none t h]

theorem exec_completionTimeout_unknown (h : ∀ r ∈ s.reads, r.tag ≠ some t.val) : exec (.completionTimeout t) s = .next s.settle := by
  simp only [exec, execCompletionTimeout, execute_live _ hl, State.find_tag_eq_none t h]

section
variable {r : Rd} (hr : s.reads.find? (fun x => x.tag == some t.val) = some r)
include hr

theorem exec_dmaReadCompletion_data (hkind : 2 ≤ r.kind) :
    exec (.dmaReadCompletion t 0 d) s = .next ((s.readGone t).readData r d.toNat).settle := by
  simp [exec_dmaReadCompletion t hl, State.readReturn, hr, hkind]

theorem exec_dmaReadCompletion_rejected :
    exec (.dmaReadCompletion t 1 d) s = .next (((s.readGone t).readErr 23).readFailed r).settle := by
  simp [exec_dmaReadCompletion t hl, State.readReturn, hr]

theorem exec_dmaReadCompletion_poisoned :
    exec (.dmaReadCompletion t 2 d) s = .next (((s.readGone t).readErr 15).readFailed r).settle := by
  simp [exec_dmaReadCompletion t hl, State.readReturn, hr]

theorem exec_completionTimeout_fails :
    exec (.completionTimeout t) s = .next (((s.readGone t).readErr 31).readFailed r).settle := by
  simp only [exec, execCompletionTimeout, execute_live _ hl, hr]

end

end

/-- An Unsupported Request or a Completer Abort counts in HL_ERR alone; the Advanced Error Reporting capability shows nothing (log entry 30). -/
theorem State.readErr_rejected : s.readErr 23 = (s.bump rHL_ERR 23 16).setRb rHL_STAT 23 true := rfl

theorem State.readErr_poisoned : s.readErr 15 = ((s.aerNote 12).bump rHL_ERR 15 8).setRb rHL_STAT 23 true := rfl

theorem State.readErr_timeout : s.readErr 31 = ((s.aerNote 14).bump rHL_ERR 31 24).setRb rHL_STAT 23 true := rfl

/-! ### DB_POLL, HL_LIVE and the unique number (R261, R262, R264, R265) -/

section
variable {v : Word}

theorem State.dbPollWrite_slave (hm : s.master = false) : s.dbPollWrite v = s := if_pos (by simp [hm])

theorem State.hlLiveWrite_slave (hm : s.master = false) : s.hlLiveWrite v = s := if_pos (by simp [hm])

section
variable (hm : s.master = true)
include hm

/-- Polls that the liveness watch needs are not disabled (R262). -/
theorem State.dbPollWrite_refused (hpoll : s.rb rDB_POLL 31 = true) (hoff : bit v 31 = false) (hlive : s.rb rHL_LIVE 31 = true) :
    s.dbPollWrite v = s.setRb rHL_STAT 22 true := by
  simp [State.dbPollWrite, hm, hpoll, hoff, hlive]

/-- The first poll after enabling is due at once. -/
theorem State.dbPollWrite_enables (hpoll : s.rb rDB_POLL 31 = false) (hon : bit v 31 = true) : s.dbPollWrite v =
    ({ s with poll := { s.poll with last := none } } : State).setReg rDB_POLL (v &&& 0x800000FF) := by
  simp [State.dbPollWrite, hm, hpoll, hon]

theorem State.dbPollWrite_stored (h : bit v 31 = s.rb rDB_POLL 31 ∨ (bit v 31 = false ∧ s.rb rHL_LIVE 31 = false)) :
    s.dbPollWrite v = s.setReg rDB_POLL (v &&& 0x800000FF) := by
  rcases h with h | ⟨hoff, hlive⟩
  · simp [State.dbPollWrite, hm, h]
  · simp [State.dbPollWrite, hm, hoff, hlive]

/-- The watch is not enabled without polls, nor disabled against HOST_LOST_ACT (R264, R265). -/
theorem State.hlLiveWrite_refused (h : (bit v 31 = true ∧ s.rb rHL_LIVE 31 = false ∧ s.rb rDB_POLL 31 = false) ∨
    (bit v 31 = false ∧ s.rb rHL_LIVE 31 = true ∧ s.hostLostAct = true)) : s.hlLiveWrite v = s.setRb rHL_STAT 22 true := by
  rcases h with ⟨hon, hwas, hpoll⟩ | ⟨hoff, hwas, hact⟩
  · simp [State.hlLiveWrite, hm, hon, hwas, hpoll]
  · simp [State.hlLiveWrite, hm, hoff, hwas, hact]

theorem State.hlLiveWrite_enables (hon : bit v 31 = true) (hwas : s.rb rHL_LIVE 31 = false) (hpoll : s.rb rDB_POLL 31 = true) :
    s.hlLiveWrite v =
      ({ s with poll := { s.poll with ref := s.time, hbSent := s.time } } : State).setReg rHL_LIVE (v &&& 0x8000FFFF) := by
  simp [State.hlLiveWrite, hm, hon, hwas, hpoll]

theorem State.hlLiveWrite_stored (h : bit v 31 = s.rb rHL_LIVE 31 ∨ (bit v 31 = false ∧ s.hostLostAct = false)) :
    s.hlLiveWrite v = s.setReg rHL_LIVE (v &&& 0x8000FFFF) := by
  rcases h with h | ⟨hoff, hact⟩
  · simp [State.hlLiveWrite, hm, h]
  · simp [State.hlLiveWrite, hm, hoff, hact]

end

section
variable (hl : s.live = true)
include hl

theorem exec_dbPollWrite : exec (.dbPollWrite v) s = .next (s.dbPollWrite v).settle := by
  simp only [exec, execDbPollWrite, execute_live _ hl]

theorem exec_hlLiveWrite : exec (.hlLiveWrite v) s = .next (s.hlLiveWrite v).settle := by
  simp only [exec, execHlLiveWrite, execute_live _ hl]

theorem exec_idUidLoRead :
    exec .idUidLoRead s = .next (s.setReg rID_UID_HI (BitVec.ofNat 32 (s.uid / 2 ^ 32))).settle := by
  simp only [exec, execIdUidLoRead, execute_live _ hl, State.uidRead]

end

end

/-! ### The statement -/

/-- Settles O27: resets and training; configuration writes, and the MSI-X table; reads that return or fail; the registers. -/
theorem linkEventsReadsAndHostRegisters : Obligations.LinkEventsReadsAndHostRegisters := by
  refine ⟨fun s hl => ⟨fun hm l u hreads hu => ?_, fun speed width => exec_linkUp_trains hl speed width,
      fun speed width k => ⟨fun hm => ?_, exec_linkUp_unchanged hl speed width⟩⟩,
    fun s id hl hm hup u hu => ?_,
    fun s w id x v hl => ⟨fun h => ⟨exec_configSpaceWrite_down hl w id h, exec_msixTableWrite_down hl x v h⟩,
      exec_msixTableWrite_unsupported hl x v, fun hm hup hmse hd0 =>
        ⟨exec_msixTableWrite_table hl x v hm hup hmse hd0, exec_msixTableWrite_beyond hl x v hm hup hmse hd0⟩⟩,
    fun s t d hl => ⟨fun r hr u hu => ⟨fun hkind => ?_, ?_, ?_, ?_⟩,
      fun h => ⟨exec_dmaReadCompletion_unknown t hl d h, exec_completionTimeout_unknown t hl h⟩⟩,
    fun s v hl => ⟨exec_idUidLoRead hl, fun hm => ⟨?_, ?_⟩, fun hm was on pollOn hwas hpollOn hon => ?_⟩⟩
  · obtain rfl : u = s.linkCleared := by
      rw [hu, hreads]
      rfl
    simp only [exec_pcieReset hl]
    refine ⟨?_, ?_, ?_, ?_⟩
    · rw [← State.pcieReset_untrains hm (k := 0) (by decide)]
      rfl
    · rw [← State.pcieReset_untrains hm (k := 1) (by decide)]
      rfl
    · rw [← State.pcieReset_down hm]
      rfl
    · rw [← State.pcieReset_function hm]
      rfl
  · rw [exec_pcieReset hl, State.pcieReset_slave k hm]
  · subst hu
    have hcfg := fun w => exec_configSpaceWrite hl w id hm hup
    refine ⟨fun _ _ => hcfg _, fun _ => hcfg _, fun _ _ => hcfg _, fun _ _ => hcfg _, fun _ => hcfg _, fun _ => hcfg _, fun _ _ => hcfg _,
      fun a => ⟨?_, ?_⟩, fun _ _ => hcfg _⟩
    · rw [hcfg, State.cfgWrite_bar0]
    · rw [hcfg, State.cfgWrite_bar2]
  · rw [exec_dmaReadCompletion_data t hl d hr hkind, hu]
    rfl
  · rw [exec_dmaReadCompletion_rejected t hl d hr, State.readErr_rejected, hu]
    rfl
  · rw [exec_dmaReadCompletion_poisoned t hl d hr, State.readErr_poisoned, hu]
    rfl
  · rw [exec_completionTimeout_fails t hl hr, State.readErr_timeout, hu]
    rfl
  · rw [exec_dbPollWrite hl, State.dbPollWrite_slave hm]
  · rw [exec_hlLiveWrite hl, State.hlLiveWrite_slave hm]
  · subst hwas hpollOn hon
    rw [exec_dbPollWrite hl, exec_hlLiveWrite hl]
    refine ⟨fun hpoll hoff hlive => ?_, fun hpoll hoff hlive => ?_, fun hon hpoll => ?_, fun hon hpoll => ?_, fun hoff hpoll => ?_,
      fun hon hwas hpoll => ?_, fun hon hwas hpoll => ?_, fun hoff hwas hact => ?_, fun h => ?_⟩
    · rw [State.dbPollWrite_refused hm hpoll hoff hlive]
    · rw [State.dbPollWrite_stored hm (.inr ⟨hoff, hlive⟩)]
    · rw [State.dbPollWrite_stored hm (.inl (hon.trans hpoll.symm))]
    · rw [State.dbPollWrite_enables hm hpoll hon]
    · rw [State.dbPollWrite_stored hm (.inl (hoff.trans hpoll.symm))]
    · rw [State.hlLiveWrite_refused hm (.inl ⟨hon, hwas, hpoll⟩)]
    · rw [State.hlLiveWrite_enables hm hon hwas hpoll]
    · rw [State.hlLiveWrite_refused hm (.inr ⟨hoff, hwas, hact⟩)]
    · rw [State.hlLiveWrite_stored hm h]

end Sys2Proof.Machine
end

section
/-! SUPPORT. A fetched descriptor, from its arrival to its acceptance (R273 to R276, R284, R291, R298; log entries 27, 28 and 54), and the
statement about it. -/

namespace Sys2Proof.Machine

variable {s : State} {q : Nat} {d : BitVec 256}

/-! ### The descriptor arrives (R273) -/

/-- The state once the descriptor asked for is there: its read is over, and the next reads are issued. -/
def State.descArrived (s : State) (q : Nat) : State :=
  ({ s with reads := s.reads.filter (fun r => !(r.kind = 1 && r.arg = q)) } : State).issueReads

theorem State.descFetch_asked (h : ∃ r ∈ s.reads, r.kind = 1 ∧ r.arg = q ∧ r.tag.isSome = true) :
    s.descFetch q d = ((s.descArrived q).judgeDesc q d).fetchNext := if_pos (by simpa [and_assoc] using h)

theorem State.descFetch_unasked (h : ∀ r ∈ s.reads, r.kind = 1 → r.arg = q → r.tag = none) : s.descFetch q d = s :=
  if_neg (by simpa using h)

theorem exec_descriptorFetch (hl : s.live = true) (q : Fin 32) (d : BitVec 256) :
    exec (.descriptorFetch q d) s = .next (s.descFetch q d).settle := by
  simp only [exec, execDescriptorFetch, execute_live _ hl]

/-! ### A RESYNC (R291, R298) -/

section
variable (hop : fld d 23 16 = 1)
include hop

theorem State.judgeDesc_resync_held (h : (s.qp q).resync.isSome = true) : s.judgeDesc q d = s.setQp q { s.qp q with fetchLeft := 0 } :=
  (if_pos hop).trans (if_pos h)

theorem State.judgeDesc_resync (hnone : (s.qp q).resync = none) : s.judgeDesc q d =
    if resyncForm (BitVec.ofNat 192 (fld d 255 64)) then
      s.resyncTake q (fld d 15 0) (fld d 63 48) (fld d 31 24) (BitVec.ofNat 192 (fld d 255 64))
    else s.resyncRefused q (fld d 15 0) (fld d 63 48) (fld d 31 24) :=
  (if_pos hop).trans (if_neg (by simp [hnone]))

end

theorem resyncForm_iff {ops : BitVec 192} : resyncForm ops = true ↔ fld ops 191 65 = 0 := decide_eq_true_iff

/-! ### Any other descriptor (R274 to R276, R284) -/

section
variable (hop : fld d 23 16 ≠ 1)
include hop

theorem State.judgeDesc_left (h : (s.qp q).stall = true ∨ (fld d 23 16 ≠ 3 ∧ (64 ≤ s.cmds.length ∨ s.maxIf q ≤ s.inFlight q))) :
    s.judgeDesc q d = s.setQp q { s.qp q with fetchLeft := 0 } :=
  (if_neg hop).trans (if_pos (by simpa [State.atLimit, and_comm] using h))

variable (hstall : (s.qp q).stall = false) (hroom : fld d 23 16 = 3 ∨ (s.cmds.length < 64 ∧ s.inFlight q < s.maxIf q))
include hstall hroom

/-- On a pair that does not stall and has room, the SEQ of a descriptor is compared with E. -/
theorem State.judgeDesc_compared : s.judgeDesc q d =
    if fld d 15 0 ≠ (s.qp q).e then s.mismatch q (fld d 15 0) (fld d 63 48)
    else if (s.qp q).oob then s.setQp q { s.qp q with fetchLeft := 0 }
    else if fld d 23 16 = 3 then s.abortAccept q (fld d 15 0) (fld d 63 48) (fld d 31 24) (BitVec.ofNat 192 (fld d 255 64))
    else s.accept q d := by
  have hgo : ¬((s.qp q).stall || (s.atLimit q && fld d 23 16 != 3)) = true := by
    rcases hroom with habort | ⟨hcmds, hfly⟩
    · simp [hstall, habort]
    · simp [hstall, State.atLimit, hcmds, hfly]
  exact (if_neg hop).trans (if_neg hgo)

end

theorem State.mismatch_retries {seq tag : Nat} (h : (s.qp q).retry < 2) : s.mismatch q seq tag =
    (s.bump (rQP_CNT q) 23 16).setQp q { s.qp q with retry := (s.qp q).retry + 1, fetchLeft := 0 } := if_neg (by omega)

theorem State.mismatch_stalls {seq tag : Nat} (h : 2 ≤ (s.qp q).retry) : s.mismatch q seq tag =
    ((s.bump (rQP_CNT q) 23 16).setQp q { s.qp q with retry := (s.qp q).retry + 1, fetchLeft := 0 }).stallQp q seq tag := if_pos (by omega)

/-! ### Acceptance (R276, R298) -/

section
variable {c : Cmd} {v : State}
  (hc : c = {
    ord := s.nextOrd, ent := s.freeEntry, qp := q, seq := fld d 15 0, tag := fld d 63 48, opcode := fld d 23 16
    flags := fld d 31 24, target := fld d 47 32, ops := BitVec.ofNat 192 (fld d 255 64) })
  (hv : v = ({ s with nextOrd := s.nextOrd + 1, cmds := s.cmds ++ [c] }.rewrote 8 (7 * c.ent) 7).setQp q
    { s.qp q with e := ((s.qp q).e + 1) % 65536, retry := 0, fetchLeft := (s.qp q).fetchLeft - 1 })
include hc hv

/-- A command that is accepted has its OPCODE judged, then its TARGET. -/
theorem State.accept_eq : s.accept q d =
    if !opDefined c.opcode then v.finishFrom c 0 v.time 0x10 0
    else if !v.targetOk c.opcode c.target then v.finishFrom c 0 v.time 0x11 0
    else v := by
  subst hc hv
  rfl

end

/-- Settles O28: a RESYNC, any other descriptor and one that was not asked for, then the judgement at acceptance. -/
theorem fetchedDescriptorIsJudgedBySequence : Obligations.FetchedDescriptorIsJudgedBySequence := by
  refine ⟨fun s u q d x hl hasked hu hx => ⟨fun ops hop hops => ?_, fun hop => ?_⟩, fun s q d hl hnone => ?_, fun s v q d c hc hv => ?_⟩
  · obtain rfl : u = s.descArrived q := hu
    subst hx hops
    rw [exec_descriptorFetch hl, State.descFetch_asked hasked]
    refine ⟨fun hheld => ?_, fun hfree hform => ?_, fun hfree hform => ?_⟩
    · rw [State.judgeDesc_resync_held hop hheld]
    · rw [State.judgeDesc_resync hop hfree, if_pos (resyncForm_iff.2 hform)]
      rfl
    · rw [State.judgeDesc_resync hop hfree, if_neg (mt resyncForm_iff.1 hform)]
  · obtain rfl : u = s.descArrived q := hu
    subst hx
    rw [exec_descriptorFetch hl, State.descFetch_asked hasked]
    refine ⟨fun hleft => ?_, fun hstall hroom => ?_⟩
    · rw [State.judgeDesc_left hop hleft]
    · rw [State.judgeDesc_compared hop hstall hroom]
      refine ⟨fun hseq => ⟨fun hretry => ?_, fun hretry => ?_⟩, fun hseq hoob => ?_, fun hseq hoob habort => ?_, fun hseq hoob habort => ?_⟩
      · rw [if_pos hseq, State.mismatch_retries hretry]
      · rw [if_pos hseq, State.mismatch_stalls hretry]
      · rw [if_neg (not_not.2 hseq), if_pos hoob]
      · rw [if_neg (not_not.2 hseq), if_neg (by simp [hoob]), if_pos habort, hseq]
        rfl
      · rw [if_neg (not_not.2 hseq), if_neg (by simp [hoob]), if_neg habort]
  · rw [exec_descriptorFetch hl, State.descFetch_unasked hnone]
  · rw [State.accept_eq hc hv]
    refine ⟨fun hop => ?_, fun hop htgt => ?_, fun hop htgt => ?_⟩
    · rw [if_pos (by simp [hop])]
    · rw [if_neg (by simp [hop]), if_pos (by simp [htgt])]
    · rw [if_neg (by simp [hop]), if_neg (by simp [htgt])]

end Sys2Proof.Machine
end

section
/-! SUPPORT. RESYNC, and the decision on an ABORT at its acceptance, at F and on a slave (R284, R285, R291, R299, R336; log entries 27, 28 and
54), and the statement about them. -/

namespace Sys2Proof.Machine

variable {s : State} {q : Nat}

/-! ### RESYNC (R291, R299) -/

theorem exec_resync (hl : s.live = true) (q : Fin 32) : exec (.resync q) s = .next (s.resyncRun q).settle := by
  simp only [exec, execResync, execute_live _ hl]

theorem State.resyncRun_of_none (h : (s.qp q).resync = none) : s.resyncRun q = s := by
  simp only [State.resyncRun, h]

/-- The completion of a RESYNC of QP[q]: what it reports of its pair (R299). -/
def State.resyncCpl (s : State) (q seq tag flags status : Nat) : Cpl :=
  { qp := q, opcode := 1, status := s.statusByte status, tag := tag, seq := seq, time := s.time
    result := pack [(15, 0, (s.qp q).e + 65535), (31, 16, ((s.qp q).nextCseq + s.resyncPos q) % 65536), (39, 32, s.inFlight q)]
    irq := flags / 4 % 2 = 1, free := (s.qp q).drain }

/-- QP[q] once its RESYNC has finished: its completion stands behind those that are written before it. -/
def State.resyncedQp (s : State) (q : Nat) (c : Cpl) : Qp :=
  { s.qp q with
    resync := none, drain := false
    wait := (s.cplReady q).take (s.resyncPos q) ++ c :: ((s.cplReady q).drop (s.resyncPos q) ++ (s.qp q).wait.filter (fun c => s.cplHeld c)) }

section
variable {seq tag flags : Nat} {ops : BitVec 192} (hres : (s.qp q).resync = some (seq, tag, flags, ops))
include hres

/-- A RESYNC waits for its pair to drain and for the host to take its view; else it finishes. -/
theorem State.resyncRun_of_some : s.resyncRun q =
    if ((s.qp q).drain && decide (s.inFlight q ≠ 0)) ||
        (decide (fld ops 63 0 ≠ 0) && decide (fld ops 63 0 % 64 = 0) && !s.dmaOk) then s
    else (if decide (fld ops 63 0 ≠ 0) && decide (fld ops 63 0 % 64 = 0) then s.hostWrite (fld ops 63 0) 320 (s.view q) else s).setQp q
      (s.resyncedQp q (s.resyncCpl q seq tag flags (if fld ops 63 0 % 64 = 0 then 0 else 0x16))) := by
  simp only [State.resyncRun, hres]
  rfl

theorem State.resyncRun_drains (hdrain : (s.qp q).drain = true) (hfly : s.inFlight q ≠ 0) : s.resyncRun q = s := by
  rw [State.resyncRun_of_some hres, if_pos (by simp [hdrain, hfly])]

theorem State.resyncRun_awaits_host (hbuf : fld ops 63 0 ≠ 0) (halign : fld ops 63 0 % 64 = 0) (hdma : s.dmaOk = false) :
    s.resyncRun q = s := by
  rw [State.resyncRun_of_some hres, if_pos (by simp [hbuf, halign, hdma])]

section
variable (hidle : (s.qp q).drain = false ∨ s.inFlight q = 0)
include hidle

/-- Without a buffer, or with one off 64 bytes, nothing is written to the host. -/
theorem State.resyncRun_finishes (hbuf : fld ops 63 0 = 0 ∨ fld ops 63 0 % 64 ≠ 0) : s.resyncRun q =
    s.setQp q (s.resyncedQp q (s.resyncCpl q seq tag flags (if fld ops 63 0 % 64 = 0 then 0 else 0x16))) := by
  have hwrite : (decide (fld ops 63 0 ≠ 0) && decide (fld ops 63 0 % 64 = 0)) = false := by
    simpa [← or_iff_not_imp_left] using hbuf
  rw [State.resyncRun_of_some hres, hwrite, if_neg (by simpa [imp_iff_not_or] using hidle), if_neg Bool.false_ne_true]

theorem State.resyncRun_writes (hbuf : fld ops 63 0 ≠ 0) (halign : fld ops 63 0 % 64 = 0) (hdma : s.dmaOk = true) : s.resyncRun q =
    (s.hostWrite (fld ops 63 0) 320 (s.view q)).setQp q (s.resyncedQp q (s.resyncCpl q seq tag flags 0)) := by
  rw [State.resyncRun_of_some hres, if_neg (by simpa [hdma, imp_iff_not_or] using hidle), if_pos (by simp [hbuf, halign]),
    if_pos halign]

end

end

/-! ### ABORT (R284, R285) -/

theorem exec_abort (hl : s.live = true) (q : Fin 32) : exec (.abort q) s = .next (s.abortTake q).settle := by
  simp only [exec, execAbort, execute_live _ hl]

theorem exec_abortDecision (hl : s.live = true) (q : Fin 32) :
    exec (.abortDecision q) s = .next (if s.master then s.abortDecide q else s.abortSlave).settle := by
  simp only [exec, execAbortDecision, execute_live _ hl]

theorem State.abortDecide_eq : s.abortDecide q = (s.qp q).aborts.foldl
    (fun (y : State) r => if y.time % 64 = 0 ∧ r.at_ < y.time then y.abortOne q true r else y) s := by
  simp only [State.abortDecide, State.isF, decide_eq_true_eq]

section
variable {r : AbortRq} (hfwd : r.fwd = none)
include hfwd

theorem State.abortOne_malformed (f : Bool) (hform : fld r.ops 191 17 ≠ 0) : s.abortOne q f r = s.abortDone q r 0 0x16 0 false := by
  simp [State.abortOne, hfwd, hform]

variable (hform : fld r.ops 191 17 = 0)
include hform

theorem State.abortOne_no_victim (f : Bool) (hnone : s.victim q r = none) :
    s.abortOne q f r = if f then s.abortDone q r 0 3 0xFFFF false else s := by
  simp [State.abortOne, hfwd, hform, hnone]

section
variable {c : Cmd} (hvictim : s.victim q r = some c)
include hvictim

theorem State.abortOne_forwarded (f : Bool) (haway : s.away c = true) : s.abortOne q f r = s.abortForward q r c := by
  simp [State.abortOne, hfwd, hform, hvictim, haway]

theorem State.abortOne_victim (f : Bool) (hhere : s.away c = false) : s.abortOne q f r =
    if !f then s
    else if c.past then s.abortDone q r 0 3 c.seq true (some c.ord)
    else (s.abortCmd c).abortDone q r 0 2 c.seq true := by
  simp [State.abortOne, hfwd, hform, hvictim, hhere]

end

end

/-! ### A forwarded abort (R336) -/

/-- The completion of a forwarded ABORT, with its own TAGE. -/
def State.fwdAbortCpl (s : State) (r : FwdAbort) (c : Cmd) (status : Nat) (after : Option Nat) : Cpl :=
  { qp := c.qp, opcode := 3, status := s.statusByte status, time := s.time, result := c.seq + 65536, tage := some r.tage, after := after }

theorem State.abortHere_victim {r : FwdAbort} {c : Cmd} (h : s.cmds.find? (fun c => c.ring.map Prod.snd == some r.tage) = some c) :
    s.abortHere r = if c.past then s.post (s.fwdAbortCpl r c 3 (some c.ord))
      else (s.abortCmd c).post ((s.abortCmd c).fwdAbortCpl r c 2 none) := by
  simp only [State.abortHere, h]
  rfl

/-- Settles O30: a RESYNC that is not there, waits or finishes; the ABORTs of a pair; one ABORT by its victim; a forwarded one. -/
theorem resyncAndAbortAreDecided : Obligations.ResyncAndAbortAreDecided := by
  refine ⟨fun s q hl => ⟨fun hnone => ?_, fun seq tag flags ops hres =>
      ⟨fun hdrain hfly => ?_, fun hbuf halign hdma => ?_, fun hidle x n ready held w hx hready hheld hn hw => ?_⟩⟩,
    fun s q hl => ⟨?_, fun hm => ?_, fun hm => ?_⟩,
    fun s q r hfwd => ⟨fun hform f => State.abortOne_malformed hfwd f hform, fun hform => ⟨fun hnone => ⟨?_, ?_⟩, fun c hvictim =>
      ⟨fun haway f => State.abortOne_forwarded hfwd hform hvictim f haway, fun hhere => ⟨?_, fun hpast => ?_, fun hpast => ?_⟩⟩⟩⟩,
    fun s r c hvictim => ⟨fun hpast => ?_, fun hpast => ?_⟩⟩
  · rw [exec_resync hl, State.resyncRun_of_none hnone]
  · rw [exec_resync hl, State.resyncRun_drains hres hdrain hfly]
  · rw [exec_resync hl, State.resyncRun_awaits_host hres hbuf halign hdma]
  · subst hx hready hheld hn
    obtain rfl : w = s.resyncCpl q seq tag flags := funext hw
    rw [exec_resync hl]
    refine ⟨fun hbuf => ?_, fun hbuf => ?_, fun hbuf halign hdma => ?_⟩
    · rw [State.resyncRun_finishes hres hidle (.inl hbuf), if_pos (by simp [hbuf])]
      rfl
    · rw [State.resyncRun_finishes hres hidle (.inr hbuf), if_neg hbuf]
      rfl
    · rw [State.resyncRun_writes hres hidle hbuf halign hdma]
      rfl
  · rw [exec_abort hl]
    rfl
  · rw [exec_abortDecision hl, if_pos hm, State.abortDecide_eq]
  · rw [exec_abortDecision hl, if_neg (by simp [hm])]
    rfl
  · exact State.abortOne_no_victim hfwd hform false hnone
  · exact State.abortOne_no_victim hfwd hform true hnone
  · exact State.abortOne_victim hfwd hform hvictim false hhere
  · rw [State.abortOne_victim hfwd hform hvictim true hhere, Bool.not_true, if_neg Bool.false_ne_true, if_pos hpast]
  · rw [State.abortOne_victim hfwd hform hvictim true hhere, Bool.not_true, if_neg Bool.false_ne_true, if_neg (by simp [hpast])]
  · rw [State.abortHere_victim hvictim, if_pos hpast]
    rfl
  · rw [State.abortHere_victim hvictim, if_neg (by simp [hpast])]
    rfl

end Sys2Proof.Machine
end

section
/-! SUPPORT. The guards on the writes of QP_CFG and RS_CFG (R289, R293 to R296; log entries 27 and 50), and the statement about them. -/

namespace Sys2Proof.Machine

variable {s : State}

/-! ### Fields a write mask keeps -/

/-- A mask that is all ones over a field keeps the field. -/
theorem fld_and_of_ones {w : Nat} (x m : BitVec w) {hi lo : Nat} (hm : fld m hi lo = 2 ^ (hi + 1 - lo) - 1) :
    fld (x &&& m) hi lo = fld x hi lo := by
  have hand : fld (x &&& m) hi lo = fld x hi lo &&& fld m hi lo := by
    apply Nat.eq_of_testBit_eq
    intro i
    simp only [Nat.testBit_and, fld_testBit, BitVec.toNat_and]
    cases decide (i < hi + 1 - lo) <;> simp
  rw [hand, hm, Nat.and_two_pow_sub_one_of_lt_two_pow (fld_lt x hi lo)]

/-- A mask with a bit set keeps that bit. -/
theorem bit_and_of_one {w : Nat} (x m : BitVec w) {b : Nat} (hm : bit m b = true) : bit (x &&& m) b = bit x b := by
  rw [bit_eq_testBit] at hm
  rw [bit_eq_testBit, bit_eq_testBit, BitVec.toNat_and, Nat.testBit_and, hm, Bool.and_true]

/-! ### QP_CFG (R289, R293, R295) -/

theorem exec_qpCfgWrite (hl : s.live = true) (q : Fin 32) (v : Word) : exec (.qpCfgWrite q v) s = .next (s.qpCfgWrite q v).settle := by
  simp only [exec, execQpCfgWrite, execute_live _ hl]

theorem State.qpCfgWrite_slave (hm : s.master = false) (q : Nat) (v : Word) : s.qpCfgWrite q v = s := if_pos (by simp [hm])

/-- QP[q] has work that keeps it enabled: a command in flight, a completion that waits, an event slot armed from it (R289). -/
def State.qpBusy (s : State) (q : Nat) : Bool := decide (s.inFlight q ≠ 0) || !(s.qp q).wait.isEmpty || s.qpArmed q

theorem State.qpBusy_iff {q : Nat} : s.qpBusy q = true ↔ s.inFlight q ≠ 0 ∨ (s.qp q).wait ≠ [] ∨ s.qpArmed q = true := by
  simp [State.qpBusy, or_assoc]

theorem State.qpBusy_eq_false_iff {q : Nat} :
    s.qpBusy q = false ↔ s.inFlight q = 0 ∧ (s.qp q).wait = [] ∧ s.qpArmed q = false := by
  simp [State.qpBusy, and_assoc]

@[simp] theorem State.setRb_qp (a b : Nat) (x : Bool) (q : Nat) : (s.setRb a b x).qp q = s.qp q := rfl

@[simp] theorem State.setRb_qpBusy (a b : Nat) (x : Bool) (q : Nat) : (s.setRb a b x).qpBusy q = s.qpBusy q := rfl

section
variable {q : Nat} {v m : Word} (hmaster : s.master = true) (hmask : m = v &&& 0x9F1F7F00)
include hmaster hmask

/-- A write while EN reads 0 is stored; one that enables starts the pair, or is rejected for a ring size out of 4 to 16. -/
theorem State.qpCfgWrite_of_disabled (hoff : bit (s.reg (rQP_CFG q)) 31 = false) : s.qpCfgWrite q v =
    if !bit m 31 then s.setReg (rQP_CFG q) m
    else if fld m 28 24 < 4 || 16 < fld m 28 24 || fld m 20 16 < 4 || 16 < fld m 20 16 then
      (s.setReg (rQP_CFG q) (setBit m 31 false)).setRb (rQP_STAT q) 29 true
    else (s.setReg (rQP_CFG q) m).setQp q {} := by
  subst hmask
  exact (if_neg (by simp [hmaster])).trans (if_neg (by simp [hoff]))

/-- A write while EN reads 1 acts on EN alone, a change of another bit is rejected, and so is disabling a busy pair. -/
theorem State.qpCfgWrite_of_enabled (hon : bit (s.reg (rQP_CFG q)) 31 = true) {u : State}
    (hu : u = if setBit m 31 true = s.reg (rQP_CFG q) then s else s.setRb (rQP_STAT q) 29 true) : s.qpCfgWrite q v =
      if bit m 31 then u
      else if s.qpBusy q then u.setRb (rQP_STAT q) 29 true
      else ((u.setRb (rQP_CFG q) 31 false).dropFetch q).setQp q { s.qp q with fetchLeft := 0 } := by
  have hstep : s.qpCfgWrite q v = if bit m 31 then u else if u.qpBusy q then u.setRb (rQP_STAT q) 29 true else
      ((u.setRb (rQP_CFG q) 31 false).dropFetch q).setQp q { (u.setRb (rQP_CFG q) 31 false).qp q with fetchLeft := 0 } := by
    rw [hu, hmask]
    exact (if_neg (by simp [hmaster])).trans (if_pos hon)
  have hbusy : u.qpBusy q = s.qpBusy q := by
    rw [hu, apply_ite (State.qpBusy · q), State.setRb_qpBusy, ite_self]
  have hqp : u.qp q = s.qp q := by
    rw [hu, apply_ite (State.qp · q), State.setRb_qp, ite_self]
  rw [hstep, hbusy, State.setRb_qp, hqp]

end

/-! ### RS_CFG (R293, R295, R296) -/

theorem exec_rsCfgWrite (hl : s.live = true) (r : Fin 8) (v : Word) : exec (.rsCfgWrite r v) s = .next (s.rsCfgWrite r v).settle := by
  simp only [exec, execRsCfgWrite, execute_live _ hl]

theorem State.rsCfgWrite_slave (hm : s.master = false) (r : Nat) (v : Word) : s.rsCfgWrite r v = s := if_pos (by simp [hm])

section
variable {r : Nat} {v k : Word} (hmaster : s.master = true) (hmask : k = v &&& 0x9F000000)
include hmaster hmask

/-- A write while EN reads 0 is stored; one that enables starts the stream, its DISC mark kept, or is rejected for a ring size out of 4
to 16. -/
theorem State.rsCfgWrite_of_disabled (hoff : bit (s.reg (rRS_CFG r)) 31 = false) : s.rsCfgWrite r v =
    if !bit v 31 then s.setReg (rRS_CFG r) k
    else if fld v 28 24 < 4 || 16 < fld v 28 24 then (s.setReg (rRS_CFG r) (setBit k 31 false)).setRb (rRS_STAT r) 30 true
    else ((s.setReg (rRS_CFG r) k).setRs r { disc := (s.rs r).disc }).rsNote r := by
  rw [← bit_and_of_one v 0x9F000000 (b := 31) (by decide), ← fld_and_of_ones v 0x9F000000 (hi := 28) (lo := 24) (by decide), hmask]
  exact (if_neg (by simp [hmaster])).trans (if_neg (by simp [hoff]))

/-- A write while EN reads 1 acts on EN alone, and a change of another bit is rejected. -/
theorem State.rsCfgWrite_of_enabled (hon : bit (s.reg (rRS_CFG r)) 31 = true) {u : State}
    (hu : u = if setBit k 31 true = s.reg (rRS_CFG r) then s else s.setRb (rRS_STAT r) 30 true) :
    s.rsCfgWrite r v = if bit v 31 then u else (u.setRb (rRS_CFG r) 31 false).rsNote r := by
  rw [← bit_and_of_one v 0x9F000000 (b := 31) (by decide), hu, hmask]
  exact (if_neg (by simp [hmaster])).trans (if_pos hon)

end

/-- Settles O31: QP_CFG while EN reads 0 and 1, RS_CFG likewise, and both on a slave. -/
theorem queueAndStreamSetupIsGuarded : Obligations.QueueAndStreamSetupIsGuarded := by
  refine ⟨fun s q r v m k hl hm hmask hmask' => ⟨fun hoff => ?_, fun hon u hsame hother => ?_, fun hoff => ?_, fun hon u hsame hother => ?_⟩,
    fun s q r v hl hm => ⟨?_, ?_⟩⟩
  · rw [exec_qpCfgWrite hl, State.qpCfgWrite_of_disabled hm hmask hoff]
    refine ⟨fun hen => ?_, fun hen h4 h16 h4' h16' => ?_, fun hen hsize => ?_⟩
    · rw [if_pos (by simp [hen])]
    · rw [if_neg (by simp [hen]), if_neg (by simp [h4, h16, h4', h16'])]
    · rw [if_neg (by simp [hen]), if_pos (by simpa [or_assoc] using hsize)]
  · have hu := (ite_eq_iff'.2 ⟨fun h => (hsame h).symm, fun h => (hother h).symm⟩).symm
    rw [exec_qpCfgWrite hl, State.qpCfgWrite_of_enabled hm hmask hon hu]
    refine ⟨fun hen => ?_, fun hen hbusy => ?_, fun hen hflight hwait harmed => ?_⟩
    · rw [if_pos hen]
    · rw [if_neg (by simp [hen]), if_pos (State.qpBusy_iff.2 hbusy)]
    · rw [if_neg (by simp [hen]), if_neg (by simp [State.qpBusy_eq_false_iff.2 ⟨hflight, hwait, harmed⟩])]
  · rw [exec_rsCfgWrite hl, State.rsCfgWrite_of_disabled hm hmask' hoff]
    refine ⟨fun hen => ?_, fun hen h4 h16 => ?_, fun hen hsize => ?_⟩
    · rw [if_pos (by simp [hen])]
    · rw [if_neg (by simp [hen]), if_neg (by simp [h4, h16])]
    · rw [if_neg (by simp [hen]), if_pos (by simpa using hsize)]
  · have hu := (ite_eq_iff'.2 ⟨fun h => (hsame h).symm, fun h => (hother h).symm⟩).symm
    rw [exec_rsCfgWrite hl, State.rsCfgWrite_of_enabled hm hmask' hon hu]
    refine ⟨fun hen => ?_, fun hen => ?_⟩
    · rw [if_pos hen]
    · rw [if_neg (by simp [hen])]
  · rw [exec_qpCfgWrite hl, State.qpCfgWrite_slave hm]
  · rw [exec_rsCfgWrite hl, State.rsCfgWrite_slave hm]

end Sys2Proof.Machine
end

section
/-! SUPPORT. How the queues' commands begin, FENCE, and what finishing a command leaves (R276, R278 to R280, R290, R298, R300, R318; log
entries 28 and 54), and the statement about them. -/

namespace Sys2Proof.Machine

variable {s : State} {c : Cmd}

/-! ### A command that has not started (R278, R298, R318) -/

section
variable {op e : Nat} (f : State → Cmd → State) (hat : s.cmdAt e = some c) (hop : c.opcode = op) (hnew : c.started = none)
include hat hop hnew

theorem State.command_held_back (hstart : s.startable c = false) : s.command op op e f = s := by
  simp [State.command, hat, hop, hnew, hstart]

theorem State.command_forwards (hstart : s.startable c = true) (haway : s.here c = false) :
    s.command op op e f = (s.start c).forward (s.go c) := by
  have haway' : (s.start c).here (s.go c) = false := haway
  simp [State.command, hat, hop, hnew, hstart, State.launch, haway']

end

/-- The opcodes whose commands all begin in one way, with the command of each: every one of Table 11.1 but RESYNC, FENCE, ABORT and
VENDOR_TEST. -/
def queueCommands (e : Fin 64) (i : Fin 1024) : List (Nat × Instr) :=
  [(0x00, .nop e), (0x10, .regWrite e), (0x11, .regRead e), (0x12, .loadTable e), (0x13, .readTable e), (0x20, .armEvent e),
    (0x21, .armBatch e), (0x22, .cancelEvent e), (0x23, .forceOn e i), (0x24, .forceOff e), (0x40, .syncReset e), (0x41, .setCycle e),
    (0x42, .readAngle e), (0x50, .actRead e), (0x51, .actReenable e), (0x52, .actUnfreeze e), (0x60, .bstSetpoint e), (0x61, .bstEnable e),
    (0x70, .timerStart e), (0x71, .timerStopArm e), (0x72, .timerCapture e), (0x73, .globalStart e), (0x80, .pzInject e), (0x81, .pzPush e),
    (0x82, .pzPull e), (0x83, .pzControl e), (0x90, .jrnFlush e), (0x91, .jrnRead e), (0x92, .jrnWrite e), (0x93, .jrnCompact e),
    (0xA0, .krEnumerate e), (0xA1, .krStatus e), (0xA2, .krRejoin e), (0xB0, .rsStatus e), (0xB1, .logClose e), (0xB2, .fifoStatus e)]

/-- Each of these commands is `State.command` with an effect of its own. -/
theorem exec_queueCommand {e : Fin 64} {i : Fin 1024} {x : Nat × Instr} (hx : x ∈ queueCommands e i) :
    ∃ f : State → Cmd → State, ∀ s, exec x.2 s = execute (fun s => s.command x.1 x.1 e f) s := by
  unfold queueCommands at hx
  fin_cases hx
  all_goals exact ⟨_, fun _ => rfl⟩

/-! ### FENCE (R279, R300) -/

theorem exec_fence (hl : s.live = true) (e : Fin 64) : exec (.fence e) s = .next (s.fence e).settle := by
  simp only [exec, execFence, execute_live _ hl]

/-- What FENCE does once it has started: it finishes when the commands it waits for have. -/
def State.fenceEnds (s : State) (c : Cmd) : State := if s.fenced c then s.finish c 0 0 else s

section
variable {e : Nat}

theorem State.fence_here (hat : s.cmdAt e = some c) (hop : c.opcode = 2) (hhere : s.here c = true) :
    s.fence e = s.command 2 2 e State.fenceEnds := by
  simp only [State.fence, hat, hop, hhere]
  rfl

theorem State.here_of_target (h : c.target = 0) : s.here c = true := by
  simp [State.here, h]

theorem State.fence_begins (h : s.begins 2 e c) : s.fence e = (s.start c).fenceEnds (s.go c) := by
  have hcmd := State.command_begins s 2 2 2 e c State.fenceEnds h (Nat.le_refl _) (Nat.le_refl _)
  obtain ⟨-, hat, hop, -, htarget, -, -⟩ := h
  rw [State.fence_here hat hop (State.here_of_target htarget), hcmd]

theorem State.fence_runsOn (h : s.runsOn 2 e c) : s.fence e = s.fenceEnds c := by
  have hcmd := State.command_runsOn s 2 2 2 e c State.fenceEnds h (Nat.le_refl _) (Nat.le_refl _)
  obtain ⟨-, hat, hop, -, htarget, -⟩ := h
  rw [State.fence_here hat hop (State.here_of_target htarget), hcmd]

theorem State.fence_away (hat : s.cmdAt e = some c) (hop : c.opcode = 2) (haway : s.here c = false) : s.fence e =
    if c.started.isSome then s.fenceAway c else if s.startable c then (s.start c).fenceAway (s.go c) else s := by
  simp [State.fence, hat, hop, haway]

end

theorem State.fenceAway_goes (hphase : c.phase = 0) (h : s.fenced c = true ∨ s.wellFormed c = false) :
    s.fenceAway c = (s.modCmd c.ord (fun x => { x with phase := 1 })).forward c := if_pos (by simpa [hphase] using h)

theorem State.fenceAway_waits (h : c.phase ≠ 0 ∨ (s.fenced c = false ∧ s.wellFormed c = true)) : s.fenceAway c = s :=
  if_neg (by simpa [imp_iff_not_or] using h)

/-! ### Finishing (R276, R280) -/

theorem cplDue_iff {flags status : Nat} : cplDue flags status = true ↔ flags % 2 = 1 ∨ 1 < status := by
  simp [cplDue]

section
variable {status result : Nat} (htarget : c.target = 0) (hmaster : s.master = true)
include htarget hmaster

theorem State.finish_master : s.finish c status result = s.finishFrom c 0 s.time status result := by
  simp [State.finish, State.finishAt, htarget, State.devAddr, hmaster]

variable (hring : c.ring = none)
include hring

/-- With no completion due the command leaves the buffer. -/
theorem State.finish_silent (hdue : cplDue c.flags status = false) :
    s.finish c status result = { s with cmds := s.cmds.filter (fun x => x.ord ≠ c.ord) } := by
  rw [State.finish_master htarget hmaster]
  exact if_neg (by simp [hdue, hring])

/-- With a completion due the command stays, done, and the completion joins those that wait in its queue pair. -/
theorem State.finish_reports (hdue : cplDue c.flags status = true) : s.finish c status result =
    (s.modCmd c.ord (fun x => { x with done := true, status := status, result := result })).setQp c.qp { s.qp c.qp with
      wait := (s.qp c.qp).wait ++
        [{ qp := c.qp, opcode := c.opcode, status := s.statusByte status, tag := c.tag, seq := c.seq, time := s.time, source := 0
           result := result, irq := c.flags / 4 % 2 = 1, free := (s.qp c.qp).drain, cmd := some c.ord }] } := by
  rw [State.finish_master htarget hmaster]
  refine (if_pos (by simp [hdue])).trans ((if_pos hmaster).trans ?_)
  rw [hring]
  rfl

end

theorem State.statusByte_sealed (h : s.sealed = true) (status : Nat) : s.statusByte status = status := by
  simp [State.statusByte, h]

/-- Settles O33: a command that has not started; NOP; FENCE here and for a slave; what finishing a command leaves. -/
theorem ringControlCommandsFinishAndReport : Obligations.RingControlCommandsFinishAndReport := by
  refine ⟨fun s e i c x hl hat hnew hx hop => ?_,
    fun s e c => ⟨fun h => ?_, fun h => ⟨fun hfenced => ?_, fun hfenced => ?_⟩, fun h => ⟨fun hfenced => ?_, fun hfenced => ?_⟩,
      fun hl hat hop haway => ⟨fun hnew hstart => ?_, fun hnew hstart => ?_, fun hgoing => ?_⟩,
      State.fenceAway_goes, State.fenceAway_waits⟩,
    fun s c status result hring htarget hmaster hsealed => ⟨fun hdue => ?_, fun hflag hstatus => ?_⟩⟩
  · obtain ⟨f, hexec⟩ := exec_queueCommand hx
    rw [hexec, execute_live _ hl]
    refine ⟨fun hstart => ?_, fun hstart haway => ?_, fun st hstart htarget hrefused => ?_⟩
    · rw [State.command_held_back f hat hop hnew hstart]
    · rw [State.command_forwards f hat hop hnew hstart haway]
    · rw [State.command_refused s x.1 x.1 x.1 e st c f hat hop hnew htarget hstart hrefused (Nat.le_refl _) (Nat.le_refl _)]
  · rw [exec, execNop, execute_command_begins h]
  · rw [exec_fence h.1, State.fence_begins h, State.fenceEnds, if_pos hfenced]
  · rw [exec_fence h.1, State.fence_begins h, State.fenceEnds, if_neg (by simp [hfenced])]
  · rw [exec_fence h.1, State.fence_runsOn h, State.fenceEnds, if_pos hfenced]
  · rw [exec_fence h.1, State.fence_runsOn h, State.fenceEnds, if_neg (by simp [hfenced])]
  · rw [exec_fence hl, State.fence_away hat hop haway, if_neg (by simp [hnew]), if_neg (by simp [hstart])]
  · rw [exec_fence hl, State.fence_away hat hop haway, if_neg (by simp [hnew]), if_pos hstart]
  · rw [exec_fence hl, State.fence_away hat hop haway, if_pos hgoing]
  · rw [State.finish_reports htarget hmaster hring (cplDue_iff.2 hdue), State.statusByte_sealed hsealed]
    exact ⟨rfl, by rw [State.qp_setQp_self]⟩
  · have hdue : cplDue c.flags status = false := by
      rw [← Bool.not_eq_true, cplDue_iff]
      omega
    exact State.finish_silent htarget hmaster hring hdue

end Sys2Proof.Machine
end

section
/-! SUPPORT. The commands on actuators and boost rails (R310, R311), and the statement about them. -/

namespace Sys2Proof.Machine

variable {s : State} {c : Cmd}

/-! ### Actuators (R310) -/

/-- What ACT_READ returns of an actuator whatever its lane: its status and its diagnosis word. -/
def State.actHead (s : State) (a : Nat) : Nat := (s.actStat a).toNat + 2 ^ 32 * (s.reg (rDIAG_AST a)).toNat

theorem State.actRead_laneless (h : 192 ≤ s.lsLane (c.byte 8)) : s.actRead c = s.finish c 0 (s.actHead (c.byte 8)) := if_pos h

section
variable (hlane : s.lsLane (c.byte 8) < 192)
include hlane

theorem State.actRead_waits_for_slot (hp : c.phase = 0) : s.actRead c = s.modCmd c.ord (fun x => { x with phase := 1 }) := by
  simp [State.actRead, hp, Nat.not_le.2 hlane]

theorem State.actRead_in_slot (hp : c.phase = 1) (hslot : s.lsSlot (c.byte 8) = true) (hnew : c.started ≠ some s.time) :
    s.actRead c = s.finish c 0 (s.actHead (c.byte 8) + 2 ^ 64 * (s.lane (s.lsLane (c.byte 8))).peekWord.toNat) := by
  simp [State.actRead, State.actHead, hp, Nat.not_le.2 hlane, hslot, hnew]

theorem State.actRead_outside_slot (hp : c.phase = 1) (hslot : s.lsSlot (c.byte 8) = false) : s.actRead c = s := by
  simp [State.actRead, hp, Nat.not_le.2 hlane, hslot]

end

/-! ### Boost rails (R311) -/

theorem State.bstEnable_refused_in_safe (hon : c.byte 9 % 2 = 1) (hsafe : s.inSafe = true) : s.bstEnable c = s.finish c 0x26 0 :=
  if_pos (by simp [hon, hsafe])

theorem State.bstEnable_sets {u : State} (h : c.byte 9 % 2 = 0 ∨ s.inSafe = false)
    (hu : u = (below 8).foldl (fun (t : State) r =>
      if c.byte 8 / 2 ^ r % 2 = 1 then t.setRb (rBST_CFG r) 31 (c.byte 9 % 2 == 1) else t) s) :
    s.bstEnable c = u.finish c 0 (maskOf ((below 8).filter (fun r => u.rb (rBST_CFG r) 31))) := by
  subst hu
  exact if_neg (by rcases h with h | h <;> simp [h])

theorem State.bstSetpoint_writes (hp : c.phase = 0) {w v : Word} (hw : w = setBit (s.reg (rBST_ADAPT (c.byte 8))) 30 (c.byte 9 % 2 == 1))
    (hv : v = (if 2 ≤ c.byte 9 then setFld w 19 10 (c.opnd 12 13) else w)) :
    s.bstSetpoint c = ((s.bstPointWrite (c.byte 8) false (BitVec.ofNat 32 (c.opnd 10 11))).bstPointWrite (c.byte 8) true v).modCmd c.ord
      (fun x => { x with phase := 1 }) := by
  subst hv hw
  exact if_pos hp

section
variable (hp : c.phase = 1)
include hp

theorem State.bstSetpoint_in_slot (ht : s.time % 64 = 0) (hdoze : s.inDoze = false) (hnew : c.started ≠ some s.time) :
    s.bstSetpoint c = s.finish c 0 (pack [(15, 0, (s.rail (c.byte 8)).setAct), (16, 16, fld (s.bstStatRead (c.byte 8)) 21 21)]) := by
  simp [State.bstSetpoint, hp, ht, hdoze, hnew]

theorem State.bstSetpoint_outside_slot (h : s.time % 64 ≠ 0 ∨ s.inDoze = true) : s.bstSetpoint c = s := by
  rcases h with h | h <;> simp [State.bstSetpoint, hp, h]

end

/-- Settles O35: ACT_READ without a lane, before its slot, in it and outside it; ACT_REENABLE and ACT_UNFREEZE; BST_ENABLE refused and
done; BST_SETPOINT as it writes and as it waits for its slot. -/
theorem actuatorAndBoostCommandsFinish : Obligations.ActuatorAndBoostCommandsFinish := by
  refine ⟨fun s e c head hhead => ⟨fun h hlane => ?_, fun h hlane hp => ?_, fun h hlane hp => ⟨fun hslot => ?_, fun hslot => ?_⟩,
      fun h off no hoff hno => ?_, fun h => ?_⟩,
    fun s e c => ⟨fun h hon hsafe => ?_, fun h hon => ?_, fun h hp w v hw hv => ?_, fun h hp => ⟨fun ht hdoze => ?_, fun ht => ?_⟩⟩⟩
  · rw [exec, execActRead, execute_command_begins h, State.actRead_laneless (s := s.start c) (c := s.go c) hlane, hhead]
    rfl
  · rw [exec, execActRead, execute_command_begins h, State.actRead_waits_for_slot (s := s.start c) (c := s.go c) hlane hp]
    rfl
  · rw [exec, execActRead, execute_command_runsOn h, State.actRead_in_slot hlane hp hslot (State.runsOn_started_ne h), hhead]
    rfl
  · rw [exec, execActRead, execute_command_runsOn h, State.actRead_outside_slot hlane hp hslot]
  · rw [exec, execActReenable, execute_command_begins h, hno, hoff]
    rfl
  · rw [exec, execActUnfreeze, execute_command_begins h]
    rfl
  · rw [exec, execBstEnable, execute_command_begins h, State.bstEnable_refused_in_safe (s := s.start c) (c := s.go c) hon hsafe]
  · intro u
    rw [exec, execBstEnable, execute_command_begins h, State.bstEnable_sets (s := s.start c) (c := s.go c) (u := u) hon rfl]
  · rw [exec, execBstSetpoint, execute_command_begins h, State.bstSetpoint_writes (s := s.start c) (c := s.go c) hp hw hv]
    rfl
  · rw [exec, execBstSetpoint, execute_command_runsOn h, State.bstSetpoint_in_slot hp ht hdoze (State.runsOn_started_ne h)]
  · rw [exec, execBstSetpoint, execute_command_runsOn h, State.bstSetpoint_outside_slot hp ht]

end Sys2Proof.Machine
end

section
/-! SUPPORT. The timer, status and vendor commands (R312, R316, R317, R387, R388; log entry 12), and the statement about them. -/

namespace Sys2Proof.Machine

variable {s : State} {c : Cmd}

/-! ### Timers (R312, R387, R388) -/

theorem evenOf_eq (t : Nat) : evenOf t = t / 2 * 2 := by
  unfold evenOf
  omega

theorem State.countOf_pair (t : Nat) : s.countOf t true = (s.tmr (t / 2 * 2)).count + 2 ^ 32 * (s.tmr (t / 2 * 2 + 1)).count := by
  rw [← evenOf_eq]
  rfl

theorem State.timerStopArm_stops (h : c.byte 9 % 2 = 0) : s.timerStopArm c =
    (s.stopTmr (c.byte 8)).finish c 0 ((s.stopTmr (c.byte 8)).countOf (c.byte 8) (2 ≤ c.byte 9)) := by
  simp [State.timerStopArm, h]

theorem State.timerStopArm_rearms (h : c.byte 9 % 2 = 1) : s.timerStopArm c =
    ((s.stopTmr (c.byte 8)).armTmr (c.byte 8)).finish c 0 ((s.stopTmr (c.byte 8)).countOf (c.byte 8) (2 ≤ c.byte 9)) := by
  simp [State.timerStopArm, h]

section
variable (hp : c.phase = 0)
include hp

theorem State.globalStartCmd_now (h : c.opnd 16 23 = 0 ∨ c.opnd 16 23 = s.time) : s.globalStartCmd c = s.globalStart c := by
  simp [State.globalStartCmd, hp, h]

theorem State.globalStartCmd_waits (h : s.time < c.opnd 16 23) : s.globalStartCmd c = s.modCmd c.ord (fun x => { x with phase := 1 }) := by
  have hnow : ¬(c.opnd 16 23 = 0 ∨ c.opnd 16 23 = s.time) := by omega
  simp [State.globalStartCmd, hp, hnow, Nat.not_lt.2 (Nat.le_of_lt h)]

theorem State.globalStartCmd_late (h0 : c.opnd 16 23 ≠ 0) (h : c.opnd 16 23 < s.time) : s.globalStartCmd c = s.finish c 0x21 0 := by
  have hnow : ¬(c.opnd 16 23 = 0 ∨ c.opnd 16 23 = s.time) := by omega
  simp [State.globalStartCmd, hp, hnow, h]

end

theorem State.globalStartCmd_waiting (hp : c.phase = 1) : s.globalStartCmd c = s := if_pos (by omega)

/-- The timers that start are those the mask names and that are IDLE. -/
theorem State.globalStart_eq {idle : List Nat}
    (hidle : idle = (below 4).filter (fun i => c.byte 8 / 2 ^ i % 2 = 1 && decide ((s.tmr (28 + i)).st = 0))) :
    s.globalStart c = (idle.foldl (fun (u : State) i => u.startGroup (28 + i)) s).finish c 0 (maskOf idle) := by
  subst hidle
  simp only [State.globalStart, List.filter_filter, Bool.and_comm]

theorem exec_globalStartAtTime {e : Fin 64} (h : s.runsOn 0x73 e c) (hp : c.phase = 1) :
    exec (.globalStartAtTime e) s = .next (if c.opnd 16 23 ≤ s.time then s.globalStart c else s).settle := by
  rw [exec, execGlobalStartAtTime, execute_command_runsOn h]
  simp only [hp, true_and]

/-! ### VENDOR_TEST (R317) -/

section
variable (hop : 0xF0 ≤ c.opcode) (hop' : c.opcode ≤ 0xFF)
include hop hop'

theorem State.owner_vendor : s.owner c = s.fullQp c.qp := by
  rw [State.owner, if_neg (by omega), if_neg (by omega), if_neg (by omega), if_neg (by omega), if_neg (fun h => by omega), if_pos (by omega)]

theorem State.wellFormed_vendor : s.wellFormed c = true := by
  unfold State.wellFormed
  interval_cases c.opcode <;> rfl

theorem State.refusal_vendor_locked (hlock : s.vendorLocked = true) : s.refusal c = some 0x18 := by
  rw [State.refusal, if_neg (by omega), if_pos (by simp [hop, hlock])]

section
variable (hlock : s.vendorLocked = false)
include hlock

theorem State.refusal_vendor_unowned (hfull : s.fullQp c.qp = false) : s.refusal c = some 0x12 := by
  rw [State.refusal, if_neg (by omega), if_neg (by simp [hlock]), if_pos (by simp [State.owner_vendor hop hop', hfull])]

theorem State.refusal_vendor_none (hfull : s.fullQp c.qp = true) : s.refusal c = none := by
  rw [State.refusal, if_neg (by omega), if_neg (by simp [hlock]), if_neg (by simp [State.owner_vendor hop hop', hfull]),
    if_neg (by simp [State.wellFormed_vendor hop hop'])]

end

section
variable {e : Fin 64} (hl : s.live = true) (hat : s.cmdAt e = some c) (hnew : c.started = none) (htarget : c.target = 0)
  (hstart : s.startable c = true)
include hl hat hnew htarget hstart

theorem exec_vendorTest_refused {st : Nat} (h : s.refusal c = some st) :
    exec (.vendorTest e) s = .next ((s.start c).finish (s.go c) st 0).settle := by
  simp only [exec, execVendorTest, hat, h, Option.isNone_some, Bool.and_false, Bool.false_and, Bool.false_eq_true, if_false]
  rw [execute_live _ hl, State.command_refused s 0xF0 0xFF c.opcode e st c _ hat rfl hnew htarget hstart h hop hop']

omit hop' in
/-- What nothing refuses has no meaning in the manual, and the model stops there (log entry 12). -/
theorem exec_vendorTest_unrefused (h : s.refusal c = none) : exec (.vendorTest e) s = .refused .vendorEffect := by
  simp [exec, execVendorTest, hat, h, hl, hop, State.here_of_target htarget, hnew, hstart]

end

end

/-- Settles O36: the timer commands, GLOBAL_START before, at and after its time; the status commands; VENDOR_TEST by what refuses it. -/
theorem timerAndStatusCommandsFinish : Obligations.TimerAndStatusCommandsFinish := by
  refine ⟨fun s e c => ⟨fun h => ?_, fun h => ?_, fun h => ?_, fun h hp => ⟨fun ht => ?_, fun ht => ?_, fun h0 ht => ?_⟩,
      fun h hp => ⟨?_, fun ht => ?_, fun ht => ?_⟩, fun t => ⟨rfl, State.countOf_pair t⟩, fun _ => State.globalStart_eq⟩,
    fun s e c => ⟨fun h => ?_, fun h => ?_, fun h => ?_⟩,
    fun s e c hl hat hop hop' hnew htarget hstart => ⟨fun hlock => ?_, fun hlock hfull => ?_, fun hlock hfull => ?_⟩⟩
  · rw [exec, execTimerStart, execute_command_begins h]
    rfl
  · intro u n
    rw [exec, execTimerStopArm, execute_command_begins h]
    refine ⟨fun hstop => ?_, fun harm => ?_⟩
    · rw [State.timerStopArm_stops (s := s.start c) (c := s.go c) hstop]
      rfl
    · rw [State.timerStopArm_rearms (s := s.start c) (c := s.go c) harm]
      rfl
  · rw [exec, execTimerCapture, execute_command_begins h, ← Bool.cond_decide]
    rfl
  · rw [exec, execGlobalStart, execute_command_begins h, State.globalStartCmd_now (s := s.start c) (c := s.go c) hp ht]
  · rw [exec, execGlobalStart, execute_command_begins h, State.globalStartCmd_waits (s := s.start c) (c := s.go c) hp ht]
    rfl
  · rw [exec, execGlobalStart, execute_command_begins h, State.globalStartCmd_late (s := s.start c) (c := s.go c) hp h0 ht]
  · rw [exec, execGlobalStart, execute_command_runsOn h, State.globalStartCmd_waiting hp]
  · rw [exec_globalStartAtTime h hp, if_pos ht]
  · rw [exec_globalStartAtTime h hp, if_neg (Nat.not_le.2 ht)]
  · rw [exec, execRsStatus, execute_command_begins h]
    rfl
  · rw [exec, execLogClose, execute_command_begins h, ← Bool.cond_eq_ite]
    rfl
  · rw [exec, execFifoStatus, execute_command_begins h]
    rfl
  · exact exec_vendorTest_refused hop hop' hl hat hnew htarget hstart (State.refusal_vendor_locked hop hop' hlock)
  · exact exec_vendorTest_refused hop hop' hl hat hnew htarget hstart (State.refusal_vendor_unowned hop hop' hlock hfull)
  · exact exec_vendorTest_unrefused hop hl hat hnew htarget hstart (State.refusal_vendor_none hop hop' hlock hfull)

end Sys2Proof.Machine
end

section
/-! SUPPORT. What a slave does with the frames of the ring that are for it (R319, R327, R332 to R337, R340, R344, R350; log entries 33, 35
and 39), and the statement about them. -/

namespace Sys2Proof.Machine

variable {s u : State} {typ : Nat} {f : Frame}

/-! ### Frames taken and heard (R327) -/

theorem execute_takeFrame_takes (h : s.takes u typ f) (act : State → State) :
    execute (fun s => s.takeFrame typ f act) s = .next (act u).settle := by
  rw [execute_live _ h.1, State.takeFrame_takes h]

theorem execute_takeFrame_hears (h : s.hears u typ f) (act : State → State) :
    execute (fun s => s.takeFrame typ f act) s = .next (act u).settle := by
  rw [execute_live _ h.1, State.takeFrame_hears h]

theorem State.dst_of_hears (h : s.hears u typ f) : f.dst.val = 4095 := by
  obtain ⟨-, -, -, -, -, -, -, hdst⟩ := h
  exact hdst

section
variable (hm : u.master = false)
include hm

/-! ### CMD and ABORT_FWD (R319, R332, R336) -/

/-- The command of a CMD frame takes the lowest free entry of the command buffer. -/
def State.storeCmd (s : State) (f : Frame) : State :=
  ({ s with nextOrd := s.nextOrd + 1, cmds := s.cmds ++ [f.command s.nextOrd s.freeEntry] } : State).rewrote 8 (7 * s.freeEntry) 7

theorem State.takeCmd_stores (hen : u.enumd = true) (h : f.dst.val ≠ 4095 ∨ u.onRing f.dir f.kb = true) :
    u.takeCmd_ f = u.storeCmd f := if_neg (by rcases h with h | h <;> simp [hm, hen, h])

omit hm in
theorem State.takeCmd_skips (hdst : f.dst.val = 4095) (h : u.enumd = false ∨ u.onRing f.dir f.kb = false) : u.takeCmd_ f = u :=
  if_pos (by rcases h with h | h <;> simp [hdst, h])

/-! ### ACK (R333 to R335, R408) -/

omit hm in
theorem State.ack_stale (hold : u.oldEpoch f = true) : u.ack f = u.stale := if_pos (by simp [hold])

section
variable (hnew : u.oldEpoch f = false)
include hnew

theorem State.ack_entry {k : Nat} (h : (f.get 7 0 = 0x12 ∧ k = 8) ∨ (f.get 7 0 = 0x20 ∧ k = f.get 13 8 % 8)) :
    u.ack f = u.entryAcked k := by
  obtain ⟨ht, rfl⟩ | ⟨ht, rfl⟩ := h <;> simp [State.ack, hm, hnew, ht, entryKey]

section
variable (ht : f.get 7 0 = 0x1A)
include ht

theorem State.ack_access {a : Acc} (ha : u.accOf (f.get 13 8) true = some a) : u.ack f = u.accDone a := by
  simp [State.ack, hm, hnew, ht, ha]

theorem State.ack_access_late (ha : u.accOf (f.get 13 8) true = none) : u.ack f = u.stale := by
  simp [State.ack, hm, hnew, ht, ha]

end

section
variable (ht : f.get 7 0 = 0x21)
include ht

theorem State.ack_notice {i : Nat} (hi : u.noteOf (f.get 13 8) = some i) :
    u.ack f = (u.noteGone (f.get 13 8)).takeSource (f.get 13 8 % 16) i := by
  simp [State.ack, hm, hnew, ht, hi]

theorem State.ack_notice_late (hi : u.noteOf (f.get 13 8) = none) : u.ack f = u.stale := by
  simp [State.ack, hm, hnew, ht, hi]

end

end

/-! ### NACK (R333 to R335, R408) -/

/-- The unanswered frame `k` is to be sent again 4 µs from now (log entry 33). -/
def State.sendAgain (s : State) (k : Nat) : State := { s with ring := { s.ring with
  unans := s.ring.unans.map (fun (x : Unans) => if x.key = k then { x with again := some (s.time + 4000) } else x) } }

theorem State.nack_stale (hold : u.oldEpoch f = true) : u.nack f = u.stale := by
  simp [State.nack, hm, hold]

section
variable (hnew : u.oldEpoch f = false) {v : State} (hv : v = u.bump rKR_CNT_B 7 0)
include hnew hv

theorem State.nack_entry {k : Nat} (h : (f.get 7 0 = 0x12 ∧ k = 8) ∨ (f.get 7 0 = 0x20 ∧ k = f.get 13 8 % 8)) :
    u.nack f = if !u.ring.unans.any (fun x => x.key = k) then v.stale else v.sendAgain k := by
  subst hv
  obtain ⟨ht, rfl⟩ | ⟨ht, rfl⟩ := h <;> simp only [State.nack, hm, hnew, ht, entryKey] <;> rfl

section
variable {w : Bool} (h : (f.get 7 0 = 0x18 ∧ w = false) ∨ (f.get 7 0 = 0x1A ∧ w = true))
include h

theorem State.nack_access {a : Acc} (ha : v.accOf (f.get 13 8) w = some a) : u.nack f = v.accFail a := by
  subst hv
  obtain ⟨ht, rfl⟩ | ⟨ht, rfl⟩ := h <;> simp [State.nack, hm, hnew, ht, ha]

theorem State.nack_access_late (ha : v.accOf (f.get 13 8) w = none) : u.nack f = v.stale := by
  subst hv
  obtain ⟨ht, rfl⟩ | ⟨ht, rfl⟩ := h <;> simp [State.nack, hm, hnew, ht, ha]

end

section
variable (ht : f.get 7 0 = 0x21)
include ht

theorem State.nack_notice_late (hi : v.noteOf (f.get 13 8) = none) : u.nack f = v.stale := by
  subst hv
  simp [State.nack, hm, hnew, ht, hi]

/-- The notice of a source that is still the one delivered is judged again 4 µs later (log entry 39). -/
theorem State.nack_notice {i : Nat} {x : State} (hi : v.noteOf (f.get 13 8) = some i) (hx : x = v.noteGone (f.get 13 8)) :
    u.nack f = if (x.tgt (f.get 13 8 % 16)).await = some i then
      x.setTgt (f.get 13 8 % 16) { x.tgt (f.get 13 8 % 16) with retry := some (x.time + 4000) } else x := by
  subst hx hv
  simp [State.nack, hm, hnew, ht, hi]

end

end

/-! ### DMA_DATA (R333, R335) -/

theorem State.dmaData_stale (hold : u.oldEpoch f = true) : u.dmaData f = u.stale := by
  simp [State.dmaData, hm, hold]

section
variable (hnew : u.oldEpoch f = false)
include hnew

theorem State.dmaData_access {a : Acc} (ha : u.accOf f.tag false = some a) :
    u.dmaData f = (u.accDone a).fetchData a.ord a.len f.pay.toNat := by
  simp [State.dmaData, hm, hnew, ha]

theorem State.dmaData_late (ha : u.accOf f.tag false = none) : u.dmaData f = u.stale := by
  simp [State.dmaData, hm, hnew, ha]

end

/-! ### HB (R337) -/

section
variable {v : State} (hv : v = { u with poll := { u.poll with hbEn := bit f.pay 0, hbTmo := f.get 31 16 } })
include hv

theorem State.hbFrame_declares (hlost : bit f.pay 1 = true) : u.hbFrame f = v.slaveLost := by
  subst hv
  simp [State.hbFrame, hm, hlost]

theorem State.hbFrame_refers (hlost : bit f.pay 1 = false) : u.hbFrame f = { v with poll := { v.poll with ref := u.time } } := by
  subst hv
  simp [State.hbFrame, hm, hlost]

end

/-! ### TIME_SYNC (R340) -/

omit hm in
theorem State.timeSync_unreached (hen : u.enumd = false) : u.timeSync f = u := by
  simp [State.timeSync, hen]

omit hm in
theorem State.tstate_lt : u.tstate < 4 := fld_lt ..

theorem State.timeSync_eq (hen : u.enumd = true) {v : State} {err : Int} (hacq : u.tstate = 0 ∨ u.tstate = 3 → v = u.acquire)
    (hstay : u.tstate = 1 ∨ u.tstate = 2 → v = u) (herr : err = (v.ring.markL : Int) - ((16 * f.get 63 0 : Nat) + v.delay v.dirB)) :
    u.timeSync f = if v.tstate = 1 ∧ f.kb = v.dirB ∧ 256 < err.natAbs then
      { v with ring := { v.ring with step := some (-(4 * roundDivI err 64)) } } else v := by
  have hv : v = if u.tstate = 0 ∨ u.tstate = 3 then u.acquire else u := by
    split_ifs with h
    · exact hacq h
    · have := u.tstate_lt
      exact hstay (by omega)
  subst herr
  simp only [State.timeSync, hm, hen, Bool.not_true, Bool.or_self, Bool.false_eq_true, if_false, ← hv]

/-! ### ANGLE_STATE (R344) -/

omit hm in
/-- ADOM[k] is a ring domain that follows the frame's master domain. -/
def State.hearsAngle (s : State) (f : Frame) (k : Nat) : Bool := s.domEn k && s.domRing k && decide (s.ring.map / 4 ^ k % 4 = f.get 1 0)

/-- The frame waits for the slot of ADOM[k]. -/
def State.queueAngle (f : Frame) (s : State) (k : Nat) : State :=
  if s.hearsAngle f k then s.setDom k { s.dom k with rxQ := (s.dom k).rxQ ++ [(f.get 15 8, bit f.pay 6, f.pub)] } else s

theorem State.angleFrame_eq : u.angleFrame f = (below 4).foldl (State.queueAngle f) u := if_neg (by simp [hm])

omit hm in
theorem State.foldl_queueAngle_silent {l : List Nat} (h : ∀ k ∈ l, u.hearsAngle f k = false) : l.foldl (State.queueAngle f) u = u := by
  induction l with
  | nil => rfl
  | cons k l ih =>
    rw [List.foldl_cons, State.queueAngle, if_neg (by simp [h k (by simp)]), ih (fun i hi => h i (by simp [hi]))]

theorem State.angleFrame_silent (h : ∀ k < 4, u.domRing k = false) : u.angleFrame f = u := by
  rw [State.angleFrame_eq hm]
  exact State.foldl_queueAngle_silent (fun k hk => by simp [State.hearsAngle, h k (List.mem_range.1 hk)])

omit hm in
theorem below_four_around (d : Fin 4) : below 4 = (below 4).take d ++ d.val :: (below 4).drop (d + 1) ∧
    (∀ k ∈ (below 4).take d, k < 4 ∧ k ≠ d.val) ∧ ∀ k ∈ (below 4).drop (d + 1), k < 4 ∧ k ≠ d.val := by
  revert d
  decide

/-- One domain follows the frame's master domain, and it alone takes the frame. -/
theorem State.angleFrame_one {d : Fin 4} (h : ∀ k < 4, u.hearsAngle f k = decide (k = d.val)) :
    u.angleFrame f = u.setDom d { u.dom d with rxQ := (u.dom d).rxQ ++ [(f.get 15 8, bit f.pay 6, f.pub)] } := by
  have hother : ∀ k, k < 4 ∧ k ≠ d.val → u.hearsAngle f k = false := fun k hk => by simp [h k hk.1, hk.2]
  obtain ⟨hl, hbefore, hafter⟩ := below_four_around d
  rw [State.angleFrame_eq hm, hl, List.foldl_append, State.foldl_queueAngle_silent (fun k hk => hother k (hbefore k hk)), List.foldl_cons,
    State.queueAngle, if_pos (by simp [h d d.isLt])]
  exact State.foldl_queueAngle_silent (fun k hk => hother k (hafter k hk))

end

/-- Settles O39: CMD and ABORT_FWD; replies of an earlier epoch; ACK, NACK and DMA_DATA by what they answer; then the broadcasts HB, REJOIN,
TIME_SYNC and ANGLE_STATE. -/
theorem slaveTakesRingFrames : Obligations.SlaveTakesRingFrames := by
  refine ⟨fun s u f hm => ⟨fun v hv => ⟨fun h hen hdst => ?_, fun h hen hon => ?_, fun h hskip => ?_⟩, fun h => ?_,
      fun hold => ⟨fun h => ?_, fun h => ?_, fun h => ?_⟩, fun hnew => ⟨fun h => ⟨fun ht => ?_, fun ht => ?_, fun ht => ⟨fun a ha => ?_, fun ha => ?_⟩,
        fun ht => ⟨fun i hi => ?_, fun hi => ?_⟩⟩, fun h v hv => ⟨fun k hk => ⟨fun hx => ?_, fun hx => ?_⟩,
          fun w hw => ⟨fun a ha => ?_, fun ha => ?_⟩, fun ht => ⟨fun hi => ?_, fun i g hi hg x hx => ?_⟩⟩,
        fun h => ⟨fun a ha => ?_, fun ha => ?_⟩⟩⟩,
    fun s u f hm => ⟨fun h v hv => ⟨fun hlost => ?_, fun hlost => ?_⟩, fun h => ?_,
      fun h => ⟨fun hen => ?_, fun hen v err hacq hstay herr => ?_⟩, fun h => ⟨fun hring => ?_, fun d hd => ?_⟩⟩⟩
  · rw [exec, execCmd, execute_takeFrame_takes h, State.takeCmd_stores hm hen (.inl hdst), State.storeCmd, hv]
  · rw [exec, execCmd, execute_takeFrame_hears h, State.takeCmd_stores hm hen (.inr hon), State.storeCmd, hv]
  · rw [exec, execCmd, execute_takeFrame_hears h, State.takeCmd_skips (State.dst_of_hears h) hskip]
  · rw [exec, execAbortFwd, execute_takeFrame_takes h, if_neg (by simp [hm])]
  · rw [exec, execAck, execute_takeFrame_takes h, State.ack_stale hold]
  · rw [exec, execNack, execute_takeFrame_takes h, State.nack_stale hm hold]
  · rw [exec, execDmaData, execute_takeFrame_takes h, State.dmaData_stale hm hold]
  · rw [exec, execAck, execute_takeFrame_takes h, State.ack_entry hm hnew (.inr ⟨ht, rfl⟩)]
  · rw [exec, execAck, execute_takeFrame_takes h, State.ack_entry hm hnew (.inl ⟨ht, rfl⟩)]
  · rw [exec, execAck, execute_takeFrame_takes h, State.ack_access hm hnew ht ha]
  · rw [exec, execAck, execute_takeFrame_takes h, State.ack_access_late hm hnew ht ha]
  · rw [exec, execAck, execute_takeFrame_takes h, State.ack_notice hm hnew ht hi]
  · rw [exec, execAck, execute_takeFrame_takes h, State.ack_notice_late hm hnew ht hi]
  · rw [exec, execNack, execute_takeFrame_takes h, State.nack_entry hm hnew hv hk, if_neg (by simpa using hx), State.sendAgain]
  · rw [exec, execNack, execute_takeFrame_takes h, State.nack_entry hm hnew hv hk, if_pos (by simpa using hx)]
  · rw [exec, execNack, execute_takeFrame_takes h, State.nack_access hm hnew hv hw ha]
  · rw [exec, execNack, execute_takeFrame_takes h, State.nack_access_late hm hnew hv hw ha]
  · rw [exec, execNack, execute_takeFrame_takes h, State.nack_notice_late hm hnew hv ht hi]
  · rw [exec, execNack, execute_takeFrame_takes h, State.nack_notice hm hnew hv ht hi hx, ← hg]
    exact ⟨fun hawait => by rw [if_pos hawait], fun hawait => by rw [if_neg hawait]⟩
  · rw [exec, execDmaData, execute_takeFrame_takes h, State.dmaData_access hm hnew ha]
  · rw [exec, execDmaData, execute_takeFrame_takes h, State.dmaData_late hm hnew ha]
  · rw [exec, execHb, execute_takeFrame_hears h, State.hbFrame_declares hm hv hlost]
  · rw [exec, execHb, execute_takeFrame_hears h, State.hbFrame_refers hm hv hlost]
  · rw [exec, execRejoin, execute_takeFrame_hears h]
  · rw [exec, execTimeSync, execute_takeFrame_hears h, State.timeSync_unreached hen]
  · rw [exec, execTimeSync, execute_takeFrame_hears h, State.timeSync_eq hm hen hacq hstay herr]
    refine ⟨fun hkeep => ?_, fun hst hkb hlarge => ?_⟩
    · rw [if_neg (fun ⟨hst, hkb, hlarge⟩ => hkeep.elim (· hst) (·.elim (· hkb) (Nat.not_le.2 hlarge)))]
    · rw [if_pos ⟨hst, hkb, hlarge⟩]
  · rw [exec, execAngleState, execute_takeFrame_hears h, State.angleFrame_silent hm hring]
  · rw [exec, execAngleState, execute_takeFrame_hears h, State.angleFrame_one hm hd]

end Sys2Proof.Machine
end

section
/-! SUPPORT. Tokens, probes and echoes, KR_ENUMERATE, KR_REJOIN and KR_STATUS, and the timeouts of the ring (R315, R318, R324, R328 to R332;
log entries 32 and 33), and the statement about them. -/

namespace Sys2Proof.Machine

variable {s u : State} {f : Frame} {c : Cmd}

/-! ### Frames between neighbours (R328, R329) -/

theorem State.takeNear_off (typ : Nat) (f : Frame) (act : State → State) (h : s.portsOn = false) : s.takeNear typ f act = s := by
  simp [State.takeNear, h]

theorem State.takeNear_bad {typ : Nat} (act : State → State) (hon : s.portsOn = true) (hbad : f.bad typ = true) :
    s.takeNear typ f act = s.badFrame f.kb := by
  simp [State.takeNear, hon, hbad]

/-! ### The KA token (R324, R328, R330) -/

theorem State.enumA_off (f : Frame) (h : s.portsOn = false) : s.enumA f = s := by
  simp [State.enumA, h]

theorem State.enumA_bad (hon : s.portsOn = true) (hbad : f.bad 1 = true) :
    s.enumA f = if s.onRing false f.kb then s.badFrame f.kb else s.badPass f := by
  simp [State.enumA, State.badToken, hon, hbad]

theorem State.segment_known (h : s.rf rKR_HOP 15 0 ≠ 0xFFFF) : s.segment = (s.rf rKR_HOP 15 0 - 512, s) := if_neg h

theorem State.enumA_meets (h : s.meets 1 f) : s.enumA f =
    if s.master && f.get 79 48 != s.uid % 2 ^ 32 then s.setRb rKR_STAT 3 true
    else if !s.onRing false f.kb then s.passOn 1 f
    else if s.master then s.enumAMaster f else s.enumASlave f := by
  obtain ⟨-, hon, hport, hgood⟩ := h
  simp only [State.enumA, hon, hport, hgood, Bool.not_true, Bool.false_eq_true, if_false]

section
variable (hown : s.master = false ∨ f.get 79 48 = s.uid % 2 ^ 32)
include hown

theorem State.not_other_master : ¬(s.master && f.get 79 48 != s.uid % 2 ^ 32) = true := by
  rcases hown with h | h <;> simp [h]

theorem State.enumA_passes (h : s.meets 1 f) (hring : s.onRing false f.kb = false) : s.enumA f = s.passOn 1 f := by
  rw [State.enumA_meets h, if_neg (State.not_other_master hown), if_pos (by simp [hring])]

theorem State.enumA_taken (h : s.meets 1 f) (hring : s.onRing false f.kb = true) :
    s.enumA f = if s.master then s.enumAMaster f else s.enumASlave f := by
  rw [State.enumA_meets h, if_neg (State.not_other_master hown), if_neg (by simp [hring])]

end

theorem State.enumASlave_known (hhop : s.rf rKR_HOP 15 0 ≠ 0xFFFF) (hnext : f.get 15 0 ≤ 4094) {d : Nat}
    (hd : d = (f.get 47 16 + 16 * (s.rf rKR_HOP 15 0 - 512)) % 2 ^ 32) :
    s.enumASlave f = ((s.takeAddr (f.get 15 0) f.epoch).setReg rKR_DLY_A (BitVec.ofNat 32 d)).passOn 1
      { f with pay := BitVec.ofNat 576 (pack [(15, 0, f.get 15 0 + 1), (47, 16, d + 8192), (79, 48, f.get 79 48)]) } := by
  rw [hd]
  simp only [State.enumASlave, State.segment_known hhop, hnext, if_true]

/-! ### The KB token (R330) -/

theorem State.enumB_off (f : Frame) (h : s.portsOn = false) : s.enumB f = s := by
  simp [State.enumB, h]

theorem State.enumB_bad (hon : s.portsOn = true) (hbad : f.bad 2 = true) :
    s.enumB f = if s.onRing true f.kb then s.badFrame f.kb else s.badPass f := by
  simp [State.enumB, State.badToken, hon, hbad]

theorem State.enumB_meets (h : s.meets 2 f) :
    s.enumB f = if s.onRing true f.kb then (if s.master then s.enumBMaster f else s.enumBSlave f) else s.passOn 2 f := by
  obtain ⟨-, hon, hport, hgood⟩ := h
  cases hring : s.onRing true f.kb <;> simp [State.enumB, hon, hport, hgood, hring]

theorem State.enumBSlave_known (hhop : s.rf rKR_HOP 15 0 ≠ 0xFFFF) :
    s.enumBSlave f = (s.setReg rKR_DLY_B (BitVec.ofNat 32 (f.get 31 0))).passOn 2
      { f with pay := BitVec.ofNat 576 ((f.get 31 0 + 8192 + 16 * (s.rf rKR_HOP 15 0 - 512)) % 2 ^ 32) } := by
  simp only [State.enumBSlave, State.segment_known hhop]

/-! ### KR_ENUMERATE and KR_REJOIN (R315, R330, R331) -/

theorem exec_ringCommand {e : Fin 64} {p : Nat × Instr} (hp : p ∈ [(0xA0, Instr.krEnumerate e), (0xA2, Instr.krRejoin e)]) (s : State) :
    exec p.2 s = execute (fun s => s.command p.1 p.1 e State.ringRun) s := by
  fin_cases hp <;> rfl

theorem State.ringRun_refused {o k t : Nat} (hrun : s.ring.run = some (o, k, t)) (ho : o ≠ c.ord) :
    s.ringRun c = s.finish c 0x17 (pack [(39, 32, 9)]) := by
  simp [State.ringRun, hrun, ho]

theorem State.ringRun_begins (hrun : s.ring.run = none)
    (hu : u = ({ s with ring := { s.ring with run := some (c.ord, 2, s.time) } } : State).setRb rKR_STAT 26 true) :
    s.ringRun c = u.ringTry c := by
  simp [State.ringRun, hrun, hu]

theorem State.ringRun_own {k t : Nat} (hrun : s.ring.run = some (c.ord, k, t)) : s.ringRun c = if k = 2 then s.ringTry c else s := by
  simp [State.ringRun, hrun]

theorem State.ringTry_first (c : Cmd) (h : s.ring.epochAt = none) : s.ringTry c = s.ringBegin c := by
  simp [State.ringTry, h]

theorem State.ringTry_later (c : Cmd) {t : Nat} (h : s.ring.epochAt = some t) :
    s.ringTry c = if s.time < t + s.ringTo then s else s.ringBegin c := by
  simp [State.ringTry, h]

/-! ### Timeouts (R318, R330, R332) -/

theorem State.enumTimeout_idle (h : s.ring.run = none) : s.enumTimeout = s := by
  simp [State.enumTimeout, h]

theorem State.enumTimeout_waits {o k t : Nat} (hrun : s.ring.run = some (o, k, t)) (h : 2 ≤ k ∨ s.time + 4 ≤ t + 64 * s.ringTo) :
    s.enumTimeout = s := by
  have hno : ¬(k < 2 ∧ t + 64 * s.ringTo < s.time + 4) := by omega
  simp only [State.enumTimeout, hrun, if_neg hno]

section
variable {o k t : Nat} (hrun : s.ring.run = some (o, k, t)) (hk : k < 2) (ht : t + 64 * s.ringTo < s.time + 4)
  (hu : u = ({ s with ring := { s.ring with run := none } } : State).setRb rKR_STAT 26 false)
include hrun hk ht hu

theorem State.enumTimeout_ends (hc : u.cmdOf o = some c) : s.enumTimeout = u.finish c 0x40 0 := by
  subst hu
  simp only [State.enumTimeout, hrun, if_pos (And.intro hk ht), hc]

theorem State.enumTimeout_gone (hc : u.cmdOf o = none) : s.enumTimeout = u := by
  subst hu
  simp only [State.enumTimeout, hrun, if_pos (And.intro hk ht), hc]

end

/-- The reply to the command in entry `e` is late at the master, once the ABORT of it has been seen to. -/
def State.forwardLate (s : State) (e : Nat) : State :=
  match s.cmds.find? (fun c => c.ent = e && s.forwarded c) with
  | some c => if c.sentAt + 192 + s.ringTo < s.time + 4 then s.forwardEnds c 0x40 else s
  | none => s

theorem State.ringTimeout_eq {e : Nat}
    (hsome : ∀ x, s.abortsOut.find? (fun x => x.2.entry == some e && decide (x.2.at_ + 64 + s.ringTo < s.time + 4)) = some x →
      u = s.abortEnds x 0x40)
    (hnone : s.abortsOut.find? (fun x => x.2.entry == some e && decide (x.2.at_ + 64 + s.ringTo < s.time + 4)) = none → u = s) :
    s.ringTimeout e = u.forwardLate e := by
  unfold State.ringTimeout
  cases hfind : s.abortsOut.find? (fun x => x.2.entry == some e && decide (x.2.at_ + 64 + s.ringTo < s.time + 4)) with
  | none =>
    rw [hnone hfind]
    rfl
  | some x =>
    rw [hsome x hfind]
    rfl

theorem State.forwardLate_found {e : Nat} (h : s.cmds.find? (fun c => c.ent = e && s.forwarded c) = some c) :
    s.forwardLate e = if c.sentAt + 192 + s.ringTo < s.time + 4 then s.forwardEnds c 0x40 else s := by
  simp only [State.forwardLate, h]

theorem State.forwardLate_none {e : Nat} (h : s.cmds.find? (fun c => c.ent = e && s.forwarded c) = none) : s.forwardLate e = s := by
  simp only [State.forwardLate, h]

theorem State.accTimeout_fails {e : Nat} {a : Acc}
    (h : s.ring.accs.find? (fun a => a.tag == some e && decide (a.sent + s.ringTo < s.time + 4)) = some a) : s.accTimeout e = s.accFail a := by
  simp only [State.accTimeout, h]

theorem State.accTimeout_waits {e : Nat}
    (h : s.ring.accs.find? (fun a => a.tag == some e && decide (a.sent + s.ringTo < s.time + 4)) = none) : s.accTimeout e = s := by
  simp only [State.accTimeout, h]

section
variable (hl : s.live = true)
include hl

theorem exec_enumA (f : Frame) : exec (.enumA f) s = .next (s.enumA f).settle := by
  rw [exec, execEnumA, execute_live _ hl]

theorem exec_enumB (f : Frame) : exec (.enumB f) s = .next (s.enumB f).settle := by
  rw [exec, execEnumB, execute_live _ hl]

theorem exec_probe (f : Frame) :
    exec (.probe f) s = .next (s.takeNear 3 f (fun s => if f.kb then s.sendOn false 4 f.src f.tage.toNat 0 0 else s)).settle := by
  rw [exec, execProbe, execute_live _ hl]

theorem exec_echo (f : Frame) (x : Fin 65536) :
    exec (.echo f x) s = .next (s.takeNear 4 f (fun s => if !f.kb && s.ring.probe then s.measure x else s)).settle := by
  rw [exec, execEcho, execute_live _ hl]

theorem exec_enumTimeout : exec .enumTimeout s = .next s.enumTimeout.settle := by
  rw [exec, execEnumTimeout, execute_live _ hl]

theorem exec_ringTimeout (e : Fin 64) :
    exec (.ringTimeout e) s = .next (if s.master then s.ringTimeout e else s.accTimeout e).settle := by
  rw [exec, execRingTimeout, execute_live _ hl]

end

/-- Settles O40: tokens, probes and echoes; the two commands that run on the ring and how they begin; the timeouts. -/
theorem ringEnumerationProbesAndTimeouts : Obligations.RingEnumerationProbesAndTimeouts := by
  refine ⟨fun s f hl => ⟨fun hoff => ⟨fun x => ?_, ?_, ?_, ?_⟩, fun hon => ⟨fun x hbad => ?_, fun hbad => ?_, fun hbad => ?_, fun hbad => ?_⟩,
      fun h => ⟨fun hm huid => ?_, fun hown hring => ?_, fun hm huid hring => ?_, fun hring hm hhop hnext d hd => ?_⟩,
      fun h => ⟨fun hring => ?_, fun hring hm => ?_, fun hring hm hhop => ?_⟩, fun h => ?_,
      fun x h => ⟨fun hkb hprobe => ?_, fun hno => ?_⟩⟩,
    fun s e c p hp => ⟨fun h => ⟨fun o k t hrun ho => ?_, fun hrun u hu => ⟨fun hepoch => ?_, fun t hepoch ht => ?_, fun t hepoch ht => ?_⟩⟩,
      fun h k t₀ hrun => ⟨fun hk => ?_, fun hk t hepoch ht => ?_⟩⟩,
    fun s c => ⟨fun hop => if_pos hop, fun hop u hu => ?_⟩,
    fun s e c hl => ⟨fun h => ?_, fun hrun => ?_, fun o k t hrun => ⟨fun h => ?_, fun hk ht u hu => ⟨fun hc => ?_, fun hc => ?_⟩⟩,
      fun hm u hsome hnone => ⟨fun hfind => ⟨fun ht => ?_, fun ht => ?_⟩, fun hfind => ?_⟩, fun hm => ⟨fun a hfind => ?_, fun hfind => ?_⟩⟩⟩
  · rw [exec_echo hl, State.takeNear_off _ _ _ hoff]
  · rw [exec_enumA hl, State.enumA_off f hoff]
  · rw [exec_enumB hl, State.enumB_off f hoff]
  · rw [exec_probe hl, State.takeNear_off _ _ _ hoff]
  · rw [exec_echo hl, State.takeNear_bad _ hon hbad]
  · rw [exec_probe hl, State.takeNear_bad _ hon hbad]
  · rw [exec_enumA hl, State.enumA_bad hon hbad]
  · rw [exec_enumB hl, State.enumB_bad hon hbad]
  · rw [exec_enumA hl, State.enumA_meets h, if_pos (by simpa [hm] using huid)]
  · rw [exec_enumA hl, State.enumA_passes hown h hring]
  · rw [exec_enumA hl, State.enumA_taken (.inr huid) h hring, if_pos hm]
  · rw [exec_enumA hl, State.enumA_taken (.inl hm) h hring, if_neg (by simp [hm]), State.enumASlave_known hhop hnext hd]
  · rw [exec_enumB hl, State.enumB_meets h, if_neg (by simp [hring])]
  · rw [exec_enumB hl, State.enumB_meets h, if_pos hring, if_pos hm]
  · rw [exec_enumB hl, State.enumB_meets h, if_pos hring, if_neg (by simp [hm]), State.enumBSlave_known hhop]
  · rw [exec_probe hl, State.takeNear_meets h]
  · rw [exec_echo hl, State.takeNear_meets h, if_pos (by simp [hkb, hprobe])]
  · rw [exec_echo hl, State.takeNear_meets h, if_neg (by simpa [imp_iff_not_or] using hno)]
  · rw [exec_ringCommand hp, execute_command_begins h, State.ringRun_refused (s := s.start c) (c := s.go c) hrun ho]
  · rw [exec_ringCommand hp, execute_command_begins h, State.ringRun_begins (s := s.start c) (c := s.go c) hrun hu,
      State.ringTry_first _ hepoch]
  · rw [exec_ringCommand hp, execute_command_begins h, State.ringRun_begins (s := s.start c) (c := s.go c) hrun hu,
      State.ringTry_later _ hepoch, if_pos ht]
  · rw [exec_ringCommand hp, execute_command_begins h, State.ringRun_begins (s := s.start c) (c := s.go c) hrun hu,
      State.ringTry_later _ hepoch, if_neg (Nat.not_lt.2 ht)]
  · rw [exec_ringCommand hp, execute_command_runsOn h, State.ringRun_own hrun, if_neg hk]
  · rw [exec_ringCommand hp, execute_command_runsOn h, State.ringRun_own hrun, if_pos hk, State.ringTry_later c hepoch, if_neg (Nat.not_lt.2 ht)]
  · subst hu
    exact if_neg (by omega)
  · rw [exec, execKrStatus, execute_command_begins h]
  · rw [exec_enumTimeout hl, State.enumTimeout_idle hrun]
  · rw [exec_enumTimeout hl, State.enumTimeout_waits hrun h]
  · rw [exec_enumTimeout hl, State.enumTimeout_ends hrun hk ht hu hc]
  · rw [exec_enumTimeout hl, State.enumTimeout_gone hrun hk ht hu hc]
  · rw [exec_ringTimeout hl, if_pos hm, State.ringTimeout_eq hsome hnone, State.forwardLate_found hfind, if_pos ht]
  · rw [exec_ringTimeout hl, if_pos hm, State.ringTimeout_eq hsome hnone, State.forwardLate_found hfind, if_neg (Nat.not_lt.2 ht)]
  · rw [exec_ringTimeout hl, if_pos hm, State.ringTimeout_eq hsome hnone, State.forwardLate_none hfind]
  · rw [exec_ringTimeout hl, if_neg (by simp [hm]), State.accTimeout_fails hfind]
  · rw [exec_ringTimeout hl, if_neg (by simp [hm]), State.accTimeout_waits hfind]

end Sys2Proof.Machine
end

section
/-! SUPPORT. Starts, stops and resets of Pretzel engines, their program memory and flags, and the commands PZ_INJECT, PZ_PUSH, PZ_PULL and
PZ_CONTROL (R313, R370 to R373; log entry 37), and the statement about them. -/

namespace Sys2Proof.Machine

variable {s : State} {c : Cmd} {p : Nat}

/-! ### Control (R371, R372) -/

theorem State.pzgStart_of_running (h : (s.pz p).run = true) : s.pzgStart p = s := if_pos h

section
variable (h : (s.pz p).run = false)
include h

theorem State.pzStart_of_stopped :
    s.pzStart p = s.setPz p { s.pz p with run := true, startAt := s.coreAt + 4, n := 0, idle := 0, stall := 0 } := by
  simp [State.pzStart, h]

theorem State.pzgStart_in_safe (hsafe : s.inSafe = true) : s.pzgStart p = s.setRb (rPZG_STAT (p / 4)) 30 true := by
  simp [State.pzgStart, h, hsafe]

theorem State.pzgStart_outside_safe (hsafe : s.inSafe = false) : s.pzgStart p = s.pzStart p := by
  simp [State.pzgStart, h, hsafe]

theorem State.pzStop_of_stopped : s.pzStop p = s := if_neg (by simp [h])

end

theorem State.pzStop_of_running (h : (s.pz p).run = true) :
    s.pzStop p = s.setPz p { s.pz p with run := false, idle := 0, stall := 0 } := if_pos h

section
variable {g i : Nat} {v : Word}

theorem State.windowWrite_of_stopped (h : s.groupStopped g = true) : s.windowWrite g i v = s.pzStore g i (BitVec.ofNat 16 v.toNat) := if_pos h

theorem State.windowWrite_of_running (h : s.groupStopped g = false) : s.windowWrite g i v = s.setRb (rPZG_STAT g) 30 true :=
  if_neg (by simp [h])

end

/-! ### PZ_INJECT (R313, R373) -/

theorem State.pzInject_stopped (h : s.groupStopped (c.byte 8 / 4) = true) : s.pzInject c = s.finish c 0x17 (7 * 2 ^ 32) := if_pos h

/-- An instruction that replaces a pending one counts as lost. -/
theorem State.pzInject_injects {w : State} {x : Pz} (h : s.groupStopped (c.byte 8 / 4) = false) (hx : x = s.pz (c.byte 8))
    (hfree : x.inj = none → w = s) (hheld : x.inj ≠ none → w = s.bump (rPZ_CNT (c.byte 8)) 15 8) :
    s.pzInject c = (w.setPz (c.byte 8)
      { x with inj := some (BitVec.ofNat 16 (c.opnd 10 11)), idle := if x.run then x.idle else 0 }).finish c 0 0 := by
  have hw : w = if x.inj.isSome then s.bump (rPZ_CNT (c.byte 8)) 15 8 else s := by
    cases hinj : x.inj with
    | none => exact hfree hinj
    | some i => exact hheld (by simp [hinj])
  rw [hw, hx]
  exact if_neg (by simp [h])

/-! ### PZ_CONTROL (R313) -/

theorem State.pzControl_refused (hstart : c.byte 9 = 1) (hsafe : s.inSafe = true) : s.pzControl c = s.finish c 0x26 0 :=
  if_pos ⟨hstart, hsafe⟩

theorem State.pzControl_acts {w : State} {f : State → Nat → State}
    (hf : (c.byte 9 = 0 ∧ f = State.pzStop) ∨ (c.byte 9 = 1 ∧ s.inSafe = false ∧ f = State.pzStart) ∨ (c.byte 9 = 2 ∧ f = State.pzReset))
    (hw : w = ((below 4).filter (fun k => c.byte 10 / 2 ^ k % 2 = 1)).foldl (fun (y : State) k => f y (4 * c.byte 8 + k)) s) :
    s.pzControl c = w.finish c 0 (w.pzgRun (c.byte 8)) := by
  rw [hw]
  obtain ⟨hop, rfl⟩ | ⟨hop, hsafe, rfl⟩ | ⟨hop, rfl⟩ := hf
  · simp only [State.pzControl, hop]
    rfl
  · simp only [State.pzControl, hop, hsafe]
    rfl
  · simp only [State.pzControl, hop]
    rfl

/-- Settles O43: starts, stops, resets, program writes and flags; then PZ_INJECT, PZ_PUSH, PZ_PULL and PZ_CONTROL. -/
theorem pretzelControlActsOnEngines : Obligations.PretzelControlActsOnEngines := by
  refine ⟨fun s p v hl => ⟨fun hrun => ?_, fun hrun => ⟨fun hsafe => ?_, fun hsafe => ?_⟩, fun hrun => ?_, fun hrun => ?_, ?_,
      fun g i => ⟨fun h => ?_, fun h => ?_⟩, ?_, ?_⟩,
    fun s u e c p x hu hp hx => ?_⟩
  · rw [exec, execPzgStart, execute_live _ hl, State.pzgStart_of_running hrun]
  · rw [exec, execPzgStart, execute_live _ hl, State.pzgStart_in_safe hrun hsafe]
  · rw [exec, execPzgStart, execute_live _ hl, State.pzgStart_outside_safe hrun hsafe, State.pzStart_of_stopped hrun]
  · rw [exec, execPzgStop, execute_live _ hl, State.pzStop_of_running hrun]
  · rw [exec, execPzgStop, execute_live _ hl, State.pzStop_of_stopped hrun]
  · rw [exec, execPzgReset, execute_live _ hl, State.pzReset]
  · rw [exec, execProgramWindowWrite, execute_live _ hl, State.windowWrite_of_stopped h]
  · rw [exec, execProgramWindowWrite, execute_live _ hl, State.windowWrite_of_running h]
  · rw [exec, execPzFlagSet, execute_live _ hl]
  · rw [exec, execPzFlagClr, execute_live _ hl]
  · subst hu hp
    refine ⟨fun h => ⟨fun hstop => ?_, fun hgo w hfree hheld => ?_⟩, fun h n l hn hlist => ?_, fun h held n l hheld hn hlist => ?_,
      fun h hstart hsafe => ?_, fun h f hf w hw => ?_⟩
    · rw [exec, execPzInject, execute_command_begins h, State.pzInject_stopped (s := s.start c) (c := s.go c) hstop]
    · rw [exec, execPzInject, execute_command_begins h, State.pzInject_injects (s := s.start c) (c := s.go c) hgo hx hfree hheld]
      rfl
    · subst hx hn hlist
      rw [exec, execPzPush, execute_command_begins h]
      rfl
    · subst hx hlist hn hheld
      rw [exec, execPzPull, execute_command_begins h]
      rfl
    · rw [exec, execPzControl, execute_command_begins h, State.pzControl_refused (s := s.start c) (c := s.go c) hstart hsafe]
    · rw [exec, execPzControl, execute_command_begins h, State.pzControl_acts (s := s.start c) (c := s.go c) hf hw]
      rfl

end Sys2Proof.Machine
end

section
/-! SUPPORT. When a crumb falls due, what a written word and an erased sector bring about, and the beginning of a commit (R420, R421, R424,
R427; log entries 44 and 45). -/

namespace Sys2Proof.Machine

variable {s u : State}

/-! ### Crumbs that fall due (R421, R427) -/

/-- The object is among the crumbs due, or its crumb is being committed. -/
def State.crumbBusy (s : State) (kind key : Nat) : Bool :=
  s.jrn.due.any (fun d => d.kind == kind && d.key == key)
    || (match s.jrn.commit with | some c => c.kind == kind && c.key == key | none => false)

theorem State.crumbBusy_eq_false_iff {kind key : Nat} : s.crumbBusy kind key = false ↔
    (∀ d ∈ s.jrn.due, ¬(d.kind = kind ∧ d.key = key)) ∧ ∀ c, s.jrn.commit = some c → ¬(c.kind = kind ∧ c.key = key) := by
  unfold State.crumbBusy
  cases s.jrn.commit <;> simp

section
variable {kind key : Nat}

theorem State.crumbDue_outside_dip (hdip : s.dip = false) {t : Nat} (ht : t = tabGet 0 s.jrn.since (objKey kind key)) : s.crumbDue kind key =
    if 1 ≤ kind ∧ kind ≤ 5 ∧ s.rb rJRN_CFG (26 + kind) = true ∧ t ≠ 0 ∧ s.crumbBusy kind key = false
        ∧ t - 1 + 1000000000 * max 1 (s.rf rJRN_CFG 15 8) < s.time + 4 then
      (s.setJrn { s.jrn with due := s.jrn.due ++ [{ kind := kind, key := key }] }).jrnNext
    else s := by
  rw [ht]
  exact if_neg (by simp [hdip])

section
variable (hdip : s.dip = true)
include hdip

theorem State.crumbDue_dip_waits (h : s.time % 64 ≠ 0 ∨ s.jrn.commit.isSome = true ∨ s.time ≤ s.jrn.dipFrom ∨ s.heading = true) :
    s.crumbDue kind key = s := by
  rw [State.crumbDue, if_pos hdip, if_pos h]

section
variable (hfree : ¬(s.time % 64 ≠ 0 ∨ s.jrn.commit.isSome = true ∨ s.time ≤ s.jrn.dipFrom ∨ s.heading = true))
include hfree

theorem State.crumbDue_dip_object {o : Nat × Nat} (ho : s.dipFirst = some o) :
    s.crumbDue kind key = if o = (kind, key) then s.commitDue { kind := kind, key := key } else s := by
  rw [State.crumbDue, if_pos hdip, if_neg hfree, ho]

section
variable (ho : s.dipFirst = none)
include ho

theorem State.crumbDue_dip_due {d : Due} {l : List Due} (hdue : s.jrn.due = d :: l) :
    s.crumbDue kind key = if d.kind = kind ∧ d.key = key then s.commitDue d else s := by
  rw [State.crumbDue, if_pos hdip, if_neg hfree, ho, hdue]

theorem State.crumbDue_dip_done (hdue : s.jrn.due = []) : s.crumbDue kind key = s := by
  rw [State.crumbDue, if_pos hdip, if_neg hfree, ho, hdue]

end

end

end

end

/-! ### A word has been written (R420, R424) -/

/-- The last word of a crumb, a copy or a bank header has been written. -/
def State.crumbComplete (s : State) (c : Commit) : State :=
  match s.jrn.compact with
  | some k => if c.bank = s.jrn.live then (s.committed c).jrnNext
              else if c.kind = 0xFF then (s.compacted c k).jrnNext else (s.copied c k).jrnNext
  | none => (s.committed c).jrnNext

section
variable {c : Commit}

theorem State.crumbComplete_crumb (h : s.jrn.compact = none ∨ c.bank = s.jrn.live) : s.crumbComplete c = (s.committed c).jrnNext := by
  unfold State.crumbComplete
  cases hk : s.jrn.compact with
  | none => rfl
  | some k => exact if_pos (h.resolve_left (by simp [hk]))

theorem State.crumbComplete_other {k : Compact} (hk : s.jrn.compact = some k) (hbank : c.bank ≠ s.jrn.live) :
    s.crumbComplete c = if c.kind = 0xFF then (s.compacted c k).jrnNext else (s.copied c k).jrnNext := by
  simp only [State.crumbComplete, hk, if_neg hbank]

end

theorem State.wordWritten_idle (ok : Bool) (h : s.jrn.commit = none) : s.wordWritten ok = s := by
  simp only [State.wordWritten, h]

section
variable {c d : Commit} (hc : s.jrn.commit = some c)
include hc

theorem State.wordWritten_fails : s.wordWritten false = s.verifyFail c := by
  simp [State.wordWritten, hc]

variable (hd : d = { c with done := c.done + 1 })
include hd

theorem State.wordWritten_more (hmore : d.done < c.words.length)
    (hu : u = s.nvWrite c.bank (c.at_ + c.done) (eccEncode (c.words.getD c.done 0))) :
    s.wordWritten true = u.setJrn { u.jrn with commit := some d } := by
  subst hu hd
  simp only [State.wordWritten, hc]
  exact if_pos hmore

theorem State.wordWritten_last (hlast : c.words.length ≤ d.done)
    (hu : u = s.nvWrite c.bank (c.at_ + c.done) (eccEncode (c.words.getD c.done 0))) : s.wordWritten true = u.crumbComplete d := by
  subst hu hd
  simp only [State.wordWritten, hc]
  exact if_neg (Nat.not_lt.2 hlast)

end

/-! ### A sector is erased (R424) -/

theorem State.sectorErased_idle (h : s.jrn.compact = none) : s.sectorErased = s := by
  simp only [State.sectorErased, h]

section
variable {k : Compact} (hk : s.jrn.compact = some k)
include hk

theorem State.sectorErased_waits (h : k.step ≠ 1 ∨ s.dip = true) : s.sectorErased = s := by
  simp only [State.sectorErased, hk, if_pos h]

section
variable {n : Nat} (hstep : k.step = 1) (hdip : s.dip = false) (hn : n = 1 - s.jrn.live)
  (hu : u = s.setJrn { s.jrn with
    nv := tabClear (65536 * n + 1024 * k.sectors) (65536 * n + 1024 * (k.sectors + 1)) s.jrn.nv
    compact := some { k with sectors := k.sectors + 1 } })
include hstep hdip hn hu

/-- The first sector counts an erasure of the bank (R418). -/
theorem State.sectorErased_first (hfirst : k.sectors = 0) {e : Nat}
    (he : e = (match s.bankHeader n with | some h => h.2.1 + 1 | none => (s.reg (rJRN_WEAR s.jrn.live)).toNat + 1)) :
    s.sectorErased = if 90000 < e then (u.setReg (rJRN_WEAR n) (BitVec.ofNat 32 e)).setRb rJRN_STAT 6 true
      else u.setReg (rJRN_WEAR n) (BitVec.ofNat 32 e) := by
  have hgo : ¬(k.step ≠ 1 ∨ s.dip = true) := by simp [hstep, hdip]
  have hmore : k.sectors + 1 < 64 := by omega
  subst hn hu he
  simp only [State.sectorErased, hk, if_neg hgo, if_pos hfirst, if_pos hmore] <;> rfl

section
variable (hlater : k.sectors ≠ 0)
include hlater

theorem State.sectorErased_next (hmore : k.sectors + 1 < 64) : s.sectorErased = u := by
  have hgo : ¬(k.step ≠ 1 ∨ s.dip = true) := by simp [hstep, hdip]
  subst hn hu
  simp only [State.sectorErased, hk, if_neg hgo, if_neg hlater, if_pos hmore]

theorem State.sectorErased_last (hlast : 64 ≤ k.sectors + 1) :
    s.sectorErased = (u.setJrn { u.jrn with compact := some { k with step := 2, sectors := 64, todo := s.jrn.crumbs } }).jrnNext := by
  have hgo : ¬(k.step ≠ 1 ∨ s.dip = true) := by simp [hstep, hdip]
  subst hn hu
  simp only [State.sectorErased, hk, if_neg hgo, if_neg hlater, if_neg (Nat.not_lt.2 hlast)]

end

end

end

/-! ### A commit begins (R420) -/

@[simp] theorem State.setJrn_dip (j : Jrn) : (s.setJrn j).dip = s.dip := rfl
@[simp] theorem State.setRb_dip (a b : Nat) (v : Bool) : (s.setRb a b v).dip = s.dip := rfl

theorem State.commitOn_supplied (c : Commit) (hdip : s.dip = false) :
    s.commitOn c = (s.setJrn { s.jrn with commit := some c }).setRb rJRN_STAT 30 true := by
  have hsupplied : ¬((s.setJrn { s.jrn with commit := some c }).setRb rJRN_STAT 30 true).dip = true := by
    rw [State.setRb_dip, State.setJrn_dip, hdip]
    exact Bool.false_ne_true
  rw [State.commitOn, if_neg hsupplied]

theorem State.commitDue_begins {d : Due} {pay : List MemWord} (hpay : pay = (if d.ord.isSome then d.words else s.object d.kind d.key))
    (hfits : s.jrn.append + pay.length + 3 ≤ 65536) (hdip : s.dip = false) :
    s.commitDue d = (s.setJrn { s.jrn with
      due := s.jrn.due.filter (fun x => x != d)
      commit := some { kind := d.kind, key := d.key, words := crumbWords d.kind d.key s.nextSeq pay, bank := s.jrn.live, at_ := s.jrn.append
                       seq := s.nextSeq, ord := d.ord } }).setRb rJRN_STAT 30 true := by
  subst hpay
  have hfits' : s.dueFits d = true := by
    rw [State.dueFits]
    exact decide_eq_true hfits
  rw [State.commitDue, if_pos hfits', State.commitOn_supplied _ ((s.setJrn_dip _).trans hdip)]
  rfl

end Sys2Proof.Machine
end

section
/-! SUPPORT. JRN_FLUSH, JRN_READ, JRN_WRITE and JRN_COMPACT (R314, R421, R424; log entry 47), and the statement about the journal. -/

namespace Sys2Proof.Machine

variable {s u : State} {c : Cmd}

/-! ### JRN_FLUSH -/

section
variable (hp : c.phase = 0) (hcommit : s.jrn.commit = none) (hdue : s.jrn.due = [])
include hp hcommit hdue

theorem State.jrnFlush_empty (h : ∀ o ∈ jrnObjects, s.differs o.1 o.2 = false) : s.jrnFlush c = s.finish c 0 0 := by
  have hobjs : jrnObjects.filter (fun o => s.differs o.1 o.2) = [] := by simpa using h
  simp [State.jrnFlush, hp, hcommit, hdue, hobjs]

/-- The crumbs that differ join those due, and the command waits for all of them. -/
theorem State.jrnFlush_joins {objs : List (Nat × Nat)} (hobjs : objs = jrnObjects.filter (fun o => s.differs o.1 o.2)) (hne : objs ≠ []) :
    s.jrnFlush c = ((s.modCmd c.ord (fun x => { x with phase := 1 })).setJrn { s.jrn with
      due := objs.map (fun o => ({ kind := o.1, key := o.2 } : Due)), flushes := s.jrn.flushes ++ [(c.ord, objs, 0)] }).jrnNext := by
  have hjrn : (s.modCmd c.ord (fun x => { x with phase := 1 })).jrn = s.jrn := rfl
  simp only [State.jrnFlush, ← hobjs, hjrn, hcommit, hdue]
  simp [hp, hne]

end

theorem State.jrnFlush_waiting (h : c.phase = 1) : s.jrnFlush c = s := if_pos (by omega)

/-! ### JRN_READ -/

section
variable (hp : c.phase = 0)
include hp

theorem State.jrnRead_held (hready : s.bufReady c.ord = false) : s.jrnRead c = s := by
  simp [State.jrnRead, hp, hready]

theorem State.jrnRead_writes (hready : s.bufReady c.ord = true) {l : List (MemWord × Read)} {r : Nat} {w : State}
    (hl : l = s.nvWords s.jrn.live (c.opnd 16 19) (c.opnd 20 21))
    (hr : r = pack [(15, 0, c.opnd 20 21), (31, 16, (l.filter (fun p => p.2 == .uncorrectable)).length)])
    (hw : w = ((s.nvCount (c.opnd 16 19) l).modCmd c.ord (fun x => { x with phase := 1, result := r })).bufWrite c.ord (c.opnd 8 15)
      (8 * c.opnd 20 21) (l.foldr (fun p a => a * 2 ^ 64 + (if p.2 = .uncorrectable then 2 ^ 63 else p.1.toNat)) 0)) :
    s.jrnRead c = if w.bufReady c.ord then w.finish c 0 r else w := by
  rw [hw, hr, hl, State.jrnRead, if_pos hp]
  exact if_neg (by simp [hready])

end

theorem State.jrnRead_written (hp : c.phase = 1) : s.jrnRead c =
    if c.failed then s.finish c 0x16 0 else if s.bufReady c.ord then s.finish c 0 c.result else s := if_neg (by omega)

/-! ### JRN_WRITE -/

theorem State.jrnWrite_fetches (hp : c.phase = 0) : s.jrnWrite c =
    (s.modCmd c.ord (fun x => { x with phase := 1 })).fetchStart c.ord (c.opnd 8 15) (8 * c.opnd 18 19) := by
  simp only [State.jrnWrite, hp]

section
variable (hp : c.phase = 1)
include hp

theorem State.jrnWrite_failed (hf : c.failed = true) : s.jrnWrite c = s.finish c 0x16 0 := by
  simp only [State.jrnWrite, hp, if_pos hf]

variable (hf : c.failed = false)
include hf

theorem State.jrnWrite_waits (hready : c.ready = false) : s.jrnWrite c = s := by
  simp [State.jrnWrite, hp, hf, hready]

theorem State.jrnWrite_joins (hready : c.ready = true) (hu : u = s.modCmd c.ord (fun x => { x with phase := 2 })) :
    s.jrnWrite c = (u.setJrn { s.jrn with due := s.jrn.due ++
      [{ kind := c.byte 16, key := 0, words := imageWords (c.opnd 18 19) c.data, ord := some c.ord }] }).jrnNext := by
  subst hu
  simp only [State.jrnWrite, hp, hf, hready]
  rfl

end

theorem State.jrnWrite_committing (h : 2 ≤ c.phase) : s.jrnWrite c = s := by
  obtain ⟨n, hn⟩ : ∃ n, c.phase = n + 2 := ⟨c.phase - 2, by omega⟩
  simp only [State.jrnWrite, hn]

/-! ### JRN_COMPACT -/

section
variable (hp : c.phase = 0)
include hp

theorem State.jrnCompact_refused {k : Compact} (hk : s.jrn.compact = some k) : s.jrnCompact c = s.finish c 0x17 (0x08 * 2 ^ 32) := by
  simp [State.jrnCompact, hp, hk]

theorem State.jrnCompact_starts (hk : s.jrn.compact = none) :
    s.jrnCompact c = (s.modCmd c.ord (fun x => { x with phase := 1 })).compactStart (some c.ord) := by
  simp [State.jrnCompact, hp, hk]

end

theorem State.jrnCompact_running (h : c.phase = 1) : s.jrnCompact c = s := if_pos (by omega)

section
variable (hl : s.live = true)
include hl

theorem exec_crumbDue (k y : Fin 256) : exec (.crumbDue k y) s = .next (s.crumbDue k y).settle := by
  rw [exec, execCrumbDue, execute_live _ hl]

theorem exec_crumbWordWritten (ok : Bool) : exec (.crumbWordWritten ok) s = .next (s.wordWritten ok).settle := by
  rw [exec, execCrumbWordWritten, execute_live _ hl]

theorem exec_sectorEraseDone : exec .sectorEraseDone s = .next s.sectorErased.settle := by
  rw [exec, execSectorEraseDone, execute_live _ hl]

end

/-- Settles O51: an object that falls due, outside a dip and in one; words written and sectors erased; the beginning of a commit; the four
commands as they begin and as they go on. -/
theorem journalCommitsAndCommands : Obligations.JournalCommitsAndCommands := by
  refine ⟨fun s k y hl => ⟨fun hdip t ht g hg => ?_, fun hdip hwait => ?_, fun hdip hframe hcommit hfrom hhead => ?_⟩,
    fun s hl => ⟨fun ok hc => ?_, fun c u d hc hu hd => ?_, fun hk => ?_, fun k n u hk hn hu => ⟨fun h => ?_, fun hstep hdip => ⟨fun hlater hmore => ?_,
        fun hlater hlast => ?_, fun hfirst e he => ⟨fun hwear => ?_, fun hwear => ?_⟩⟩⟩, fun d pay => State.commitDue_begins⟩,
    fun s u e c hu hp => ⟨fun h => ?_, fun hobjs hcommit hdue => State.jrnFlush_empty (c := s.go c) hp hcommit hdue hobjs,
      fun hcommit hdue objs hobjs hne => State.jrnFlush_joins (c := s.go c) hp hcommit hdue hobjs hne,
      fun h => ⟨fun hready => ?_, fun hready l r w hlist hr hw => ⟨fun hdone => ?_, fun hdone => ?_⟩⟩, fun h => ?_,
      fun h => ⟨fun k hk => ?_, fun hk => ?_⟩⟩,
    fun s u e c hu => ⟨fun h hp => ?_, fun h hp => ⟨fun hf => ?_, fun hf hready => ?_, fun hf hready => ?_⟩,
      fun h hp => ⟨fun hf => ?_, fun hf hready => ?_, fun hf hready => ?_⟩, fun h hp => ?_, fun h hp => ?_⟩⟩
  · rw [exec_crumbDue hl, State.crumbDue_outside_dip hdip ht, hg]
    simp only [State.crumbBusy_eq_false_iff, and_assoc]
    exact ⟨fun hdue => by rw [if_pos hdue], fun hdue => by rw [if_neg hdue]⟩
  · rw [exec_crumbDue hl, State.crumbDue_dip_waits hdip hwait]
  · have hfree : ¬(s.time % 64 ≠ 0 ∨ s.jrn.commit.isSome = true ∨ s.time ≤ s.jrn.dipFrom ∨ s.heading = true) := by
      simp [hframe, hcommit, hfrom, hhead]
    refine ⟨fun o ho => ⟨fun heq => ?_, fun hne => ?_⟩, fun ho => ⟨fun d l hdue hkind hkey => ?_, fun d l hdue hne => ?_, fun hdue => ?_⟩⟩
    · rw [exec_crumbDue hl, State.crumbDue_dip_object hdip hfree ho, if_pos heq]
    · rw [exec_crumbDue hl, State.crumbDue_dip_object hdip hfree ho, if_neg hne]
    · rw [exec_crumbDue hl, State.crumbDue_dip_due hdip hfree ho hdue, if_pos ⟨hkind, hkey⟩]
    · rw [exec_crumbDue hl, State.crumbDue_dip_due hdip hfree ho hdue, if_neg hne]
    · rw [exec_crumbDue hl, State.crumbDue_dip_done hdip hfree ho hdue]
  · rw [exec_crumbWordWritten hl, State.wordWritten_idle ok hc]
  · have hcompact : u.jrn.compact = s.jrn.compact := by rw [hu]; rfl
    have hlive : u.jrn.live = s.jrn.live := by rw [hu]; rfl
    have hsame : d.bank = c.bank ∧ d.kind = c.kind := by simp [hd]
    refine ⟨?_, fun hmore => ?_, fun hlast => ⟨fun h => ?_, fun k hk hbank hkind => ?_, fun k hk hbank hkind => ?_⟩⟩
    · rw [exec_crumbWordWritten hl, State.wordWritten_fails hc]
    · rw [exec_crumbWordWritten hl, State.wordWritten_more hc hd hmore hu]
    · rw [exec_crumbWordWritten hl, State.wordWritten_last hc hd hlast hu,
        State.crumbComplete_crumb (by rwa [hcompact, hlive, hsame.1])]
    · rw [exec_crumbWordWritten hl, State.wordWritten_last hc hd hlast hu,
        State.crumbComplete_other (hcompact.trans hk) (by rwa [hlive, hsame.1]), if_pos (hsame.2.trans hkind)]
    · rw [exec_crumbWordWritten hl, State.wordWritten_last hc hd hlast hu,
        State.crumbComplete_other (hcompact.trans hk) (by rwa [hlive, hsame.1]), if_neg (by rwa [hsame.2])]
  · rw [exec_sectorEraseDone hl, State.sectorErased_idle hk]
  · rw [exec_sectorEraseDone hl, State.sectorErased_waits hk h]
  · rw [exec_sectorEraseDone hl, State.sectorErased_next hk hstep hdip hn hu hlater hmore]
  · rw [exec_sectorEraseDone hl, State.sectorErased_last hk hstep hdip hn hu hlater hlast]
  · rw [exec_sectorEraseDone hl, State.sectorErased_first hk hstep hdip hn hu hfirst he, if_neg (Nat.not_lt.2 hwear)]
  · rw [exec_sectorEraseDone hl, State.sectorErased_first hk hstep hdip hn hu hfirst he, if_pos hwear]
  · rw [exec, execJrnFlush, execute_command_begins h, hu]
  · rw [exec, execJrnRead, execute_command_begins h, ← hu, State.jrnRead_held (c := s.go c) hp hready]
  · rw [exec, execJrnRead, execute_command_begins h, ← hu, State.jrnRead_writes (c := s.go c) hp hready hlist hr hw,
      if_pos (show w.bufReady (s.go c).ord = true from hdone)]
  · rw [exec, execJrnRead, execute_command_begins h, ← hu, State.jrnRead_writes (c := s.go c) hp hready hlist hr hw,
      if_neg (show ¬w.bufReady (s.go c).ord = true from ne_true_of_eq_false hdone)]
  · rw [exec, execJrnWrite, execute_command_begins h, ← hu, State.jrnWrite_fetches (c := s.go c) hp]
    rfl
  · rw [exec, execJrnCompact, execute_command_begins h, ← hu, State.jrnCompact_refused (c := s.go c) hp hk]
  · rw [exec, execJrnCompact, execute_command_begins h, ← hu, State.jrnCompact_starts (c := s.go c) hp hk]
    rfl
  · rw [exec, execJrnFlush, execute_command_runsOn h, State.jrnFlush_waiting hp]
  · rw [exec, execJrnRead, execute_command_runsOn h, State.jrnRead_written hp, if_pos hf]
  · rw [exec, execJrnRead, execute_command_runsOn h, State.jrnRead_written hp, if_neg (by simp [hf]), if_pos hready]
  · rw [exec, execJrnRead, execute_command_runsOn h, State.jrnRead_written hp, if_neg (by simp [hf]), if_neg (by simp [hready])]
  · rw [exec, execJrnWrite, execute_command_runsOn h, State.jrnWrite_failed hp hf]
  · rw [exec, execJrnWrite, execute_command_runsOn h, State.jrnWrite_waits hp hf hready]
  · rw [exec, execJrnWrite, execute_command_runsOn h, State.jrnWrite_joins hp hf hready hu]
  · rw [exec, execJrnWrite, execute_command_runsOn h, State.jrnWrite_committing hp]
  · rw [exec, execJrnCompact, execute_command_runsOn h, State.jrnCompact_running hp]

end Sys2Proof.Machine
end

section
/-! SUPPORT. The invariant of SAFE causes: what a command answers is the state it found or one that `State.settle` has seen (R464, R467; log
entry 48), and the statements about it and about the front of the queue. -/

namespace Sys2Proof.Machine

variable {s t : State}

/-! ### Commands leave no cause waiting (R464, R467) -/

section
variable (hs : s.Settled)
include hs

theorem execute_settled (f : State → State) (h : execute f s = .next t) : t.Settled := by
  cases hl : s.live
  · rw [execute_idle s f hl] at h
    cases h
    exact hs
  · rw [execute_live f hl] at h
    cases h
    exact State.settled_settle _

theorem anytime_settled (f : State → State) (h : anytime f s = .next t) : t.Settled := by
  unfold anytime at h
  split at h <;> cases h
  · exact hs
  · exact State.settled_settle _

omit hs in
theorem always_settled (f : State → State) (h : always f s = .next t) : t.Settled := by
  cases h
  exact State.settled_settle _

/-- A vendor test is refused, or it is a command of the running main domain (R317). -/
theorem execVendorTest_settled (e : Fin 64) (h : execVendorTest e s = .next t) : t.Settled := by
  unfold execVendorTest at h
  split at h
  · split at h
    · cases h
    · exact execute_settled hs _ h
  · exact execute_settled hs _ h

theorem exec_settled (c : Instr) (h : exec c s = .next t) : t.Settled := by
  cases c
  case vendorTest e => exact execVendorTest_settled hs e h
  case trstReset =>
    cases h
    exact hs
  case powerOnReset | brownout | brownoutReset | resetRelease | shellTempSample | watchWake | wakeMotionEdge | safeNLow =>
    simp only [exec, execPowerOnReset, execBrownout, execBrownoutReset, execResetRelease, execShellTempSample, execWatchWake,
      execWakeMotionEdge, execSafeNLow] at h
    exact always_settled _ h
  case railUndervoltage | railFailure | pllUnlock | pllRelock | startupStep =>
    simp only [exec, execRailUndervoltage, execRailFailure, execPllUnlock, execPllRelock, execStartupStep] at h
    exact anytime_settled hs _ h
  all_goals
    simp only [exec] at h
    exact execute_settled hs _ h

end

/-! ### A core cycle leaves no cause waiting -/

/-- A core cycle ends no start-up, changes no run state and sees no cause. -/
theorem State.tick_safe (s : State) :
    s.tick.live = s.live ∧ s.tick.inDoze = s.inDoze ∧ s.tick.safePend = s.safePend := by
  by_cases hstop : s.watch = true ∨ s.held = true
  · rw [State.tick_of_stopped hstop]
    exact ⟨rfl, rfl, rfl⟩
  obtain ⟨hw, hh⟩ : s.watch = false ∧ s.held = false := by simpa using hstop
  by_cases h2 : s.boot < 2
  · rw [State.tick_of_unlocked hw hh h2]
    exact ⟨rfl, rfl, rfl⟩
  by_cases h7 : s.boot < 7
  · rw [State.tick_of_startup hw hh (Nat.not_lt.1 h2) h7]
    exact ⟨rfl, rfl, rfl⟩
  · obtain ⟨u, w, ht⟩ := State.tick_of_live (State.live_iff.2 ⟨Nat.not_lt.1 h7, hw, hh⟩)
    rw [ht]
    exact ⟨rfl, rfl, rfl⟩

theorem State.settled_tick (hs : s.Settled) : s.tick.Settled := by
  obtain ⟨hl, hd, hp⟩ := s.tick_safe
  intro h1 h2
  rw [hp]
  exact hs (hl ▸ h1) (hd ▸ h2)

/-- Settles O6: on an empty queue a core cycle passes, which sees no cause; a command leaves none waiting. -/
theorem everyStepLeavesNoSafeCauseWaiting : Obligations.EveryStepLeavesNoSafeCauseWaiting := by
  intro s t hs h
  unfold step at h
  split at h
  case h_1 =>
    cases h
    exact State.settled_tick hs
  case h_2 c rest _ => exact exec_settled (s := { s with pending := rest }) hs c h

/-- Settles O7: no cause has been seen at reset. -/
theorem noSafeCauseWaitsAtReset : Obligations.NoSafeCauseWaitsAtReset := fun _ _ => rfl

/-- Settles O1: the queue's front and rest are those of the second case of `step`. -/
theorem stepRunsFrontCommand : Obligations.StepRunsFrontCommand := by
  intro c rest s h
  rw [step, h]

end Sys2Proof.Machine
end

section
/-! SUPPORT. The words of the Pretzel instructions (R361, Table 13.1): what a word's three fields are, that an operation code and operand
bits are decoded to the instruction they were built from and to no other, and the statement about them. -/

namespace Sys2Proof.Machine

/-! ### The fields of a word -/

theorem PzOp.op_le (i : PzOp) : i.op ≤ 10 := by
  cases i <;> simp only [PzOp.op] <;> omega

theorem PzOp.operand_lt (i : PzOp) : i.operand < 1024 := by
  cases i with
  | waitPin p _ | flagWait p _ =>
    have := p.toNat_lt
    simp only [PzOp.operand]
    omega
  | push w c e =>
    have := w.toNat_lt
    have := c.toNat_lt
    have := e.toNat_lt
    simp only [PzOp.operand]
    omega
  | pull w c =>
    have := w.toNat_lt
    have := c.toNat_lt
    simp only [PzOp.operand]
    omega
  | _ =>
    simp only [PzOp.operand]
    omega

/-- A word is its operation code, its TRAIL and its operand bits. -/
theorem pzEncode_toNat (i : PzOp) (t : Fin 4) : (pzEncode i t).toNat = i.op * 4096 + t.val * 1024 + i.operand := by
  have := i.op_le
  have := i.operand_lt
  rw [pzEncode, BitVec.toNat_ofNat]
  omega

theorem index?_eq_some_iff {n v : Nat} {k : Fin n} : index? n v = some k ↔ v = k.val := by
  unfold index?
  split
  · rw [Option.some.injEq, Fin.ext_iff]
  · simp only [reduceCtorEq, false_iff]
    omega

theorem index?_val_add_div {n m r v : Nat} (k : Fin n) (hr : r < m) (hv : v = k.val * m + r) : index? n (v / m) = some k := by
  rw [index?_eq_some_iff, hv, Nat.mul_comm, Nat.mul_add_div (by omega), Nat.div_eq_of_lt hr, Nat.add_zero]

theorem fin_ofNat_eq {n x : Nat} [NeZero n] {k : Fin n} (h : x % n = k.val) : Fin.ofNat n x = k := Fin.ext h

theorem decide_eq_of_toNat {x : Nat} {b : Bool} (h : x = b.toNat) : decide (x = 1) = b := by
  cases b <;> simp [h]

theorem toNat_decide_mod_two (x : Nat) : (decide (x % 2 = 1)).toNat = x % 2 := by
  rcases Nat.mod_two_eq_zero_or_one x with h | h <;> simp [h]

/-! ### Decoding what was encoded -/

section
variable {x : Nat}

theorem pzJmp_operand {t : Fin 15} {a : Fin 64} (hx : x = t.val * 64 + a.val) : pzJmp x = some (.jmp t a) := by
  rw [pzJmp, index?_val_add_div t a.isLt hx, Option.map_some, fin_ofNat_eq (k := a) (by omega)]

theorem pzWait_operand {p : Bool} {k : Fin 32} (hx : x = p.toNat * 128 + k.val) : pzWait x = some (.waitPin p k) := by
  have := p.toNat_lt
  rw [pzWait, if_neg (by omega), if_pos (by omega), fin_ofNat_eq (k := k) (by omega), decide_eq_of_toNat (b := p) (by omega)]

theorem pzIn_operand {s : Fin 7} {c : Fin 32} (hx : x = s.val * 128 + c.val) : pzIn x = some (.in_ s c) := by
  rw [pzIn, if_neg (by omega), index?_val_add_div s (by omega) hx, Option.map_some, fin_ofNat_eq (k := c) (by omega)]

theorem pzOut_operand {d : Fin 6} {c : Fin 32} (hx : x = d.val * 128 + c.val) : pzOut x = some (.out d c) := by
  rw [pzOut, if_neg (by omega), index?_val_add_div d (by omega) hx, Option.map_some, fin_ofNat_eq (k := c) (by omega)]

theorem pzPush_operand {w c e : Bool} (hx : x = w.toNat * 512 + c.toNat * 256 + e.toNat * 128) : pzPush x = some (.push w c e) := by
  have := w.toNat_lt
  have := c.toNat_lt
  have := e.toNat_lt
  rw [pzPush, if_neg (by omega), decide_eq_of_toNat (b := w) (by omega), decide_eq_of_toNat (b := c) (by omega),
    decide_eq_of_toNat (b := e) (by omega)]

theorem pzPull_operand {w c : Bool} (hx : x = w.toNat * 512 + c.toNat * 256) : pzPull x = some (.pull w c) := by
  have := w.toNat_lt
  have := c.toNat_lt
  rw [pzPull, if_neg (by omega), decide_eq_of_toNat (b := w) (by omega), decide_eq_of_toNat (b := c) (by omega)]

theorem pzMov_operand {d : Fin 6} {s : Fin 8} {f : Fin 4} (hx : x = d.val * 128 + s.val * 16 + f.val * 4) : pzMov x = some (.mov d s f) := by
  rw [pzMov, if_neg (by omega), index?_val_add_div (r := s.val * 16 + f.val * 4) d (by omega) (by omega), Option.map_some,
    fin_ofNat_eq (k := s) (by omega), fin_ofNat_eq (k := f) (by omega)]

theorem pzFlag_operand {f : Fin 3} {k : Fin 32} (hx : x = f.val * 256 + k.val) : pzFlag x = some (.flag f k) := by
  rw [pzFlag, if_neg (by omega), index?_val_add_div f (by omega) hx]
  simp only
  rw [if_neg (by omega), fin_ofNat_eq (k := k) (by omega)]

theorem pzFlag_wait_operand {p : Bool} {k : Fin 32} (hx : x = 768 + p.toNat * 128 + k.val) : pzFlag x = some (.flagWait p k) := by
  have := p.toNat_lt
  have hno : index? 3 (x / 256) = none := dif_neg (by omega)
  rw [pzFlag, if_neg (by omega), hno]
  simp only
  rw [fin_ofNat_eq (k := k) (by omega), decide_eq_of_toNat (b := p) (by omega)]

theorem pzXfer_operand {s d : Fin 4} {c : Fin 32} (hx : x = s.val * 256 + d.val * 64 + c.val) : pzXfer x = some (.xfer s d c) := by
  rw [pzXfer, if_neg (by omega), fin_ofNat_eq (k := s) (by omega), fin_ofNat_eq (k := d) (by omega), fin_ofNat_eq (k := c) (by omega)]

end

theorem pzOperation_operand (i : PzOp) : pzOperation i.op i.operand = some i := by
  cases i with
  | jmp t a => exact pzJmp_operand rfl
  | waitPin p k => exact pzWait_operand rfl
  | waitFrame | waitTick => rfl
  | in_ s c => exact pzIn_operand rfl
  | out d c => exact pzOut_operand rfl
  | push w c e => exact pzPush_operand rfl
  | pull w c => exact pzPull_operand rfl
  | mov d s f => exact pzMov_operand rfl
  | set d x =>
    have hd : Fin.ofNat 4 ((d.val * 256 + x.val) / 256) = d := fin_ofNat_eq (by omega)
    have hx : Fin.ofNat 256 (d.val * 256 + x.val) = x := fin_ofNat_eq (by omega)
    exact congrArg some (congrArg₂ PzOp.set hd hx)
  | flag f k => exact pzFlag_operand rfl
  | flagWait p k => exact pzFlag_wait_operand rfl
  | xfer s d c => exact pzXfer_operand rfl
  | pause n => exact congrArg some (congrArg PzOp.pause (fin_ofNat_eq (Nat.mod_eq_of_lt n.isLt)))

/-! ### Encoding what was decoded -/

section
variable {x : Nat} {i : PzOp} (hx : x < 1024)

theorem operand_of_pzJmp (h : pzJmp x = some i) : i.op = 0 ∧ i.operand = x := by
  obtain ⟨t, ht, rfl⟩ := Option.map_eq_some_iff.1 h
  rw [index?_eq_some_iff] at ht
  refine ⟨rfl, ?_⟩
  simp only [PzOp.operand, Fin.ofNat]
  omega

theorem operand_of_pzWait (h : pzWait x = some i) : i.op = 1 ∧ i.operand = x := by
  unfold pzWait at h
  split at h
  · cases h
  split at h
  · cases h
    refine ⟨rfl, ?_⟩
    simp only [PzOp.operand, Fin.ofNat, toNat_decide_mod_two]
    omega
  split at h
  · cases h
    exact ⟨rfl, by simp only [PzOp.operand]; omega⟩
  split at h <;> cases h
  exact ⟨rfl, by simp only [PzOp.operand]; omega⟩

theorem operand_of_pzIn (h : pzIn x = some i) : i.op = 2 ∧ i.operand = x := by
  unfold pzIn at h
  split at h
  · cases h
  obtain ⟨s, hs, rfl⟩ := Option.map_eq_some_iff.1 h
  rw [index?_eq_some_iff] at hs
  refine ⟨rfl, ?_⟩
  simp only [PzOp.operand, Fin.ofNat]
  omega

theorem operand_of_pzOut (h : pzOut x = some i) : i.op = 3 ∧ i.operand = x := by
  unfold pzOut at h
  split at h
  · cases h
  obtain ⟨d, hd, rfl⟩ := Option.map_eq_some_iff.1 h
  rw [index?_eq_some_iff] at hd
  refine ⟨rfl, ?_⟩
  simp only [PzOp.operand, Fin.ofNat]
  omega

include hx in
theorem operand_of_pzPush (h : pzPush x = some i) : i.op = 4 ∧ i.operand = x := by
  unfold pzPush at h
  split at h <;> cases h
  refine ⟨rfl, ?_⟩
  simp only [PzOp.operand, toNat_decide_mod_two]
  omega

include hx in
theorem operand_of_pzPull (h : pzPull x = some i) : i.op = 5 ∧ i.operand = x := by
  unfold pzPull at h
  split at h <;> cases h
  refine ⟨rfl, ?_⟩
  simp only [PzOp.operand, toNat_decide_mod_two]
  omega

theorem operand_of_pzMov (h : pzMov x = some i) : i.op = 6 ∧ i.operand = x := by
  unfold pzMov at h
  split at h
  · cases h
  obtain ⟨d, hd, rfl⟩ := Option.map_eq_some_iff.1 h
  rw [index?_eq_some_iff] at hd
  refine ⟨rfl, ?_⟩
  simp only [PzOp.operand, Fin.ofNat]
  omega

include hx in
theorem operand_of_pzFlag (h : pzFlag x = some i) : i.op = 8 ∧ i.operand = x := by
  unfold pzFlag at h
  split at h
  · cases h
  split at h
  next f hf =>
    rw [index?_eq_some_iff] at hf
    split at h <;> cases h
    refine ⟨rfl, ?_⟩
    simp only [PzOp.operand, Fin.ofNat]
    omega
  next hnone =>
    have hge : ¬x / 256 < 3 := fun hlt => by simp [index?, hlt] at hnone
    cases h
    refine ⟨rfl, ?_⟩
    simp only [PzOp.operand, Fin.ofNat, toNat_decide_mod_two]
    omega

include hx in
theorem operand_of_pzXfer (h : pzXfer x = some i) : i.op = 9 ∧ i.operand = x := by
  unfold pzXfer at h
  split at h <;> cases h
  refine ⟨rfl, ?_⟩
  simp only [PzOp.operand, Fin.ofNat]
  omega

include hx in
theorem operand_of_pzOperation {op : Nat} (h : pzOperation op x = some i) : i.op = op ∧ i.operand = x := by
  unfold pzOperation at h
  split at h
  · exact operand_of_pzJmp h
  · exact operand_of_pzWait h
  · exact operand_of_pzIn h
  · exact operand_of_pzOut h
  · exact operand_of_pzPush hx h
  · exact operand_of_pzPull hx h
  · exact operand_of_pzMov h
  · cases h
    refine ⟨rfl, ?_⟩
    simp only [PzOp.operand, Fin.ofNat]
    omega
  · exact operand_of_pzFlag hx h
  · exact operand_of_pzXfer hx h
  · cases h
    exact ⟨rfl, Nat.mod_eq_of_lt hx⟩
  · cases h

end

/-- Settles O44: a word's fields are those of its instruction, and each operation code's operand bits decode to one instruction. -/
theorem pretzelWordsDecodeToWhatTheyEncode : Obligations.PretzelWordsDecodeToWhatTheyEncode := by
  refine ⟨fun i t => ?_, fun w i t h => ?_⟩
  · have hlt := i.operand_lt
    have hcode : (i.op * 4096 + t.val * 1024 + i.operand) / 4096 = i.op := by omega
    have hbits : (i.op * 4096 + t.val * 1024 + i.operand) % 1024 = i.operand := by omega
    rw [pzDecode, pzEncode_toNat, hcode, hbits, fin_ofNat_eq (k := t) (by omega), pzOperation_operand, Option.map_some]
  · obtain ⟨j, hj, hjt⟩ := Option.map_eq_some_iff.1 h
    obtain ⟨rfl, ht⟩ := Prod.mk.inj hjt
    obtain ⟨hcode, hbits⟩ := operand_of_pzOperation (Nat.mod_lt _ (by decide)) hj
    apply BitVec.eq_of_toNat_eq
    rw [pzEncode_toNat, hcode, hbits, ← ht]
    simp only [Fin.ofNat]
    omega

end Sys2Proof.Machine
end

section
/-! SUPPORT. The nibble-symbol code (R413, R414): the arithmetic of GF(16), the syndromes of a codeword and of an error, what a read finds, and
the statement about them. -/

namespace Sys2Proof.Machine

/-! ### GF(16) -/

theorem gfMul_comm : ∀ x y : Sym, gfMul x y = gfMul y x := by
  decide

theorem gfDbl_xor : ∀ x y : Sym, gfDbl (x ^^^ y) = gfDbl x ^^^ gfDbl y := by
  decide

theorem gfMul_gfDbl : ∀ x y : Sym, gfMul x (gfDbl y) = gfDbl (gfMul x y) := by
  decide

theorem gfMul_eq_zero : ∀ {x y : Sym}, gfMul x y = 0 → x = 0 ∨ y = 0 := by
  decide

@[simp] theorem gfMul_zero : ∀ x : Sym, gfMul x 0#4 = 0#4 := by
  decide

@[simp] theorem zero_gfMul : ∀ x : Sym, gfMul 0#4 x = 0#4 := by
  decide

theorem gfMul_one : ∀ x : Sym, gfMul x 1 = x := by
  decide

/-- The product as the sum of the multiples that the bits of the second factor select. -/
theorem gfMul_bits (x y : Sym) : gfMul x y = (if y.getLsbD 0 then x else 0) ^^^ (if y.getLsbD 1 then gfDbl x else 0)
    ^^^ (if y.getLsbD 2 then gfDbl (gfDbl x) else 0) ^^^ (if y.getLsbD 3 then gfDbl (gfDbl (gfDbl x)) else 0) := rfl

theorem ite_xor_bool (a b : Bool) (x : Sym) : (if a ^^ b then x else 0) = (if a then x else 0) ^^^ (if b then x else 0) := by
  cases a <;> cases b <;> simp

theorem gfMul_xor (x y z : Sym) : gfMul x (y ^^^ z) = gfMul x y ^^^ gfMul x z := by
  simp only [gfMul_bits, BitVec.getLsbD_xor, ite_xor_bool]
  ac_rfl

theorem xor_gfMul (x y z : Sym) : gfMul (x ^^^ y) z = gfMul x z ^^^ gfMul y z := by
  rw [gfMul_comm, gfMul_xor, gfMul_comm z, gfMul_comm z]

theorem gfMul_assoc (x y z : Sym) : gfMul (gfMul x y) z = gfMul x (gfMul y z) := by
  rw [gfMul_bits (gfMul x y), gfMul_bits y z]
  simp only [gfMul_xor, apply_ite (gfMul x), gfMul_gfDbl, BitVec.ofNat_eq_ofNat, gfMul_zero]

theorem gfMul_left_comm (x y z : Sym) : gfMul x (gfMul y z) = gfMul y (gfMul x z) := by
  rw [← gfMul_assoc, gfMul_comm x y, gfMul_assoc]

theorem gfPow_add (m n : Nat) : gfPow (m + n) = gfMul (gfPow m) (gfPow n) := by
  induction n with
  | zero => rw [Nat.add_zero, gfPow, gfMul_one]
  | succ n ih => rw [← Nat.add_assoc, gfPow, ih, gfPow, gfMul_gfDbl]

theorem gfPow_ne_of_ne : ∀ i j : Fin 13, i ≠ j → gfPow i ^^^ gfPow j ≠ 0 := by
  decide

/-! ### Syndromes (R413) -/

theorem symAt_eq_extractLsb' (c : Codeword) (i : Nat) : symAt c i = c.extractLsb' (4 * i) 4 := by
  apply BitVec.eq_of_toNat_eq
  rw [symAt, BitVec.toNat_ofNat, BitVec.extractLsb'_toNat, Nat.shiftRight_eq_div_pow, Nat.pow_mul]

theorem symAt_xor (c d : Codeword) (i : Nat) : symAt (c ^^^ d) i = symAt c i ^^^ symAt d i := by
  simp only [symAt_eq_extractLsb', BitVec.extractLsb'_xor]

theorem synd_xor (c d : Codeword) (k n : Nat) : synd (c ^^^ d) k n = synd c k n ^^^ synd d k n := by
  induction n with
  | zero => simp [synd]
  | succ n ih =>
    rw [synd, ih, symAt_xor, xor_gfMul, synd, synd]
    ac_rfl

/-- The codeword that is `e` in symbol `i` and zero elsewhere. -/
def symErr (i : Nat) (e : Sym) : Codeword := e.setWidth 52 <<< (4 * i)

theorem symAt_symErr {i : Nat} (hi : i < 13) (e : Sym) (n : Nat) : symAt (symErr i e) n = if n = i then e else 0 := by
  rw [symAt_eq_extractLsb', symErr]
  apply BitVec.eq_of_getLsbD_eq
  intro b hb
  rw [BitVec.getLsbD_extractLsb', BitVec.getLsbD_shiftLeft, BitVec.getLsbD_setWidth]
  split
  case isTrue h =>
    have hin : 4 * n + b < 52 := by omega
    have hat : 4 * n + b - 4 * i = b := by omega
    have hge : ¬4 * n + b < 4 * i := by omega
    simp [hb, hin, hat, hge, Nat.lt_trans hb (by decide : 4 < 52)]
  case isFalse h =>
    rcases Nat.lt_or_gt_of_ne h with h | h
    · have hlt : 4 * n + b < 4 * i := by omega
      simp [hlt]
    · have hge : 4 ≤ 4 * n + b - 4 * i := by omega
      simp [BitVec.getLsbD_of_ge e _ hge]

theorem synd_symErr {i : Nat} (hi : i < 13) (e : Sym) (k n : Nat) :
    synd (symErr i e) k n = if i < n then gfMul e (gfPow (k * i)) else 0 := by
  induction n with
  | zero => rfl
  | succ n ih =>
    rw [synd, ih, symAt_symErr hi]
    rcases Nat.lt_trichotomy i n with h | rfl | h
    · simp [h, Nat.lt_succ_of_lt h, Nat.ne_of_gt h]
    · simp
    · simp [Nat.lt_asymm h, Nat.ne_of_lt h, Nat.not_lt.2 (Nat.succ_le_of_lt h)]

theorem syndrome_symErr {i : Nat} (hi : i < 13) (e : Sym) (k : Nat) : syndrome (symErr i e) k = gfMul e (gfPow (k * i)) := by
  rw [syndrome, synd_symErr hi, if_pos hi]

/-! ### Codewords (R413) -/

/-- The check symbols' part of each syndrome: column `k` of row `i` says how much of S_k symbol 10 + i takes. -/
def checkCoef (i k : Fin 3) : Sym := ![![12, 13, 13], ![5, 3, 2], ![8, 14, 15]] i k

/-- Check symbol 10 + i of a memory word. -/
def checkSym (w : MemWord) (i : Fin 3) : Sym :=
  gfMul (checkCoef i 0) (synd (w.setWidth 52) 0 10) ^^^ gfMul (checkCoef i 1) (synd (w.setWidth 52) 1 10)
    ^^^ gfMul (checkCoef i 2) (synd (w.setWidth 52) 2 10)

theorem eccEncode_eq_append (w : MemWord) : eccEncode w = (checkSym w 2 ++ checkSym w 1 ++ checkSym w 0 ++ w : BitVec 52) := rfl

theorem setWidth_append_eq_xor {m n : Nat} (x : BitVec m) (y : BitVec n) (v : Nat) :
    (x ++ y).setWidth v = x.setWidth v <<< n ^^^ y.setWidth v := by
  apply BitVec.eq_of_getLsbD_eq
  intro b hb
  rw [BitVec.getLsbD_setWidth, BitVec.getLsbD_append, BitVec.getLsbD_xor, BitVec.getLsbD_shiftLeft, BitVec.getLsbD_setWidth,
    BitVec.getLsbD_setWidth]
  rcases Nat.lt_or_ge b n with h | h
  · simp [hb, h]
  · simp [hb, Nat.not_lt.2 h, Nat.lt_of_le_of_lt (Nat.sub_le b n) hb, BitVec.getLsbD_of_ge y b h]

theorem eccEncode_eq_xor (w : MemWord) :
    eccEncode w = w.setWidth 52 ^^^ symErr 10 (checkSym w 0) ^^^ symErr 11 (checkSym w 1) ^^^ symErr 12 (checkSym w 2) := by
  rw [eccEncode_eq_append, ← BitVec.setWidth_eq (checkSym w 2 ++ checkSym w 1 ++ checkSym w 0 ++ w), setWidth_append_eq_xor,
    setWidth_append_eq_xor, setWidth_append_eq_xor, BitVec.shiftLeft_xor_distrib, BitVec.shiftLeft_xor_distrib, BitVec.shiftLeft_xor_distrib,
    ← BitVec.shiftLeft_add, ← BitVec.shiftLeft_add, ← BitVec.shiftLeft_add, symErr, symErr, symErr]
  generalize (checkSym w 2).setWidth _ = x2
  generalize (checkSym w 1).setWidth _ = x1
  generalize (checkSym w 0).setWidth _ = x0
  rw [BitVec.xor_comm _ (w.setWidth _), BitVec.xor_comm _ (x0 <<< _), BitVec.xor_comm (x2 <<< _), BitVec.xor_assoc, BitVec.xor_assoc]

theorem symAt_data (w : MemWord) {n : Nat} (hn : 10 ≤ n) : symAt (w.setWidth 52) n = 0 := by
  rw [symAt_eq_extractLsb']
  apply BitVec.eq_of_getLsbD_eq
  intro b hb
  rw [BitVec.getLsbD_extractLsb', BitVec.getLsbD_setWidth, BitVec.getLsbD_of_ge w _ (by omega)]
  simp

theorem syndrome_data (w : MemWord) (k : Nat) : syndrome (w.setWidth 52) k = synd (w.setWidth 52) k 10 := by
  simp [syndrome, synd, symAt_data]

/-- The check symbols add up to each syndrome of the data, and to nothing of the other two. -/
theorem checkCoef_solve : ∀ (j k : Fin 3) (x : Sym),
    gfMul (gfMul (checkCoef 0 j) x) (gfPow (k * 10)) ^^^ gfMul (gfMul (checkCoef 1 j) x) (gfPow (k * 11))
      ^^^ gfMul (gfMul (checkCoef 2 j) x) (gfPow (k * 12)) = if j = k then x else 0 := by
  decide

/-- What the check symbols add to S_k is S_k of the data. -/
theorem syndrome_checkSyms (w : MemWord) (k : Fin 3) :
    gfMul (checkSym w 0) (gfPow (k * 10)) ^^^ gfMul (checkSym w 1) (gfPow (k * 11)) ^^^ gfMul (checkSym w 2) (gfPow (k * 12))
      = synd (w.setWidth 52) k 10 := by
  have hsum : gfMul (checkSym w 0) (gfPow (k * 10)) ^^^ gfMul (checkSym w 1) (gfPow (k * 11)) ^^^ gfMul (checkSym w 2) (gfPow (k * 12))
      = (if 0 = k then synd (w.setWidth 52) 0 10 else 0) ^^^ (if 1 = k then synd (w.setWidth 52) 1 10 else 0)
        ^^^ (if 2 = k then synd (w.setWidth 52) 2 10 else 0) := by
    rw [← checkCoef_solve 0 k, ← checkCoef_solve 1 k, ← checkCoef_solve 2 k]
    simp only [checkSym, xor_gfMul]
    ac_rfl
  rw [hsum]
  fin_cases k <;> simp

theorem syndrome_xor (c d : Codeword) (k : Nat) : syndrome (c ^^^ d) k = syndrome c k ^^^ syndrome d k := synd_xor c d k 13

theorem syndrome_eccEncode (w : MemWord) {k : Nat} (hk : k < 3) : syndrome (eccEncode w) k = 0 := by
  rw [eccEncode_eq_xor, syndrome_xor, syndrome_xor, syndrome_xor, syndrome_symErr (by decide), syndrome_symErr (by decide),
    syndrome_symErr (by decide), syndrome_data, BitVec.xor_assoc, BitVec.xor_assoc, ← BitVec.xor_assoc (gfMul _ _), syndrome_checkSyms w ⟨k, hk⟩,
    BitVec.xor_self]
  rfl

/-! ### Reads (R414) -/

/-- The syndromes of a codeword with an error are those of the error. -/
theorem syndrome_eccEncode_xor (w : MemWord) (x : Codeword) {k : Nat} (hk : k < 3) : syndrome (eccEncode w ^^^ x) k = syndrome x k := by
  rw [syndrome_xor, syndrome_eccEncode w hk]
  exact BitVec.zero_xor

theorem eccRead_plain {c : Codeword} (h : ∀ k < 3, syndrome c k = 0) : eccRead c = (c, .plain) := by
  simp [eccRead, h]

theorem eccRead_corrected {c : Codeword} {e : Sym} {i : Nat} (h0 : syndrome c 0 = e) (he : e ≠ 0)
    (hdet : gfMul (syndrome c 1) (syndrome c 1) = gfMul e (syndrome c 2)) (hat : errSym e (syndrome c 1) = some i) :
    eccRead c = (c ^^^ symErr i e, .corrected) := by
  subst h0
  have hone : ¬(syndrome c 0 = 0 ∧ syndrome c 1 = 0 ∧ syndrome c 2 = 0) := fun h => he h.1
  simp only [eccRead, if_neg hone, if_pos (And.intro he hdet), hat]
  rfl

theorem eccRead_uncorrectable {c : Codeword} (hnz : ¬(syndrome c 0 = 0 ∧ syndrome c 1 = 0))
    (hdet : gfMul (syndrome c 1) (syndrome c 1) ≠ gfMul (syndrome c 0) (syndrome c 2)) : eccRead c = (c, .uncorrectable) := by
  have hno : ¬(syndrome c 0 = 0 ∧ syndrome c 1 = 0 ∧ syndrome c 2 = 0) := fun h => hnz ⟨h.1, h.2.1⟩
  simp only [eccRead, if_neg hno, if_neg (fun h : syndrome c 0 ≠ 0 ∧ _ => hdet h.2)]

theorem eccRead_eccEncode (w : MemWord) : eccRead (eccEncode w) = (eccEncode w, .plain) :=
  eccRead_plain (fun _ hk => syndrome_eccEncode w hk)

theorem eccData_eccEncode (w : MemWord) : eccData (eccEncode w) = w := by
  rw [eccData, eccRead_eccEncode, eccEncode_eq_append]
  exact BitVec.setWidth_append_eq_right

/-! ### One symbol in error -/

theorem errSym_of_error : ∀ (i : Fin 13) (e : Sym), e ≠ 0 → errSym e (gfMul e (gfPow i)) = some i.val := by
  decide

/-- A single error satisfies S1·S1 = S0·S2. -/
theorem gfMul_self_of_error (e : Sym) (i : Nat) :
    gfMul (gfMul e (gfPow i)) (gfMul e (gfPow i)) = gfMul e (gfMul e (gfPow (2 * i))) := by
  rw [Nat.two_mul, gfPow_add, gfMul_assoc, gfMul_left_comm (gfPow i)]

theorem eccRead_one_error (w : MemWord) (i : Fin 13) {e : Sym} (he : e ≠ 0) :
    eccRead (eccEncode w ^^^ symErr i e) = (eccEncode w, .corrected) := by
  have hsyn : ∀ k < 3, syndrome (eccEncode w ^^^ symErr i e) k = gfMul e (gfPow (k * i)) := fun k hk => by
    rw [syndrome_eccEncode_xor w _ hk, syndrome_symErr i.isLt]
  have h0 : syndrome (eccEncode w ^^^ symErr i e) 0 = e := by
    rw [hsyn 0 (by decide), Nat.zero_mul, gfPow, gfMul_one]
  have h1 := hsyn 1 (by decide)
  rw [Nat.one_mul] at h1
  rw [eccRead_corrected h0 he (i := i) (by rw [h1, hsyn 2 (by decide), gfMul_self_of_error]) (by rw [h1, errSym_of_error i e he]),
    BitVec.xor_assoc, BitVec.xor_self, BitVec.xor_zero]

/-! ### Two symbols in error -/

theorem sym_xor_cancel (x y : Sym) : x ^^^ (x ^^^ y) = y := by
  rw [← BitVec.xor_assoc, BitVec.xor_self, BitVec.zero_xor]

theorem sym_xor_left_comm (x y z : Sym) : x ^^^ (y ^^^ z) = y ^^^ (x ^^^ z) := by
  rw [← BitVec.xor_assoc, BitVec.xor_comm x, BitVec.xor_assoc]

/-- With errors e and f at places a and b, S1·S1 and S0·S2 differ by e·f·(a + b)². -/
theorem det_of_two_errors (e f a b : Sym) :
    gfMul (gfMul e a ^^^ gfMul f b) (gfMul e a ^^^ gfMul f b) ^^^ gfMul (e ^^^ f) (gfMul e (gfMul a a) ^^^ gfMul f (gfMul b b))
      = gfMul (gfMul e f) (gfMul (a ^^^ b) (a ^^^ b)) := by
  simp only [gfMul_xor, gfMul_left_comm, gfMul_comm, BitVec.xor_assoc, sym_xor_left_comm, sym_xor_cancel, BitVec.xor_self, BitVec.xor_zero]

theorem eccRead_two_errors (w : MemWord) {i j : Fin 13} (hij : i ≠ j) {e f : Sym} (he : e ≠ 0) (hf : f ≠ 0) :
    (eccRead (eccEncode w ^^^ symErr i e ^^^ symErr j f)).2 = .uncorrectable := by
  have hsyn : ∀ k < 3, syndrome (eccEncode w ^^^ symErr i e ^^^ symErr j f) k = gfMul e (gfPow (k * i)) ^^^ gfMul f (gfPow (k * j)) :=
    fun k hk => by rw [BitVec.xor_assoc, syndrome_eccEncode_xor w _ hk, syndrome_xor, syndrome_symErr i.isLt, syndrome_symErr j.isLt]
  have h0 := hsyn 0 (by decide)
  have h1 := hsyn 1 (by decide)
  have h2 := hsyn 2 (by decide)
  rw [Nat.zero_mul, Nat.zero_mul, gfPow, gfMul_one, gfMul_one] at h0
  rw [Nat.one_mul, Nat.one_mul] at h1
  rw [Nat.two_mul, Nat.two_mul, gfPow_add, gfPow_add] at h2
  have hplace := gfPow_ne_of_ne i j hij
  rw [eccRead_uncorrectable]
  · rw [h0, h1]
    rintro ⟨hsum, hfirst⟩
    have hef : e = f := BitVec.xor_eq_zero_iff.1 hsum
    rw [← hef, ← gfMul_xor] at hfirst
    exact (gfMul_eq_zero hfirst).elim he hplace
  · intro hdet
    have hzero := det_of_two_errors e f (gfPow i) (gfPow j)
    rw [← h0, ← h1, ← h2, hdet, BitVec.xor_self] at hzero
    rcases gfMul_eq_zero hzero.symm with h | h
    · exact (gfMul_eq_zero h).elim he hf
    · exact (gfMul_eq_zero h).elim hplace hplace

/-- Settles O49: the check symbols solve the syndrome equations, and the syndromes of an error tell one symbol from two. -/
theorem nibbleCodeCorrectsOneSymbol : Obligations.NibbleCodeCorrectsOneSymbol := fun w =>
  ⟨fun _ hk => syndrome_eccEncode w hk, eccRead_eccEncode w, eccData_eccEncode w, fun i _ he => eccRead_one_error w i he,
    fun _ _ _ _ hij he hf => eccRead_two_errors w hij he hf⟩

end Sys2Proof.Machine
end

section
/-! SUPPORT. The interrupt controller's choice, COMPLETE and the Kringle sources (R353, R395, R397, R404), the divider of a Pretzel engine
(R357), and the statements about them. -/

namespace Sys2Proof.Machine

variable {s : State}

/-! ### The best source (R395, R397) -/

/-- The better of the best source so far and a source of a higher number. -/
def State.better (s : State) (b : Option Nat) (i : Nat) : Option Nat :=
  match b with
  | none => some i
  | some j => if s.srcPrio j < s.srcPrio i then some i else some j

theorem State.best_eq_foldl (s : State) (g : Nat) : s.best g = ((s.routed g).filter (fun i => s.eligible g i)).foldl s.better none := rfl

theorem State.better_some (i j : Nat) : s.better (some j) i = some (if s.srcPrio j < s.srcPrio i then i else j) :=
  (apply_ite some _ _ _).symm

/-- `x` is of the list, and no other of the list has a higher PRIO, nor the same PRIO and a lower number. -/
def State.bestOf (s : State) (l : List Nat) (x : Nat) : Prop :=
  x ∈ l ∧ ∀ y ∈ l, s.srcPrio y ≤ s.srcPrio x ∧ (s.srcPrio y = s.srcPrio x → x ≤ y)

theorem State.foldl_better {l : List Nat} : ∀ {j x : Nat}, (j :: l).Pairwise (· < ·) → l.foldl s.better (some j) = some x → s.bestOf (j :: l) x := by
  induction l with
  | nil =>
    rintro j x - ⟨⟩
    simp [State.bestOf]
  | cons i l ih =>
    intro j x hrise h
    obtain ⟨hj, hi, hl⟩ : (∀ y ∈ i :: l, j < y) ∧ (∀ y ∈ l, i < y) ∧ l.Pairwise (· < ·) := by
      rwa [List.pairwise_cons, List.pairwise_cons] at hrise
    have hji : j < i := hj i (by simp)
    rw [List.foldl_cons, State.better_some] at h
    split at h
    case isTrue hp =>
      obtain ⟨hmem, hbest⟩ := ih (List.pairwise_cons.2 ⟨hi, hl⟩) h
      refine ⟨List.mem_cons_of_mem j hmem, fun y hy => ?_⟩
      rcases List.mem_cons.1 hy with rfl | hy
      · have := (hbest i (by simp)).1
        omega
      · exact hbest y hy
    case isFalse hp =>
      obtain ⟨hmem, hbest⟩ := ih (List.pairwise_cons.2 ⟨fun y hy => hj y (List.mem_cons_of_mem i hy), hl⟩) h
      refine ⟨?_, fun y hy => ?_⟩
      · rcases List.mem_cons.1 hmem with rfl | hmem <;> simp [*]
      · obtain ⟨hle, heq⟩ := hbest j (by simp)
        rcases List.mem_cons.1 hy with rfl | hy
        · exact ⟨hle, heq⟩
        rcases List.mem_cons.1 hy with rfl | hy
        · exact ⟨by omega, fun h => by have := heq (by omega); omega⟩
        · exact hbest y (List.mem_cons_of_mem j hy)

theorem State.routed_pairwise (s : State) (g : Nat) : (s.routed g).Pairwise (· < ·) :=
  List.Pairwise.filter _ List.pairwise_lt_range

/-- What is eligible has a PRIO and the target, so it is among the routed sources. -/
theorem State.mem_routed_of_eligible {g y : Nat} (hy : y < 264) (h : s.eligible g y = true) : y ∈ s.routed g := by
  have hprio : s.runPrio g < s.srcPrio y ∧ s.srcTgt y = g := by
    simp only [State.eligible, Bool.and_eq_true, decide_eq_true_eq] at h
    exact ⟨h.1.1.2, h.1.1.1⟩
  refine List.mem_filter.2 ⟨List.mem_range.2 hy, ?_⟩
  simp [hprio.2, Nat.ne_of_gt (Nat.lt_of_le_of_lt (Nat.zero_le _) hprio.1)]

/-- Settles O48: the choice runs through the eligible sources in rising order. -/
theorem bestSourceIsHighestThenLowest : Obligations.BestSourceIsHighestThenLowest := by
  intro s g x h
  rw [State.best_eq_foldl] at h
  have hrise : ((s.routed g).filter (fun i => s.eligible g i)).Pairwise (· < ·) := (s.routed_pairwise g).filter _
  have hbest : s.bestOf ((s.routed g).filter (fun i => s.eligible g i)) x := by
    cases hl : (s.routed g).filter (fun i => s.eligible g i) with
    | nil => simp [hl] at h
    | cons j l =>
      rw [hl] at h hrise
      exact State.foldl_better hrise h
  obtain ⟨hmem, hall⟩ := hbest
  exact ⟨(List.mem_filter.1 hmem).2, fun y hy hel => hall y (List.mem_filter.2 ⟨State.mem_routed_of_eligible hy hel, hel⟩)⟩

/-! ### COMPLETE (R404) -/

/-- Settles O59: by whether the source is in service for the target. -/
theorem completeEndsServiceOrIsCounted : Obligations.CompleteEndsServiceOrIsCounted := by
  intro s g src hsrc _
  refine ⟨fun hlt hsvc => ?_, fun hno => ?_⟩
  · simp [State.complete, hsrc, hlt, hsvc]
  · have hout : (decide (src < 320) && s.svcTgt src == g) = false := by
      rcases hno with hbeyond | hother
      · simp [Nat.not_lt.2 hbeyond]
      · simp [hother]
    simp [State.complete, hsrc, hout]

/-! ### The Kringle sources (R353) -/

theorem State.srcActive_kringle {k : Nat} (hk : k < 8) : s.srcActive (248 + k) = (s.rb rKR_STAT k && s.rb rKR_TMO (24 + k)) := by
  rw [State.srcActive, if_neg (by omega), if_neg (by omega), if_neg (by omega), if_neg (by omega), if_neg (by omega), if_neg (by omega),
    if_neg (by omega), if_pos (by omega), Nat.add_sub_cancel_left]

theorem State.regRead_KR_STAT : s.regRead rKR_STAT = s.krStatRead := rfl

theorem State.regRead_KR_TMO : s.regRead rKR_TMO = s.reg rKR_TMO := rfl

/-- The read of KR_STAT computes bits 31:29 alone (Table 12.9). -/
theorem State.bit_krStatRead {k : Nat} (hk : k < 29) : bit s.krStatRead k = s.rb rKR_STAT k :=
  bit_setFld_of_disjoint _ _ _ _ _ (by decide) (by omega) (.inl hk)

/-- Settles O57: the sources' status bits lie below the field that a read of KR_STAT computes. -/
theorem kringleSourceNeedsStatusAndEnable : Obligations.KringleSourceNeedsStatusAndEnable := by
  intro s k hk
  rw [State.srcActive_kringle hk, State.regRead_KR_STAT, State.regRead_KR_TMO, State.bit_krStatRead (by omega), State.rb]
  rfl

/-! ### The divider (R357) -/

/-- Settles O58: the model writes the product the other way round. -/
theorem engineDividerIsIntPlusFraction : Obligations.EngineDividerIsIntPlusFraction := by
  intro s p
  rw [State.pzDiv, Nat.mul_comm 256]

end Sys2Proof.Machine
end

section
/-! SUPPORT. What becomes of a ring frame before it is taken (R326 to R328, R330, R348; log entries 31 and 32), and the statement about it. -/

namespace Sys2Proof.Machine

variable {s u : State} {f : Frame} {typ : Nat}

/-! ### Dropped, removed, passed on (R327, R328, R348) -/

section
variable (act : State → State)

theorem State.takeFrame_off (typ : Nat) (f : Frame) (h : s.portsOn = false) : s.takeFrame typ f act = s := by
  simp [State.takeFrame, h]

section
variable (hon : s.portsOn = true)
include hon

theorem State.takeFrame_bad (hbad : f.bad typ = true) : s.takeFrame typ f act = s.badPass f := by
  simp [State.takeFrame, hon, hbad]

section
variable (hgood : f.bad typ = false)
include hgood

theorem State.takeFrame_lost (hlost : s.portLost f.kb = true) : s.takeFrame typ f act = s := by
  simp [State.takeFrame, hon, hgood, hlost]

section
variable (hport : s.portLost f.kb = false) (hu : u = s.epochSeen f)
include hport hu

theorem State.takeFrame_own (hown : u.ownFrame f = true) : s.takeFrame typ f act = u := by
  subst hu
  simp [State.takeFrame, hon, hgood, hport, hown]

theorem State.takeFrame_passes (hown : u.ownFrame f = false) (hme : u.forMe f = false) (hdst : f.dst.val ≠ 4095) :
    s.takeFrame typ f act = u.passFrame typ f := by
  subst hu
  simp [State.takeFrame, hon, hgood, hport, hown, hme, hdst]

end

end

end

end

/-- Each of these commands takes a frame of its TYPE. -/
theorem exec_frame (f : Frame) : ∀ p ∈ [(0x10, Instr.cmd f), (0x11, .cpl f), (0x12, .ecpl f), (0x13, .ack f), (0x14, .nack f), (0x15, .abortFwd f),
    (0x18, .dmaRd f), (0x19, .dmaData f), (0x1A, .dmaWr f), (0x20, .record f), (0x21, .irqNote f), (0x30, .breakFrame f), (0x31, .rejoin f),
    (5, .timeSync f), (6, .angleState f), (7, .hb f)],
    ∃ act : State → State, ∀ s, exec p.2 s = execute (fun s => s.takeFrame p.1 f act) s := by
  intro p hp
  fin_cases hp <;> exact ⟨_, fun _ => rfl⟩

/-! ### A faulty frame (R328) -/

theorem State.badFrame_eq {kb : Bool} (hlost : s.portLost kb = true → u = { s with ring := { s.ring with cleanAt := some s.time } })
    (hstands : s.portLost kb = false → u = s) : s.badFrame kb =
      ((u.bump rKR_CNT_A 15 0).setRb rKR_STAT 6 true).bump rKR_PORT (if kb then 15 else 23) (if kb then 8 else 16) := by
  cases h : s.portLost kb
  · rw [hstands h, State.badFrame, if_neg (by simp [h])]
  · rw [hlost h, State.badFrame, if_pos h]

theorem State.badPass_discards (h : s.portLost f.kb = true ∨ s.ownFrame f = true ∨ s.forMe f = true) : s.badPass f = s.badFrame f.kb :=
  if_pos (by rcases h with h | h | h <;> simp [h])

theorem State.badPass_ends (hport : s.portLost f.kb = false) (hown : s.ownFrame f = false) (hme : s.forMe f = false) :
    s.badPass f = (s.badFrame f.kb).emit (.abort (s.outRing f.kb).toNat) :=
  if_neg (by simp [hport, hown, hme])

/-! ### Passing on (R327) -/

theorem State.passFrame_whole (h : f.cut = false ∨ express typ = false) : s.passFrame typ f = s.passOn typ f := by
  have hno : (f.cut && express typ) = false := by rcases h with h | h <;> simp [h]
  simp [State.passFrame, hno]

theorem State.passFrame_cuts (hcut : f.cut = true) (hexp : express typ = true) {o : Out} (ho : s.lastOwn (s.outRing f.kb).toNat = some o) :
    s.passFrame typ f = (((s.bump rKR_CNT_B 15 8).emit (.abort (s.outRing f.kb).toNat)).passOn typ f).emit o := by
  simp [State.passFrame, hcut, hexp, ho]

/-! ### The epochs a slave sees (R330) -/

theorem State.epochSeen_unconcerned (h : s.master = true ∨ s.enumd = false ∨ f.src.val ≠ 0) : s.epochSeen f = s :=
  if_pos (by rcases h with h | h | h <;> simp [h])

section
variable (hm : s.master = false) (hen : s.enumd = true) (hsrc : f.src.val = 0)
include hm hen hsrc

theorem State.epochSeen_own (hep : f.epoch = s.epoch) : s.epochSeen f = { s with ring := { s.ring with newEpoch := none } } := by
  rw [Frame.epoch] at hep
  simp [State.epochSeen, hm, hen, hsrc, hep]

section
variable (hep : f.epoch ≠ s.epoch)
include hep

theorem State.epochSeen_first (hnew : s.ring.newEpoch = none) : s.epochSeen f = { s with ring := { s.ring with newEpoch := some s.time } } := by
  rw [Frame.epoch] at hep
  simp [State.epochSeen, hm, hen, hsrc, hep, hnew]

theorem State.epochSeen_later {t : Nat} (hnew : s.ring.newEpoch = some t) :
    s.epochSeen f = if t + 64 * s.ringTo ≤ s.time then { s with enumd := false, ring := { s.ring with newEpoch := none } } else s := by
  rw [Frame.epoch] at hep
  simp [State.epochSeen, hm, hen, hsrc, hep, hnew]

end

end

/-- Settles O37: what each command does with its frame by the order of `State.takeFrame`; then faulty frames, passing on and the epoch seen. -/
theorem framesAreDroppedRemovedOrPassed : Obligations.FramesAreDroppedRemovedOrPassed := by
  refine ⟨fun s u f hl hu p hp => ?_,
    fun s u f typ hlost hstands => ⟨State.badFrame_eq hlost hstands, State.badPass_discards, State.badPass_ends, State.passFrame_whole,
      fun hcut hexp o ho => State.passFrame_cuts hcut hexp ho⟩,
    fun s f => ⟨State.epochSeen_unconcerned, State.epochSeen_own, fun hm hen hsrc hep =>
      ⟨State.epochSeen_first hm hen hsrc hep, fun t hnew ht => ?_, fun t hnew ht => ?_⟩⟩⟩
  · obtain ⟨act, hact⟩ := exec_frame f p hp
    rw [hact, execute_live _ hl]
    refine ⟨fun hoff => ?_, fun hon => ⟨fun hbad => ?_, fun hgood hlost => ?_, fun hgood hport => ⟨fun hown => ?_, fun hown hme hdst => ?_⟩⟩⟩
    · rw [State.takeFrame_off act _ _ hoff]
    · rw [State.takeFrame_bad act hon hbad]
    · rw [State.takeFrame_lost act hon hgood hlost]
    · rw [State.takeFrame_own act hon hgood hport hu hown]
    · rw [State.takeFrame_passes act hon hgood hport hu hown hme hdst]
  · rw [State.epochSeen_later hm hen hsrc hep hnew, if_neg (Nat.not_le.2 ht)]
  · rw [State.epochSeen_later hm hen hsrc hep hnew, if_pos ht]

end Sys2Proof.Machine
end

section
/-! SUPPORT. What the master does with the frames of the ring that are for it (R332 to R336, R348, R408; log entries 27 and 33), and the
statement about them. -/

namespace Sys2Proof.Machine

variable {s u : State} {f : Frame}

section
variable (hm : u.master = true)
include hm

/-! ### CPL (R332, R336) -/

theorem State.cplFrame_stale (hold : u.oldEpoch f = true) : u.cplFrame f = u.stale := by
  simp [State.cplFrame, hm, hold]

section
variable (hnew : u.oldEpoch f = false)
include hnew

theorem State.cplFrame_abort (hop : f.get 23 16 = 3) : u.cplFrame f = u.takeAbortCpl f := by
  simp [State.cplFrame, hm, hnew, hop]

section
variable (hop : f.get 23 16 ≠ 3)
include hop

theorem State.cplFrame_found {c : Cmd} (hc : u.cmds.find? (fun c => c.ent = f.tag && u.forwarded c) = some c) :
    u.cplFrame f = u.takeCpl c f := by
  simp [State.cplFrame, hm, hnew, hop, hc]

theorem State.cplFrame_unawaited (hc : u.cmds.find? (fun c => c.ent = f.tag && u.forwarded c) = none) : u.cplFrame f = u.stale := by
  simp only [State.cplFrame, hm, hnew, hop, hc, Bool.not_true, Bool.false_eq_true, if_false]

end

end

/-! ### Event completions, records and notices (R334, R408) -/

theorem State.ecpl_stale (hold : u.oldEntry f = true) : u.ecpl f = u.stale := by
  simp [State.ecpl, hm, hold]

theorem State.recordFrame_stale (hold : u.oldEntry f = true) : u.recordFrame f = u.stale := by
  simp [State.recordFrame, hm, hold]

section
variable (hnew : u.oldEntry f = false)
include hnew

theorem State.ecpl_accepted {q : Nat} (hq : q = f.get 84 80) (hen : u.qpEn q = true) (hroom : u.cqRoom q = true) (hheld : u.heldEntries < 16) :
    u.ecpl f = (u.postAs { qp := q, opcode := f.get 23 16, status := f.get 31 24, source := f.src, tag := f.get 63 48, seq := f.get 79 64
                           time := f.get 159 96, result := f.get 255 160
                           irq := u.ring.irqArms.contains (f.src.val, q, f.get 79 64) }).answer true 0x12 f := by
  subst hq
  simp [State.ecpl, hm, hnew, hen, hroom, hheld]

theorem State.ecpl_refused {q : Nat} (hq : q = f.get 84 80) (h : u.qpEn q = false ∨ u.cqRoom q = false ∨ 16 ≤ u.heldEntries) :
    u.ecpl f = u.answer false 0x12 f := by
  subst hq
  rcases h with h | h | h <;> simp [State.ecpl, hm, hnew, h]

theorem State.recordFrame_accepted {n : Nat} (hn : n = (f.len.toNat - 4) / 32) (hroom : u.rsNoRoom (f.get 2 0) n = false)
    (hheld : u.heldEntries + n ≤ 16) : u.recordFrame f =
      (u.hand { rs := f.get 2 0, prod := 4, at_ := u.time, entries := (below n).map f.entry }).answer true 0x20 f := by
  subst hn
  simp [State.recordFrame, hm, hnew, hroom, hheld]

theorem State.recordFrame_refused {n : Nat} (hn : n = (f.len.toNat - 4) / 32) (h : u.rsNoRoom (f.get 2 0) n = true ∨ 16 < u.heldEntries + n) :
    u.recordFrame f = u.answer false 0x20 f := by
  subst hn
  rcases h with h | h <;> simp [State.recordFrame, hm, hnew, h]

end

theorem State.irqNote_queued (h : u.ring.notices.length < 16) : u.irqNote f =
    ({ u with ring := { u.ring with notices := u.ring.notices ++ [(f.src.val, f.get 23 16, f.get 15 0)] } } : State).answer true 0x21 f := by
  simp [State.irqNote, hm, h]

theorem State.irqNote_refused (h : 16 ≤ u.ring.notices.length) : u.irqNote f = (u.bump rINT_GSTAT 15 0).answer false 0x21 f := by
  simp [State.irqNote, hm, h]

/-! ### Frames the master does not await (R335) and BREAK (R348) -/

theorem State.ack_master : u.ack f = u.stale := if_pos (by simp [hm])

theorem State.noteBreak_master (addr : Nat) (kb : Bool) : u.noteBreak addr kb =
    if kb then (u.setRb rKR_STAT 0 true).setRf rKR_BREAK 27 16 addr else (u.setRb rKR_STAT 0 true).setRf rKR_BREAK 11 0 addr := by
  simp [State.noteBreak, hm]

end

/-- Settles O38: CPL; event completions, records and notices by epoch and room; accesses; then the frames a master does not await, and BREAK. -/
theorem masterTakesRingFrames : Obligations.MasterTakesRingFrames := by
  refine fun s u f hm => ⟨fun h => ⟨fun hold => ?_, fun hnew hop => ?_, fun hnew hop => ⟨fun c hc => ?_, fun hc => ?_⟩⟩,
    fun h q hq => ⟨fun hold => ?_, fun hnew hen hroom hheld => ?_, fun hnew hno => ?_⟩,
    fun h n hn => ⟨fun hold => ?_, fun hnew hroom hheld => ?_, fun hnew hno => ?_⟩, fun h => ⟨fun hroom => ?_, fun hfull => ?_⟩,
    fun a ha h => ?_, fun a ha h => ?_, fun h => ?_, fun h => ?_, fun h => ?_, fun h => ?_, fun h => ?_, fun h => ?_⟩
  · rw [exec, execCpl, execute_takeFrame_takes h, State.cplFrame_stale hm hold]
  · rw [exec, execCpl, execute_takeFrame_takes h, State.cplFrame_abort hm hnew hop]
  · rw [exec, execCpl, execute_takeFrame_takes h, State.cplFrame_found hm hnew hop hc]
  · rw [exec, execCpl, execute_takeFrame_takes h, State.cplFrame_unawaited hm hnew hop hc]
  · rw [exec, execEcpl, execute_takeFrame_takes h, State.ecpl_stale hm hold]
  · rw [exec, execEcpl, execute_takeFrame_takes h, State.ecpl_accepted hm hnew hq hen hroom hheld]
  · rw [exec, execEcpl, execute_takeFrame_takes h, State.ecpl_refused hm hnew hq hno]
  · rw [exec, execRecord, execute_takeFrame_takes h, State.recordFrame_stale hm hold]
  · rw [exec, execRecord, execute_takeFrame_takes h, State.recordFrame_accepted hm hnew hn hroom hheld]
  · rw [exec, execRecord, execute_takeFrame_takes h, State.recordFrame_refused hm hnew hn hno]
  · rw [exec, execIrqNote, execute_takeFrame_takes h, State.irqNote_queued hm hroom]
  · rw [exec, execIrqNote, execute_takeFrame_takes h, State.irqNote_refused hm hfull]
  · rw [exec, execDmaRd, execute_takeFrame_takes h, State.dmaRd, if_pos hm, State.takeAccess, ← ha]
  · rw [exec, execDmaWr, execute_takeFrame_takes h, State.dmaWr, if_pos hm, State.takeAccess, ← ha]
  · rw [exec, execAck, execute_takeFrame_takes h, State.ack_master hm, State.stale]
  · rw [exec, execCmd, execute_takeFrame_takes h, State.takeCmd_, if_pos (by simp [hm])]
  · rw [exec, execNack, execute_takeFrame_takes h, State.nack, if_pos hm]
  · rw [exec, execAbortFwd, execute_takeFrame_takes h, if_pos hm]
  · rw [exec, execDmaData, execute_takeFrame_takes h, State.dmaData, if_pos hm]
  · rw [exec, execBreakFrame, execute_takeFrame_takes h, State.noteBreak_master hm]

end Sys2Proof.Machine
end

section
/-! SUPPORT. What the ring sends by itself, a slave's TIME and ring-fed domains, and the ring ports (R329, R334, R338 to R341, R343, R345, R348
to R351, R408; log entries 33 to 36), and the statement about them. -/

namespace Sys2Proof.Machine

variable {s : State}

/-! ### Periodic sends (R329, R338, R343) -/

theorem State.markSend_plain (hm : s.master = true) (hon : s.portsOn = true) (ht : s.time % 1024 = 0) {u : State} (hu : u = s.emit (.pulse 2 s.time)) :
    s.markSend = if s.time % 1048576 = 0 then u.sendBoth 5 4095 (u.tage 0) 8 s.time else u := by
  subst hu
  simp only [State.markSend, hm, hon, ht, decide_true, Bool.and_self, if_true]
  rfl

theorem State.markSend_waits (h : s.master = false ∨ s.portsOn = false ∨ s.time % 1024 ≠ 0) : s.markSend = s :=
  if_neg (by rcases h with h | h | h <;> simp [h])

theorem State.probeSend_waits (h : s.portsOn = false ∨ s.time % 1024 ≠ 0) : s.probeSend = s :=
  if_neg (by rcases h with h | h <;> simp [h])

theorem State.probeSend_sends (hon : s.portsOn = true) (ht : s.time % 1024 = 0) :
    s.probeSend = ({ s with ring := { s.ring with probe := true } } : State).sendOn true 3 4095 (s.tage 0) 0 0 :=
  if_pos (by simp [hon, ht])

theorem State.angleRefresh_sends {d : Nat} (hon : s.angTx d = true) (ht : (s.dom d).txTime + 100000 * max 1 (s.rf rKR_CFG 23 16) < s.time + 4) :
    s.angleRefresh d = s.sendAngle d true := if_pos (by simp only [hon, ht, decide_true, Bool.and_self])

theorem State.angleRefresh_waits {d : Nat} (h : s.angTx d = false ∨ s.time + 4 ≤ (s.dom d).txTime + 100000 * max 1 (s.rf rKR_CFG 23 16)) :
    s.angleRefresh d = s := by
  rcases h with h | h
  · exact if_neg (by simp [h])
  · exact if_neg (by simp only [Bool.and_eq_true, decide_eq_true_eq, Nat.not_lt.2 h, and_false, not_false_eq_true])

/-! ### Entries and notices that go again (R334, R408) -/

section
variable {k : Nat}

theorem State.forwardRetry_none (h : s.ring.unans.find? (fun u => u.key = k) = none) : s.forwardRetry k = s := by
  simp only [State.forwardRetry, h]

/-- An unanswered entry goes again at the time a NACK gave, or RING_TO after it was sent. -/
theorem State.forwardRetry_some {u : Unans} {t : Nat} (h : s.ring.unans.find? (fun u => u.key = k) = some u)
    (ht : u.again = some t ∨ (u.again = none ∧ t = u.sent + s.ringTo)) : s.forwardRetry k =
      if t < s.time + 4 then ({ s with ring := { s.ring with unans := s.ring.unans.map (fun (x : Unans) =>
        if x.key = k then { x with sent := s.time, again := none } else x) } } : State).sendEntry k else s := by
  rcases ht with ht | ⟨ht, rfl⟩ <;> simp only [State.forwardRetry, h, ht]

end

section
variable {g : Nat}

theorem State.noteRetry_idle (h : (s.tgt g).retry = none ∨ (s.tgt g).await = none) : s.noteRetry g = s := by
  unfold State.noteRetry
  rcases h with h | h <;> rw [h]
  cases (s.tgt g).retry <;> rfl

theorem State.noteRetry_some {t a : Nat} (ht : (s.tgt g).retry = some t) (ha : (s.tgt g).await = some a) : s.noteRetry g =
    if s.time < t then s
    else if s.best g = some a then s.deliver g a
    else s.setTgt g { s.tgt g with await := none, retry := none } := by
  simp only [State.noteRetry, ht, ha]

end

/-! ### A slave's TIME (R338 to R341, R349) -/

section
variable {kb : Bool} (x : Nat)

theorem State.markCapture_unused (h : s.master = true ∨ s.portLost kb = true) : s.markCapture kb x = s :=
  if_pos (by rcases h with h | h <;> simp [h])

section
variable (hm : s.master = false) (hport : s.portLost kb = false) {u : State}
  (hu : u = ({ s with ring := { s.ring with markAt := s.time } } : State).setRb rKR_STAT 24 false)
include hm hport hu

theorem State.markCapture_unreached (hen : u.enumd = false) : s.markCapture kb x = u := by
  rw [State.markCapture, if_neg (by simp [hm, hport]), ← hu]
  exact if_pos (by simp [hen])

/-- A reached slave notes the MARK, and follows it on the ring it follows. -/
theorem State.markCapture_noted (hen : u.enumd = true) {v : State} (hA : kb = false → v = { u with ring := { u.ring with markA := u.time, missA := 0 } })
    (hB : kb = true → v = { u with ring := { u.ring with missA := (u.time - u.ring.markA - 512) / 1024 } }) :
    s.markCapture kb x = if kb == v.dirB then v.followMark (16 * v.time + x) else v := by
  have hv : v = if kb then { u with ring := { u.ring with missA := (u.time - u.ring.markA - 512) / 1024 } }
      else { u with ring := { u.ring with markA := u.time, missA := 0 } } := by
    cases kb
    · exact hA rfl
    · exact hB rfl
  rw [State.markCapture, if_neg (by simp [hm, hport]), ← hu, hv]
  exact if_neg (by simp [hen])

end

end

theorem State.markLoss_orphans (hm : s.master = false) (hen : s.enumd = true) (hno : s.rb rKR_STAT 24 = false)
    (ht : s.ring.markAt + 16000 < s.time + 4) : s.markLoss = (s.leaveLock.sourcesLost).setRb rKR_STAT 24 true :=
  if_pos (by simp [hm, hen, hno, ht])

theorem State.markLoss_waits (h : s.master = true ∨ s.enumd = false ∨ s.rb rKR_STAT 24 = true ∨ s.time + 4 ≤ s.ring.markAt + 16000) :
    s.markLoss = s :=
  if_neg (by rcases h with h | h | h | h <;> simp [h])

theorem State.timeStep_none (h : s.ring.step = none) : s.timeStep = s := by
  simp only [State.timeStep, h]

theorem State.timeStep_some {k : Int} (h : s.ring.step = some k) : s.timeStep =
    if s.tstate ≠ 1 then { s with ring := { s.ring with step := none } }
    else if s.anyShot then s
    else ((s.tmrTimeStep (stepped k s.time % 2 ^ 64)).moveTime k (stepped k s.time % 2 ^ 64)).bump rKR_CNT_B 23 16 := by
  simp only [State.timeStep, h]

/-! ### A ring source (R345) -/

theorem State.angleLost_waits {d : Nat} (h : s.time % 16 ≠ 4 * d ∨ s.time < (s.dom d).rxTime + s.lossTo) : s.angleLost d = s :=
  if_neg (by rcases h with h | h <;> simp [domSlotAt, h])

theorem State.angleLost_loses {d : Nat} (hslot : s.time % 16 = 4 * d) (ht : (s.dom d).rxTime + s.lossTo ≤ s.time) : s.angleLost d = s.sourceLost d :=
  if_pos (by simp [domSlotAt, hslot, ht])

theorem State.sourceLost_unfed {d : Nat} (h : s.domEn d = false ∨ s.domRing d = false ∨ (s.dom d).rxHas = false) : s.sourceLost d = s :=
  if_neg (by rcases h with h | h | h <;> simp [h])

theorem State.sourceLost_fed {d : Nat} (hen : s.domEn d = true) (hring : s.domRing d = true) (hhas : (s.dom d).rxHas = true) {u : State}
    (hfirst : (s.dom d).rxLost = none → u = s.ringUnsync d) (hagain : (s.dom d).rxLost ≠ none → u = s) :
    s.sourceLost d = (u.setDom d { u.dom d with rxHas := false }).setRb rKR_STAT 5 true := by
  simp only [State.sourceLost, hen, hring, hhas, Bool.and_self, if_true]
  cases h : (s.dom d).rxLost with
  | none => simp [hfirst h]
  | some c => simp [hagain (by simp [h])]

/-! ### Ports (R348 to R351) -/

theorem State.setRb_devAddr (a b : Nat) (v : Bool) : (s.setRb a b v).devAddr = s.devAddr := rfl

theorem State.setRing_devAddr (r : Ring) : ({ s with ring := r } : State).devAddr = s.devAddr := rfl

section
variable {kb : Bool}

theorem State.portDown_devAddr : (s.portDown kb).devAddr = s.devAddr := by
  rw [State.portDown]
  refine (State.setRing_devAddr _).trans ?_
  rw [State.setRb_devAddr, State.setRb_devAddr, State.setRb_devAddr]

theorem State.portLoss_off (h : s.portsOn = false) : s.portLoss kb = s := by
  simp [State.portLoss, h]

theorem State.portLock_off (h : s.portsOn = false) : s.portLock kb = s := by
  simp [State.portLock, h]

section
variable (hon : s.portsOn = true)
include hon

theorem State.portLoss_again (hlost : s.portLost kb = true) : s.portLoss kb = s.portDown kb := by
  simp [State.portLoss, hon, hlost]

theorem State.portLoss_first (hport : s.portLost kb = false) {v : State}
    (hv : v = ((((s.portDown kb).setRb rKR_PORT (if kb then 25 else 29) true).setRb rKR_STAT 0 true).bump rKR_CNT_B 31 24).noteBreak s.devAddr kb) :
    s.portLoss kb = v.sendBoth 0x30 0 (v.tage 0) 4 (pack [(11, 0, v.devAddr), (16, 16, kb.toNat)]) := by
  have hdev : (((s.portDown kb).setRb rKR_PORT (if kb then 25 else 29) true).setRb rKR_STAT 0 true).devAddr = s.devAddr := by
    rw [State.setRb_devAddr, State.setRb_devAddr, State.portDown_devAddr]
  rw [State.portLoss, if_neg (by simp [hon]), if_neg (by simp [hport]), hv, ← hdev]

theorem State.portLock_decodes {u : State}
    (hu : u = (s.setRb rKR_PORT (if kb then 27 else 31) true).setRb rKR_PORT (if kb then 26 else 30) true) :
    s.portLock kb = if u.portLost kb then ({ u with ring := { u.ring with cleanAt := some u.time } } : State).bump rXING_CNT 15 8 else u := by
  subst hu
  rw [State.portLock, if_neg (by simp [hon])]
  cases kb <;> rfl

end

end

theorem State.loopOpen_none (h : s.ring.openAt = none) : s.loopOpen = s := by
  simp only [State.loopOpen, h]

theorem State.loopOpen_some {t : Nat} (h : s.ring.openAt = some t) {u : State} (hu : u = { s with ring := { s.ring with openAt := none } }) :
    s.loopOpen = if t < s.time + 4 then
      (if s.rb rKR_PORT 24 then ((u.setRb rKR_PORT 29 false).setRb rKR_PORT 25 false).setRb rKR_PORT 24 false else u) else s := by
  subst hu
  simp only [State.loopOpen, h]
  rfl

theorem State.loopbackOpen_waits {u : State} (hu : u = s.loopOpen) (h : (∀ o t, u.ring.run ≠ some (o, 3, t)) ∨ u.ring.rejoinAt = none ∨
    ∃ t, u.ring.rejoinAt = some t ∧ u.time + 4 ≤ t) : s.loopbackOpen = u := by
  rw [State.loopbackOpen, ← hu]
  dsimp only
  split
  · rename_i o t₀ t hrun hat
    rcases h with h | h | ⟨t', h, ht⟩
    · exact absurd hrun (h o t₀)
    · simp [hat] at h
    · obtain rfl : t = t' := by simpa [hat] using h
      exact if_neg (Nat.not_lt.2 ht)
  · rfl

theorem State.loopbackOpen_enumerates {u : State} (hu : u = s.loopOpen) {o t₀ t : Nat} (hrun : u.ring.run = some (o, 3, t₀))
    (hat : u.ring.rejoinAt = some t) (ht : t < u.time + 4) :
    s.loopbackOpen = ({ u with ring := { u.ring with rejoinAt := none } } : State).sendEnumA o := by
  rw [State.loopbackOpen, ← hu]
  simp only [hrun, hat]
  exact if_pos ht

/-- Settles O41: what the ring sends by itself; MARKs, the time state, TIME steps and ring sources; then the ports, WAKE and the loop-backs. -/
theorem ringSendsTimeAndPorts : Obligations.RingSendsTimeAndPorts := by
  refine ⟨fun s hl => ⟨fun u hu => ⟨fun hm hon ht => ?_, fun hm hon ht hno => ?_, fun h => ?_⟩, fun h => ?_, fun hon ht => ?_,
      fun k => ⟨fun h => ?_, fun u t hm hfind hat => ?_⟩,
      fun g => ⟨fun h => ?_, fun t a ht ha => ⟨fun hlt => ?_, fun hle hbest => ?_, fun hle hbest => ?_⟩⟩,
      fun d => ⟨fun hon ht => ?_, fun h => ?_⟩⟩,
    fun s hl => ⟨fun kb x => ⟨fun h => ?_, fun hm hport u hu => ⟨fun hen => ?_, fun hen v hA hB => ⟨fun hkb => ?_, fun hkb => ?_⟩⟩⟩,
      fun hm hen hno ht => ?_, fun h => ?_, fun hm hen hmiss => ?_, fun h => ?_, fun h => ?_,
      fun k hk => ⟨fun hst => ?_, fun hst hshot => ?_, fun hst hshot t ht => ?_⟩,
      fun d => ⟨fun h => ?_, fun hslot ht => ?_, State.sourceLost_unfed, fun hen hring hhas u => State.sourceLost_fed hen hring hhas⟩⟩,
    fun s hl => ⟨fun kb => ⟨?_, ?_, fun hoff => ⟨State.portLoss_off hoff, State.portLock_off hoff⟩,
        fun hon => ⟨State.portLoss_again hon, fun hport v => State.portLoss_first hon hport, fun u hu => ⟨fun hport => ?_, fun hlost => ?_⟩⟩⟩,
      ⟨fun hfwd hen hon => ?_, fun h => ?_, fun hm hon => ?_, fun h => ?_⟩, fun h => ?_, fun t ht => ⟨fun hlost hdue => ?_, fun h => ?_⟩,
      fun u hu => ⟨fun h => ?_, fun o t₀ t hrun hat ht => ?_⟩, State.loopOpen_none,
      fun t ht => ⟨fun hle => ?_, fun hlt hno => ?_, fun hlt hrep => ?_⟩⟩⟩
  · rw [exec, execMarkSend, execute_live _ hl, State.markSend_plain hm hon (by omega) hu, if_pos ht]
  · rw [exec, execMarkSend, execute_live _ hl, State.markSend_plain hm hon ht hu, if_neg hno]
  · rw [exec, execMarkSend, execute_live _ hl, State.markSend_waits h]
  · rw [exec, execProbeSend, execute_live _ hl, State.probeSend_waits h]
  · rw [exec, execProbeSend, execute_live _ hl, State.probeSend_sends hon ht]
  · rw [exec, execForwardRetry, execute_live _ hl]
    rcases h with h | h
    · rw [if_pos h]
    · rw [State.forwardRetry_none h, ite_self]
  · rw [exec, execForwardRetry, execute_live _ hl, if_neg (by simp [hm]), State.forwardRetry_some hfind hat]
    exact ⟨fun ht => by rw [if_pos ht], fun ht => by rw [if_neg (Nat.not_lt.2 ht)]⟩
  · rw [exec, execIrqNoteRetry, execute_live _ hl, State.noteRetry_idle h]
  · rw [exec, execIrqNoteRetry, execute_live _ hl, State.noteRetry_some ht ha, if_pos hlt]
  · rw [exec, execIrqNoteRetry, execute_live _ hl, State.noteRetry_some ht ha, if_neg (Nat.not_lt.2 hle), if_pos hbest]
  · rw [exec, execIrqNoteRetry, execute_live _ hl, State.noteRetry_some ht ha, if_neg (Nat.not_lt.2 hle), if_neg hbest]
  · rw [exec, execAngleRefresh, execute_live _ hl, State.angleRefresh_sends hon ht]
  · rw [exec, execAngleRefresh, execute_live _ hl, State.angleRefresh_waits h]
  · rw [exec, execMarkCapture, execute_live _ hl, State.markCapture_unused _ h]
  · rw [exec, execMarkCapture, execute_live _ hl, State.markCapture_unreached _ hm hport hu hen]
  · rw [exec, execMarkCapture, execute_live _ hl, State.markCapture_noted _ hm hport hu hen hA hB, if_pos (by simp [hkb])]
  · rw [exec, execMarkCapture, execute_live _ hl, State.markCapture_noted _ hm hport hu hen hA hB, if_neg (by simp [hkb])]
  · rw [exec, execMarkLoss, execute_live _ hl, State.markLoss_orphans hm hen hno ht]
  · rw [exec, execMarkLoss, execute_live _ hl, State.markLoss_waits h]
  · rw [exec, execFollowKb, execute_live _ hl, if_pos (by simp [hm, hen, hmiss])]
  · rw [exec, execFollowKb, execute_live _ hl, if_neg (by rcases h with h | h | h <;> simp [h])]
  · rw [exec, execTimeStep, execute_live _ hl, State.timeStep_none h]
  · rw [exec, execTimeStep, execute_live _ hl, State.timeStep_some hk, if_pos hst]
  · rw [exec, execTimeStep, execute_live _ hl, State.timeStep_some hk, if_neg (not_not.2 hst), if_pos hshot]
  · rw [exec, execTimeStep, execute_live _ hl, State.timeStep_some hk, if_neg (not_not.2 hst), if_neg (by simp [hshot]), stepped, ← ht]
  · rw [exec, execAngleSourceLost, execute_live _ hl, State.angleLost_waits h]
  · rw [exec, execAngleSourceLost, execute_live _ hl, State.angleLost_loses hslot ht]
  · rw [exec, execPortLost, execute_live _ hl]
  · rw [exec, execPortDecodeLock, execute_live _ hl]
  · rw [State.portLock_decodes hon hu, if_neg (by simp [hport])]
  · rw [State.portLock_decodes hon hu, if_pos hlost]
  · rw [exec, execWakeForward, execute_live _ hl, if_pos (by simp [hfwd, hen, hon]), State.wakeBurst]
  · rw [exec, execWakeForward, execute_live _ hl, if_neg (by rcases h with h | h | h <;> simp [h])]
  · rw [exec, execSend, execute_live _ hl, State.krSend, if_pos (by simp [hm, hon]), State.wakeBurst]
  · rw [exec, execSend, execute_live _ hl, State.krSend, if_neg (by rcases h with h | h <;> simp [h])]
  · rw [exec, execPortRepaired, execute_live _ hl]
    simp only [h]
  · rw [exec, execPortRepaired, execute_live _ hl]
    simp only [ht]
    rw [if_pos (by rcases hlost with h | h <;> simp [h, hdue])]
  · rw [exec, execPortRepaired, execute_live _ hl]
    simp only [ht]
    rw [if_neg (by rcases h with h | ⟨ha, hb⟩ <;> simp [*])]
  · rw [exec, execLoopbackOpen, execute_live _ hl, State.loopbackOpen_waits hu h]
  · rw [exec, execLoopbackOpen, execute_live _ hl, State.loopbackOpen_enumerates hu hrun hat ht]
  · rw [State.loopOpen_some ht rfl, if_neg (Nat.not_lt.2 hle)]
  · rw [State.loopOpen_some ht rfl, if_pos hlt, if_neg (by simp [hno])]
  · rw [State.loopOpen_some ht rfl, if_pos hlt, if_pos hrep]

end Sys2Proof.Machine
end

section
/-! SUPPORT. The timer bank (R378, R380 to R383, R385, R387, R388; log entry 38): increments and their events, triggers, starts, stops, re-arms
and compare writes, and the statement about them. -/

namespace Sys2Proof.Machine

variable {s u : State} {t : Nat}

/-! ### Increments (R378, R381 to R383) -/

theorem exec_timerIncrement (hl : s.live = true) (t : Fin 32) {pins : BitVec 32} (hu : u = { s with pinIn := pins }) :
    exec (.timerIncrement t pins) s = .next (if u.govern t = t.val && u.incDue t pins then u.tmrAdd t 1 else u).settle := by
  rw [exec, execTimerIncrement, execute_live _ hl, ← hu]

/-- One increment of a 32-bit count meets the compare value exactly where the new count is it, and wraps exactly to zero. -/
theorem countOn_one {c cmp : Nat} (hc : c < 2 ^ 32) (hcmp : cmp < 2 ^ 32) :
    countOn (2 ^ 32) c 1 cmp = ((c + 1) % 2 ^ 32, decide ((c + 1) % 2 ^ 32 = cmp), decide ((c + 1) % 2 ^ 32 = 0)) := by
  rw [countOn, Prod.mk.injEq, Prod.mk.injEq, decide_eq_decide, decide_eq_decide]
  omega

theorem State.tmrAdd_unlinked {b : State} (hb : b = s.tmrBase t) (hlink : b.linked t = false) (hc : (b.tmr t).count < 2 ^ 32)
    (hcmp : b.cmpOf t < 2 ^ 32) {n : Nat} (hn : n = ((b.tmr t).count + 1) % 2 ^ 32) : s.tmrAdd t 1 =
      (b.setTmr t { b.tmr t with count := n, incAt := some b.coreAt, lastB := some b.time }).tmrEvents t (decide (n = b.cmpOf t)) (decide (n = 0)) := by
  rw [State.tmrAdd, ← hb, countOn_one hc hcmp, ← hn]
  exact if_neg (by simp [hlink])

/-! ### The events of one core cycle (R381, R385) -/

/-- With no other event of the pair in this core cycle, what `tmrEvents` shows and does is about TMR[t] alone. -/
theorem State.tmrEvents_alone (h : s.tmrEvts t = []) {m o : Bool} (hone : m = false ∨ o = false)
    (hu : u = { s with tmrCycs := tabSet {} s.tmrCycs (t / 2) { at_ := some s.coreAt, lo := s.tmr (evenOf t), hi := s.tmr (evenOf t + 1), evts := [(t, m, o)] } }) :
    s.tmrEvents t m o = if m then (u.tmrShow false t).tmrEvent false t else if o then (u.tmrShow true t).tmrEvent true t else u := by
  have hm : (m && !(s.rb (rTMR_CFG t) 31 && o)) = m := by rcases hone with rfl | rfl <;> simp
  rw [State.tmrEvents, h, hm]
  subst hu
  match m, o, hone with
  | false, false, _ => rfl
  | true, false, _ => rfl
  | false, true, _ => rfl

/-! ### Triggers (R380) -/

section
variable {sel f : Nat} (hsel : sel = s.rf (rTMR_AUX t) 6 0) (hf : f = sel % 32)

theorem State.tmrTrigger_none (h : s.govern t ≠ t ∨ s.rf (rTMR_CFG t) 10 8 = 0 ∨ 5 ≤ s.rf (rTMR_CFG t) 10 8) : s.tmrTrigger t = s := by
  rcases h with h | h | h
  · exact if_neg (by simp [h])
  · simp [State.tmrTrigger, h]
  · obtain ⟨k, hk⟩ := Nat.exists_eq_add_of_le' h
    simp [State.tmrTrigger, hk]

section
variable (hgov : s.govern t = t)
include hgov hsel hf

theorem State.tmrTrigger_rise (h : s.rf (rTMR_CFG t) 10 8 = 1) :
    s.tmrTrigger t = if bit s.flagsPrev f = false ∧ s.flag f = true then s.startTmr t else s := by
  subst hf hsel
  simp [State.tmrTrigger, hgov, h]

theorem State.tmrTrigger_fall (h : s.rf (rTMR_CFG t) 10 8 = 2) :
    s.tmrTrigger t = if bit s.flagsPrev f = true ∧ s.flag f = false then s.startTmr t else s := by
  subst hf hsel
  simp [State.tmrTrigger, hgov, h]

omit hf in
theorem State.tmrTrigger_mark {b : Bool} (h : s.rf (rTMR_CFG t) 10 8 = if b then 3 else 4) :
    s.tmrTrigger t = if sel ≤ 95 ∧ s.actMarks.contains (s.time, sel, b) = true then s.startTmr t else s := by
  subst hsel
  cases b <;> simp [State.tmrTrigger, hgov, h]

end

end

/-! ### Starts, stops and re-arms (R380, R387, R388) -/

section
variable (hlink : s.linked t = false)
include hlink

theorem State.group_unlinked : s.group t = [t] := if_neg (by simp [hlink])

theorem State.startGroup_unlinked : s.startGroup t =
    if (s.tmr t).st = 0 then s.setTmr t { s.tmr t with st := 1, startedAt := some s.coreAt, presc := 0, lastB := none } else s := by
  rw [State.startGroup, State.group_unlinked hlink]
  rfl

theorem State.stopTmr_unlinked : s.stopTmr t = if (s.tmr t).st = 1 then s.setTmr t { s.tmr t with st := 0 } else s := by
  rw [State.stopTmr, State.group_unlinked hlink]
  rfl

theorem State.armTmr_unlinked : s.armTmr t = if (s.tmr t).st = 1 then s else s.setTmr t { s.tmr t with st := 0, count := 0 } := by
  rw [State.armTmr, State.group_unlinked hlink]
  rfl

end

/-- Settles O46: increments and their events, triggers, then starts, stops, re-arms and compare writes. -/
theorem timersIncrementStartStopAndArm : Obligations.TimersIncrementStartStopAndArm := by
  refine ⟨fun s u t pins hl hu => ⟨fun hgov hdue => ?_, fun h => ?_⟩,
    fun s b t hb hlink hc hcmp n hn => State.tmrAdd_unlinked hb hlink hc hcmp hn,
    fun s u t hevts m o hu => ⟨fun hm ho => ?_, fun hm ho => ?_, fun hm ho => ?_⟩,
    fun s t hl sel f hsel hf => ⟨fun h => ?_, fun hgov => ⟨fun h => ?_, fun h => ?_, fun b h => ?_⟩⟩,
    fun s t v hl => ⟨?_, ?_, ?_, ?_, fun hpriv => if_pos hpriv, fun hpriv => if_neg (by simp [hpriv]),
      fun hlink => ⟨fun hst => ?_, fun hst => ?_, fun hst => ⟨?_, ?_⟩, fun hst => ⟨?_, ?_⟩⟩⟩⟩
  · rw [exec_timerIncrement hl t hu, if_pos (by simp [hgov, hdue])]
  · rw [exec_timerIncrement hl t hu, if_neg (by rcases h with h | h <;> simp [h])]
  · subst hm ho
    exact State.tmrEvents_alone hevts (.inl rfl) hu
  · subst hm ho
    exact State.tmrEvents_alone hevts (.inr rfl) hu
  · subst hm ho
    exact State.tmrEvents_alone hevts (.inl rfl) hu
  · rw [exec, execTimerTrigger, execute_live _ hl, State.tmrTrigger_none h]
  · rw [exec, execTimerTrigger, execute_live _ hl, State.tmrTrigger_rise hsel hf hgov h]
  · rw [exec, execTimerTrigger, execute_live _ hl, State.tmrTrigger_fall hsel hf hgov h]
  · rw [exec, execTimerTrigger, execute_live _ hl, State.tmrTrigger_mark hsel hgov h]
  · rw [exec, execTmrStart, execute_live _ hl, State.eachBit]
  · rw [exec, execTmrStop, execute_live _ hl, State.eachBit]
  · rw [exec, execTmrArm, execute_live _ hl, State.eachBit]
  · rw [exec, execTmrCmpWrite, execute_live _ hl, State.tmrCmpWrite]
  · rw [State.startGroup_unlinked hlink, if_pos hst]
  · rw [State.startGroup_unlinked hlink, if_neg hst]
  · rw [State.stopTmr_unlinked hlink, if_pos hst]
  · rw [State.armTmr_unlinked hlink, if_pos hst]
  · rw [State.stopTmr_unlinked hlink, if_neg hst]
  · rw [State.armTmr_unlinked hlink, if_neg hst]

end Sys2Proof.Machine
end

section
/-! SUPPORT. Resets (R425, R439 to R441; log entries 43 and 46): when each acts, what a reset of the main domain keeps, and the statement about
them. -/

namespace Sys2Proof.Machine

variable {s u : State}

/-! ### When a reset acts (R439 to R441) -/

theorem exec_softReset (hl : s.live = true) (v : Word) :
    exec (.softReset v) s = .next (if v = 0x0000D1E5 then s.mainReset 4 else s).settle := by
  rw [exec, execSoftReset, execute_live _ hl]
  rfl

theorem exec_brownout : exec .brownout s = .next s.brownout.settle := rfl

theorem exec_brownoutReset (early : Bool) : exec (.brownoutReset early) s = .next (s.brownoutReset early).settle := rfl

theorem State.brownout_begins (hh : s.held = false) (hb : s.pwr.brownAt = none) (hu : u = { s with pwr := { s.pwr with brownAt := some s.time } }) :
    s.brownout = if u.watch then u else u.latchCause 8 := by
  rw [State.brownout, if_neg (by simp [hh, hb]), ← hu]

theorem State.brownout_inert (h : s.held = true ∨ s.pwr.brownAt ≠ none) : s.brownout = s :=
  if_pos (by rcases h with h | h <;> simp [h, Option.isSome_iff_ne_none])

theorem State.brownoutReset_none (early : Bool) (h : s.pwr.brownAt = none) : s.brownoutReset early = s := by
  simp only [State.brownoutReset, h]

theorem State.brownoutReset_some (early : Bool) {t : Nat} (h : s.pwr.brownAt = some t) (hu : u = s.mainReset 1) : s.brownoutReset early =
    if early = true ∨ (s.outputsEnded = true ∧ s.safePend = false) ∨ t + 10000000 ≤ s.time then
      { u with held := true, pwr := { u.pwr with brownHeld := true } } else s := by
  simp only [State.brownoutReset, h, ← hu]
  refine if_congr ?_ rfl rfl
  simp [or_assoc]

/-! ### What a reset keeps (R425, R440, Table 17.2) -/

/-- With no commit, compaction or fuse operation to cut, the array and the fuses stay as they are. -/
theorem State.cleared_of_idle (hcommit : s.jrn.commit = none) (hcompact : s.jrn.compact = none) (hop : s.fuses.op = none) :
    s.cleared = { State.reset with
      pending := s.pending, out := s.out, free := s.free, master := s.master, held := s.held
      fuses := { words := s.fuses.words, blown := s.fuses.blown }, jrn := { nv := s.jrn.nv }
      pwr := { safeNLow := s.pwr.safeNLow, brownHeld := s.pwr.brownHeld, overheat := s.pwr.overheat } } := by
  have hjrn : s.jrnCut = s := by simp only [State.jrnCut, hcommit, hcompact]
  have hfuse : s.fuseCut = s := by simp only [State.fuseCut, hop]
  rw [State.cleared, hjrn, hfuse]

theorem State.foldl_setReg (f : Nat → Word) (l : List Nat) :
    ∀ b : State, ∃ r, l.foldl (fun (b : State) a => b.setReg a (f a)) b = { b with regs := r } := by
  induction l with
  | nil => exact fun b => ⟨b.regs, rfl⟩
  | cons a l ih =>
    intro b
    obtain ⟨r, hr⟩ := ih (b.setReg a (f a))
    exact ⟨r, by rw [List.foldl_cons, hr]; rfl⟩

theorem State.reg_foldl_setReg (f : Nat → Word) (l : List Nat) (c : Nat) :
    ∀ b : State, (l.foldl (fun (b : State) a => b.setReg a (f a)) b).reg c = if c ∈ l then f c else b.reg c := by
  induction l with
  | nil => simp
  | cons a l ih =>
    intro b
    rw [List.foldl_cons, ih, State.reg_setReg]
    grind

theorem State.setRb_frame (s : State) (a b : Nat) (v : Bool) : ∃ r n, s.setRb a b v = { s with regs := r, setNow := n } := ⟨_, _, rfl⟩

/-- A reset writes registers over the cleared device, and keeps what the watch holds. -/
theorem State.mainReset_frame (s : State) (k : Nat) : ∃ r n, s.mainReset k = { s.cleared with aon := s.aon, regs := r, setNow := n } := by
  obtain ⟨r, hr⟩ := State.foldl_setReg s.reg aonRegs s.cleared
  rw [State.mainReset, hr]
  generalize s.cleared = c
  obtain ⟨r₁, n₁, h₁⟩ := State.setRb_frame ({ c with regs := r, aon := s.aon } : State) rKR_CFG 30 (s.rb rKR_CFG 30)
  obtain ⟨r₂, n₂, h₂⟩ := State.setRb_frame ({ c with aon := s.aon, regs := r₁, setNow := n₁ } : State) rRST_CAUSE k true
  exact ⟨r₂, n₂, (congrArg (State.setRb · rRST_CAUSE k true) h₁).trans h₂⟩

theorem State.reset_reg {a : Nat} (h : a ≠ rRST_CAUSE) : State.reset.reg a = resetOf a := if_neg h

theorem State.cleared_reg (a : Nat) : s.cleared.reg a = State.reset.reg a := rfl

theorem State.setAon_reg (x : Aon) (a : Nat) : ({ s with aon := x } : State).reg a = s.reg a := rfl

theorem State.mainReset_reg {k : Nat} {a : Nat} (hcause : a ≠ rRST_CAUSE) (hcfg : a ≠ rKR_CFG) :
    (s.mainReset k).reg a = if a ∈ aonRegs then s.reg a else resetOf a := by
  rw [State.mainReset, State.reg_setRb, if_neg hcause, State.reg_setRb, if_neg hcfg, State.setAon_reg, State.reg_foldl_setReg, State.cleared_reg,
    State.reset_reg hcause]

theorem State.mainReset_reg_cause {k : Nat} : (s.mainReset k).reg rRST_CAUSE = setBit (s.reg rRST_CAUSE) k true := by
  rw [State.mainReset, State.reg_setRb_self, State.reg_setRb, if_neg (by decide), State.setAon_reg, State.reg_foldl_setReg, if_pos (by decide)]

theorem State.mainReset_wakeFwd {k : Nat} : (s.mainReset k).rb rKR_CFG 30 = s.rb rKR_CFG 30 := by
  rw [State.rb, State.mainReset, State.reg_setRb, if_neg (by decide), State.reg_setRb_self, bit_setBit _ _ _ (by decide)]

/-- Settles O53: when each reset acts; then the cleared device and the registers written over it. -/
theorem resetsActAndClearTheMainDomain : Obligations.ResetsActAndClearTheMainDomain := by
  refine ⟨fun s => ⟨rfl, rfl, fun hl => ⟨?_, fun v hv => ?_⟩, fun hh hb u hu => ⟨fun hw => ?_, fun hw => ?_⟩, fun h => ?_, fun early h => ?_,
      fun early t u g ht hu hg => ⟨fun hact => ?_, fun hwait => ?_⟩, fun h => ?_, fun h => ?_⟩,
    fun s k hcommit hcompact hop _ => ?_⟩
  · rw [exec_softReset hl, if_pos rfl]
  · rw [exec_softReset hl, if_neg hv]
  · rw [exec_brownout, State.brownout_begins hh hb hu, if_neg (by simp [hu, hw])]
  · rw [exec_brownout, State.brownout_begins hh hb hu, if_pos (by simp [hu, hw])]
  · rw [exec_brownout, State.brownout_inert h]
  · rw [exec_brownoutReset, State.brownoutReset_none early h]
  · rw [exec_brownoutReset, State.brownoutReset_some early ht hu, if_pos (hg ▸ hact)]
  · rw [exec_brownoutReset, State.brownoutReset_some early ht hu, if_neg (hg ▸ hwait)]
  · exact congrArg (fun x : State => Host.Outcome.next x.settle) (if_pos h)
  · exact congrArg (fun x : State => Host.Outcome.next x.settle) (if_neg (by simp [h]))
  · obtain ⟨r, n, hframe⟩ := s.mainReset_frame k
    rw [State.cleared_of_idle hcommit hcompact hop] at hframe
    have hkept : ∀ a ∈ [rAON_WATCH, rAON_CAUSE, rCLK_CFG], (s.mainReset k).reg a = s.reg a := fun a ha => by
      fin_cases ha <;> rw [State.mainReset_reg (by decide) (by decide), if_pos (by decide)]
    refine ⟨by rw [hframe]; rfl, by rw [hframe]; rfl, by rw [hframe]; rfl, by rw [hframe]; rfl, by rw [hframe]; rfl, by rw [hframe], by rw [hframe],
      by rw [hframe], by rw [hframe], by rw [hframe]; rfl, by rw [hframe]; rfl, by rw [hframe]; rfl, hkept _ (by simp), hkept _ (by simp), hkept _ (by simp),
      State.mainReset_reg_cause, State.mainReset_wakeFwd, fun a ha => ?_⟩
    rw [State.mainReset_reg (by simp_all) (by simp_all), if_neg (by simp_all [aonRegs])]

end Sys2Proof.Machine
end

section
/-! SUPPORT. Engine cycles and the eleven operations of the Pretzel engines (R357, R361 to R366, R416; log entry 37), and the statement about
them. -/

namespace Sys2Proof.Machine

variable {s u r : State} {p : Fin 16} {pins : BitVec 32}

/-! ### An engine cycle (R357, R361, R364, R365) -/

/-- The rows of the operations, each with its operation code (Table 13.1). -/
def engineRows (p : Fin 16) (pins : BitVec 32) : List (Nat × Instr) :=
  [(0, .jmp p pins), (1, .wait p pins), (2, .in_ p pins), (3, .out p pins), (4, .push p pins), (5, .pull p pins), (6, .mov p pins),
    (7, .set p pins), (8, .flag p pins), (9, .xfer p pins), (10, .pause p pins)]

section
variable {x : Nat × Instr} (hx : x ∈ engineRows p pins)
include hx

theorem exec_engineRow (s : State) : exec x.2 s = execute (fun s => s.pzCycle x.1 p pins (fun s i => s.pzRun p i)) s := by
  rw [engineRows] at hx
  fin_cases hx <;> rfl

section
variable (hu : u = { s with pinIn := pins })
include hu

/-- Where the engine has no engine cycle to spend on an instruction, nothing but the pins seen changes. -/
theorem exec_engineRow_idle (hl : s.live = true) (h : u.pzDue p = false ∨ ((u.pz p).inj = none ∧ (u.pz p).idle ≠ 0)) :
    exec x.2 s = .next u.settle := by
  rw [exec_engineRow hx, execute_live _ hl, State.pzCycle, ← hu, if_neg]
  rcases h with h | ⟨hinj, hidle⟩
  · simp [h]
  · simp [hinj, hidle]

theorem exec_engineRow_illegal (hl : s.live = true) (hdue : u.pzDue p = true) (hready : (u.pz p).inj.isSome = true ∨ (u.pz p).idle = 0)
    (hfetch : u.pzFetch p = none) : exec x.2 s = .next ((u.pzRead p).pzIllegal p).settle := by
  rw [exec_engineRow hx, execute_live _ hl, State.pzCycle, ← hu, if_pos, hfetch]
  rcases hready with h | h <;> simp [hdue, h]

section
variable {i : PzOp} {t : Fin 4} (h : u.executes r p i t)
include h

theorem exec_engineRow_other (hop : i.op ≠ x.1) : exec x.2 s = .next u.settle := by
  obtain ⟨hl, hdue, hready, hfetch, -⟩ := h
  rw [exec_engineRow hx, execute_live _ (by rw [← hl, hu]; rfl), State.pzCycle, ← hu,
    if_pos (by rcases hready with h | h <;> simp [hdue, h]), hfetch]
  exact congrArg (fun x : State => Host.Outcome.next x.settle) (if_neg hop)

theorem exec_engineRow_runs (hop : i.op = x.1) : exec x.2 s = .next (r.pzTake p t (r.pzRun p i)).settle := by
  rw [exec_engineRow hx, execute_pzCycle x.1 hu h hop]

end

end

end

/-- The row of an instruction. -/
def PzOp.row (p : Fin 16) (pins : BitVec 32) : PzOp → Instr
  | .jmp _ _ => .jmp p pins
  | .waitPin _ _ | .waitFrame | .waitTick => .wait p pins
  | .in_ _ _ => .in_ p pins
  | .out _ _ => .out p pins
  | .push _ _ _ => .push p pins
  | .pull _ _ => .pull p pins
  | .mov _ _ _ => .mov p pins
  | .set _ _ => .set p pins
  | .flag _ _ | .flagWait _ _ => .flag p pins
  | .xfer _ _ _ => .xfer p pins
  | .pause _ => .pause p pins

theorem PzOp.row_mem (i : PzOp) : (i.op, i.row p pins) ∈ engineRows p pins := by
  cases i <;> simp [engineRows, PzOp.op, PzOp.row]

section
variable {i : PzOp} {t : Fin 4} (hu : u = { s with pinIn := pins }) (h : u.executes r p i t)
include hu h

theorem exec_row_completes {v : State} {pc : Option Nat} (hrun : r.pzRun p i = .done v pc 0) :
    exec (i.row p pins) s = .next (v.pzComplete p pc t).settle := by
  rw [exec_engineRow_runs i.row_mem hu h rfl, hrun, State.pzTake, Nat.zero_add]

theorem exec_row_stalls {k : Nat} (hrun : r.pzRun p i = .stall k) {e : Pz} (he : e = r.pz p) :
    exec (i.row p pins) s = .next (r.setPz p { e with stall := k, idle := 0, n := e.n + 1 }).settle := by
  rw [exec_engineRow_runs i.row_mem hu h rfl, hrun, State.pzTake, State.pzStalled, he]

end

theorem State.pzIdle_idles (hdue : s.pzDue p = true) (hinj : (s.pz p).inj = none) (hidle : 0 < (s.pz p).idle) :
    s.pzIdle p = s.setPz p { s.pz p with idle := (s.pz p).idle - 1, n := (s.pz p).n + 1 } :=
  if_pos (by simp [hdue, hinj, hidle])

theorem State.pzIdle_inert (h : s.pzDue p = false ∨ (s.pz p).inj ≠ none ∨ (s.pz p).idle = 0) : s.pzIdle p = s :=
  if_neg (by rcases h with h | h | h <;> simp [h])

/-! ### The operations (R362, R363, Tables 13.1 and 13.2) -/

section
variable {e : Pz} (he : e = r.pz p)
include he

theorem State.pzRun_jmp (a : Fin 64) : r.pzRun p (.jmp 0 a) = .done (r.setPz p e) (some a.val) 0 := by
  subst he
  rfl

theorem State.pzRun_jmp_x (hnz : e.x ≠ 0) (a : Fin 64) : r.pzRun p (.jmp 2 a) = .done (r.setPz p { e with x := e.x - 1 }) (some a.val) 0 := by
  subst he
  exact if_pos (by simpa [State.jmpTest] using hnz)

theorem State.pzRun_in (src : Fin 7) (c : Fin 32) (hauto : r.autoStore p = false) : r.pzRun p (.in_ src c) =
    .done (r.setPz p { e with sh := shiftIn (r.order p) e.sh (cnt c) (r.inSrc p src), lvl := min 32 (e.lvl + cnt c) }) none 0 := by
  subst he
  exact if_neg (by simp [hauto])

theorem State.pzRun_out_null (c : Fin 32) (hauto : r.autoLoad p = false) : r.pzRun p (.out 3 c) =
    .done (r.setPz p { e with sh := shiftIn (r.order p) e.sh (cnt c) 0, lvl := e.lvl - cnt c }) none 0 := by
  subst he
  exact if_neg (by simp [hauto])

/-- PUSH without its condition, on an engine with an up queue. -/
theorem State.pzRun_push (w eor : Bool) (hsize : r.uqSize p ≠ 0) : r.pzRun p (.push w false eor) =
    if e.uq.length < r.uqSize p then .done ((r.setPz p { e with sh := 0, lvl := 0 }).uqPush p e.sh eor) none 0
    else if w then .stall 2
    else .done ((r.setPz p { e with sh := 0, lvl := 0, miss := true }).bump (rPZ_CNT p) 7 0) none 0 := by
  subst he
  exact if_neg hsize

section
variable (w : Bool) (hsize : r.dqSize p ≠ 0)
include hsize

theorem State.pzRun_pull_word {v : BitVec 32} {l : List (BitVec 32)} (hdq : e.dq = v :: l) :
    r.pzRun p (.pull w false) = .done (r.setPz p { e with sh := v, lvl := 32, dq := l }) none 0 := by
  subst he
  simp [State.pzRun, State.pzPull, hsize, hdq]

theorem State.pzRun_pull_empty (hdq : e.dq = []) :
    r.pzRun p (.pull w false) = if w then .stall 1 else .done (r.setPz p { e with miss := true }) none 0 := by
  subst he
  simp [State.pzRun, State.pzPull, hsize, hdq]

end

end

theorem State.pzRun_jmp_fails (k : Fin 15) (a : Fin 64) (h : r.jmpTest p k = false) : r.pzRun p (.jmp k a) = .done r none 0 :=
  if_neg (by simp [h])

/-- The WAIT instructions and whether what each waits for is there. -/
theorem State.pzRun_wait {i : PzOp} {b : Bool} (h : (i = PzOp.waitTick ∧ b = decide (r.time % 16 = 0)) ∨ (i = PzOp.waitFrame ∧ b = decide (r.time % 64 = 0)) ∨
    (∃ pol k, i = PzOp.waitPin pol k ∧ b = (bit r.pinIn k == pol))) : i.row p pins = .wait p pins ∧ r.pzRun p i = if b then .done r none 0 else .stall 3 := by
  rcases h with ⟨rfl, rfl⟩ | ⟨rfl, rfl⟩ | ⟨pol, k, rfl, rfl⟩ <;> exact ⟨rfl, rfl⟩

theorem State.pzRun_flag {fop : Fin 3} {i : Fin 32} {b : Bool} (h : (fop = 0 ∧ b = true) ∨ (fop = 1 ∧ b = false)) :
    r.pzRun p (.flag fop i) = .done ({ r with flags := setBit r.flags i b } : State) none 0 := by
  have hindex : (32 * (fop.val + 1) + i.val) % 32 = i.val := by omega
  have haction : (32 * (fop.val + 1) + i.val) / 32 % 4 = fop.val + 1 := by omega
  rw [State.pzRun, State.pzFlag, applyFlag, hindex, haction]
  rcases h with ⟨rfl, rfl⟩ | ⟨rfl, rfl⟩ <;> rfl

/-- Settles O42: an engine cycle by what was fetched; then the operations of Table 13.1. -/
theorem enginesExecuteAndOperationsComplete : Obligations.EnginesExecuteAndOperationsComplete := by
  refine ⟨fun s u p pins hu hl => ⟨fun x hx => ⟨fun r i t h => ⟨fun hop => ?_, fun hop => ?_⟩, fun hdue hready hfetch r hr => ?_, fun h => ?_⟩,
      fun hdue hinj hidle => ?_, fun h => ?_⟩,
    fun s u r p pins t e hu he => ⟨fun a h => ?_, fun k a h htest => ?_, fun a hnz h => ?_, fun i b hib h => ?_, fun src c hauto h => ?_,
      fun c hauto h => ?_, fun w x hsize h => ⟨fun hroom => ?_, fun hfull hw => ?_, fun hfull hw => ?_⟩,
      fun w v l hsize h => ⟨fun hdq => ?_, fun hdq hw => ?_, fun hdq hw => ?_⟩, fun src f => ⟨fun h => ?_, fun h => ?_, fun h => ?_⟩,
      fun v => ⟨fun h => ?_, fun h => ?_, fun h => ?_, fun h => ?_⟩, fun i => ⟨fun h => ?_, fun h => ?_⟩, fun src c h => ?_, fun n h => ?_⟩⟩
  · exact exec_engineRow_runs hx hu h hop
  · exact exec_engineRow_other hx hu h hop
  · rw [exec_engineRow_illegal hx hu hl hdue hready hfetch, ← hr, State.pzIllegal]
  · exact exec_engineRow_idle hx hu hl h
  · rw [exec, execEngineIdleCycle, execute_live _ hl, State.pzIdle_idles hdue hinj hidle]
  · rw [exec, execEngineIdleCycle, execute_live _ hl, State.pzIdle_inert h]
  · exact exec_row_completes hu h (State.pzRun_jmp he a)
  · exact exec_row_completes hu h (State.pzRun_jmp_fails k a htest)
  · exact exec_row_completes hu h (State.pzRun_jmp_x he hnz a)
  · obtain ⟨hrow, hrun⟩ := State.pzRun_wait (p := p) (pins := pins) hib
    rw [← hrow]
    exact ⟨fun hb => exec_row_completes hu h (by rw [hrun, if_pos hb]),
      fun hb => exec_row_stalls hu h (by rw [hrun, if_neg (by simp [hb])]) he⟩
  · exact exec_row_completes hu h (State.pzRun_in he src c hauto)
  · exact exec_row_completes hu h (State.pzRun_out_null he c hauto)
  · exact exec_row_completes hu h (by rw [State.pzRun_push he w x hsize, if_pos hroom])
  · exact exec_row_stalls hu h (by rw [State.pzRun_push he w x hsize, if_neg (Nat.not_lt.2 hfull), if_pos hw]) he
  · exact exec_row_completes hu h (by rw [State.pzRun_push he w x hsize, if_neg (Nat.not_lt.2 hfull), if_neg (by simp [hw])])
  · exact exec_row_completes hu h (State.pzRun_pull_word he w hsize hdq)
  · exact exec_row_stalls hu h (by rw [State.pzRun_pull_empty he w hsize hdq, if_pos hw]) he
  · exact exec_row_completes hu h (by rw [State.pzRun_pull_empty he w hsize hdq, if_neg (by simp [hw])])
  · exact exec_row_completes hu h (by rw [he]; rfl)
  · exact exec_row_completes hu h (by rw [he]; rfl)
  · exact exec_row_completes hu h (by rw [he]; rfl)
  · exact exec_row_completes hu h rfl
  · exact exec_row_completes hu h rfl
  · exact exec_row_completes hu h (by rw [he]; rfl)
  · exact exec_row_completes hu h (by rw [he]; rfl)
  · exact exec_row_completes hu h (State.pzRun_flag (.inl ⟨rfl, rfl⟩))
  · exact exec_row_completes hu h (State.pzRun_flag (.inr ⟨rfl, rfl⟩))
  · exact exec_row_completes hu h (by rw [he]; rfl)
  · exact exec_engineRow_runs (PzOp.row_mem (.pause n)) hu h rfl

end Sys2Proof.Machine
end

section
/-! SUPPORT. The scrubber, reads of SRAM words and the reactions to them, fuse operations and writes of the map's shadow (R414 to R417, R430,
R433; log entries 40 and 41), and the statement about them. -/

namespace Sys2Proof.Machine

variable {s u : State}

/-! ### Visits (R415) -/

section
variable {flips : BitVec 52}

theorem exec_scrubVisit_due (hl : s.live = true) : exec (.scrubVisit ⟨none, flips⟩) s = .next (s.scrubVisit none flips).settle := by
  rw [exec, execScrubVisit, execute_live _ hl]
  rfl

theorem exec_scrubVisit_unit (hl : s.live = true) (id : Fin 16) (w : Fin 8192) : exec (.scrubVisit ⟨some (id, w), flips⟩) s =
    .next (if 1 ≤ id.val ∧ id.val ≤ 12 ∧ w.val < memSize id then s.ramRead id w flips else s).settle := by
  rw [exec, execScrubVisit, execute_live _ hl]
  rfl

theorem State.scrubVisit_waits (h : s.scrubDue = false) : s.scrubVisit none flips = s := by
  simp only [State.scrubVisit, h, Bool.not_false, if_true]

section
variable (hdue : s.scrubDue = true) {r : State} (hr : r = s.ramRead s.scrub.id s.scrub.word flips)
include hdue hr

theorem State.scrubVisit_next (h : s.scrub.word + 1 < memSize s.scrub.id) :
    s.scrubVisit none flips = { r with scrub := { id := s.scrub.id, word := s.scrub.word + 1, last := r.time } } := by
  subst hr
  simp [State.scrubVisit, hdue, Nat.not_le.2 h]

theorem State.scrubVisit_wraps (h : memSize s.scrub.id ≤ s.scrub.word + 1) (hid : s.scrub.id ≠ 12) :
    s.scrubVisit none flips = { r with scrub := { id := s.scrub.id % 12 + 1, word := 0, last := r.time } } := by
  subst hr
  simp [State.scrubVisit, hdue, h, hid]

theorem State.scrubVisit_passes (h : memSize s.scrub.id ≤ s.scrub.word + 1) (hid : s.scrub.id = 12) :
    s.scrubVisit none flips = { r.bump rMEM_CNT 11 0 with scrub := { id := 1, word := 0, last := r.time } } := by
  subst hr
  rw [hid] at h
  simp [State.scrubVisit, hdue, h, hid]

end

end

/-! ### What a read finds (R414, R416, R417) -/

section
variable {id w : Nat} {flips m d : Codeword} {k : Read} (hm : m = tabGet 0 s.upsets (ramKey id w) ^^^ flips)
  (hu : u = { s with upsets := tabSet 0 s.upsets (ramKey id w) m })

include hu in
/-- The codeword stored once the flipped bits are counted in. -/
theorem State.ramCode_upset : u.ramCode id w = eccEncode (s.ramData id w) ^^^ m := by
  have hdata : u.ramData id w = s.ramData id w := by rw [hu]; rfl
  have hbits : tabGet 0 u.upsets (ramKey id w) = m := by rw [hu]; exact tabGet_tabSet_self ..
  rw [State.ramCode, hdata, hbits]

include hm hu

theorem State.ramRead_intact (h : m = 0) : s.ramRead id w flips = u := by
  rw [State.ramRead, ← hm, hu, if_pos h, h]

section
variable (h : m ≠ 0)
include h

theorem State.ramRead_plain (hread : eccRead (eccEncode (s.ramData id w) ^^^ m) = (d, .plain)) :
    s.ramRead id w flips = (u.ramPut id w (d.setWidth 40)).rewrote id w 1 := by
  rw [← State.ramCode_upset hu] at hread
  rw [State.ramRead, ← hm, if_neg h, ← hu]
  simp only [hread]

theorem State.ramRead_corrected (hread : eccRead (eccEncode (s.ramData id w) ^^^ m) = (d, .corrected)) : s.ramRead id w flips =
    (((u.ramPut id w (d.setWidth 40)).rewrote id w 1).bump rMEM_CNT 23 12).memNote false id w := by
  rw [← State.ramCode_upset hu] at hread
  rw [State.ramRead, ← hm, if_neg h, ← hu]
  simp only [hread]

theorem State.ramRead_uncorrectable (hread : eccRead (eccEncode (s.ramData id w) ^^^ m) = (d, .uncorrectable)) :
    s.ramRead id w flips = ((u.bump rMEM_CNT 31 24).memNote true id w).memReact id w := by
  rw [← State.ramCode_upset hu] at hread
  rw [State.ramRead, ← hm, if_neg h, ← hu]
  simp only [hread]

end

end

/-! ### The reactions (Table 16.2) -/

theorem State.memReact_command {w : Nat} {c : Cmd} (h : s.cmdAt (w / 7) = some c) :
    s.memReact 8 w = s.finishFrom c s.devAddr s.time 0x7F 0 := by
  rw [State.memReact, State.cmdError, h]

theorem State.memReact_noCommand {w : Nat} (h : s.cmdAt (w / 7) = none) : s.memReact 8 w = s := by
  rw [State.memReact, State.cmdError, h]

theorem State.memReact_latches (w : Nat) : ∀ id ∈ [4, 5, 6, 11], s.memReact id w = s.latchCause 5 := by
  simp [State.memReact]

/-! ### Fuse operations (R433) -/

theorem exec_fuseKey (hl : s.live = true) (v : Word) : exec (.fuseKey v) s = .next (s.fuseKey v).settle := by
  rw [exec, execFuseKey, execute_live _ hl]

theorem exec_burnMap (hl : s.live = true) : exec .burnMap s = .next s.burnMap.settle := by
  rw [exec, execBurnMap, execute_live _ hl]

theorem exec_seal (hl : s.live = true) : exec .seal s = .next s.seal_.settle := by
  rw [exec, execSeal, execute_live _ hl]

theorem State.fuseMay_iff : s.fuseMay = true ↔ ((∃ t, s.fuses.keyAt = some t ∧ s.time ≤ t + 1000000) ∧ s.sealed = false ∧ s.inRun = true ∧
    (∀ a < 96, (s.act a).bound = false) ∧ 90 ≤ s.vsup ∧ s.vsup ≤ 360 ∧ s.dip = false ∧ s.fuses.op = none) := by
  cases hkey : s.fuses.keyAt <;> simp [State.fuseMay, State.fuseSupply, hkey, below, and_assoc]

theorem State.burnMap_starts (h : s.fuseMay = true ∧ s.rb rFUSE_STAT 30 = false) : s.burnMap = s.fuseStart 1 :=
  if_neg (by simp [h])

theorem State.burnMap_refused (h : s.fuseMay = false ∨ s.rb rFUSE_STAT 30 = true) : s.burnMap = s.opRej :=
  if_pos (by rcases h with h | h <;> simp [h])

theorem State.seal_starts (h : s.fuseMay = true ∧ s.rb rFUSE_STAT 30 = true ∧ s.rb rFUSE_STAT 29 = false ∧ s.mapMatches = true) :
    s.seal_ = s.fuseStart 2 :=
  if_neg (by simp [h])

theorem State.seal_refused (h : s.fuseMay = false ∨ s.rb rFUSE_STAT 30 = false ∨ s.rb rFUSE_STAT 29 = true ∨ s.mapMatches = false) :
    s.seal_ = s.opRej :=
  if_pos (by rcases h with h | h | h | h <;> simp [h])

section
variable {n : Nat} {bad : BitVec 42}

theorem exec_fuseOpDone (hl : s.live = true) (n : Fin 43) (bad : BitVec 42) :
    exec (.fuseOpDone n bad) s = .next (s.fuseDone n bad).settle := by
  rw [exec, execFuseOpDone, execute_live _ hl]

theorem State.fuseDone_none (h : s.fuses.op = none) : s.fuseDone n bad = s := by
  simp only [State.fuseDone, h]

section
variable {t : Nat} (hu : u = { s with fuses := { s.fuses with op := none } })

/-- The first `n` map words of a BURN_MAP have been done, which sets BURNT. -/
def State.burnt (s : State) (n : Nat) (bad : BitVec 42) : State :=
  ((below n).foldl (fun (x : State) i => x.burnWord i (bit bad i)) s).setRb rFUSE_STAT 30 true

section
variable (hop : s.fuses.op = some (1, t))
include hop

theorem State.fuseDone_map_short (hn : n < 42) (hsup : s.fuseSupply = true) : s.fuseDone n bad = s := by
  simp [State.fuseDone, hop, hsup, hn]

include hu in
theorem State.fuseDone_map_all : s.fuseDone 42 bad = u.burnt 42 bad := by
  simp only [State.fuseDone, hop, ← hu]
  rfl

include hu in
theorem State.fuseDone_map_cut (hn : n < 42) (hsup : s.fuseSupply = false) {w : State} (hw : w = u.burnt n bad) {ws : Tab Codeword}
    (hws : ws = if tabGet 0 w.fuses.words (111 + n) = 0 then tabSet 0 w.fuses.words (111 + n) partWord else w.fuses.words) :
    s.fuseDone n bad = ({ w with fuses := { w.fuses with words := ws } } : State).setRb rFUSE_STAT 29 true := by
  have hmin : min n 42 = n := by omega
  simp only [State.fuseDone, hop, ← hu, if_true, hsup, Bool.and_false, Bool.false_eq_true, if_false, hmin, hn, hws, hw]
  rfl

end

section
variable (hop : s.fuses.op = some (2, t))
include hop

theorem State.fuseDone_seal_short (hn : n < 28) (hsup : s.fuseSupply = true) : s.fuseDone n bad = s := by
  simp [State.fuseDone, hop, hsup, hn]

section
variable {w : State} (hw : w = ({ u with
  fuses := { u.fuses with blown := max s.fuses.blown (min n 28) }, sealed := decide (15 ≤ max s.fuses.blown (min n 28)) } : State))
include hu hw

theorem State.fuseDone_seal_all (hn : 28 ≤ n) : s.fuseDone n bad = w := by
  have hmin : min n 28 = 28 := by omega
  simp only [State.fuseDone, hop, ← hu, OfNat.ofNat_ne_one, if_false, hmin, lt_irrefl, decide_false, Bool.false_and, Bool.false_eq_true]
  rw [hw, hmin, hu]

theorem State.fuseDone_seal_cut (hn : n < 28) (hsup : s.fuseSupply = false) : s.fuseDone n bad = w.setRb rFUSE_STAT 29 true := by
  have hmin : min n 28 = n := by omega
  simp only [State.fuseDone, hop, ← hu, OfNat.ofNat_ne_one, if_false, hmin, hsup, Bool.and_false, Bool.false_eq_true, hn, if_true]
  rw [hw, hmin, hu]

end

end

end

end

/-! ### Shadow writes (R430) -/

section
variable {i : Nat} {v : Word}

theorem exec_shadowWrite (hl : s.live = true) (i : Fin 107) (v : Word) : exec (.shadowWrite i v) s = .next (s.shadowWrite i v).settle := by
  rw [exec, execShadowWrite, execute_live _ hl]

theorem State.shadowWrite_refused (h : s.sealed = true ∨ s.mapIdle = false) : s.shadowWrite i v = s.setRb rFUSE_STAT 27 true :=
  if_pos (by rcases h with h | h <;> simp [h])

/-- The shadow's row written as its bits allow. -/
def State.shadowRow (s : State) (i : Nat) (v : Word) : State :=
  match rowOf (0x7000 + 4 * i) with
  | some r => s.setReg (0x7000 + 4 * i) (rowWrite r (s.reg (0x7000 + 4 * i)) v)
  | none => s

theorem State.shadowWrite_open (hs : s.sealed = false) (hi : s.mapIdle = true) :
    s.shadowWrite i v = (if 96 ≤ i ∧ i < 102 then (s.shadowRow i v).lanesOut (i - 96) else s.shadowRow i v).wdArm :=
  if_neg (by simp [hs, hi])

end

/-- Settles O50: visits, what a read finds and its reaction, the fuse commands, the end of a fuse operation, and shadow writes. -/
theorem scrubberAndFuses : Obligations.ScrubberAndFuses := by
  refine ⟨fun s r flips hl hr => ⟨by simp [State.scrubDue], fun hwait => ?_, fun hdue => ⟨fun h => ?_, fun h hid => ?_, fun h hid => ?_⟩,
      fun id w => ⟨fun h1 h2 h3 => ?_, fun h => ?_⟩⟩,
    fun s u id w flips m d k hm hu hread => ⟨State.ramRead_intact hm hu, fun h hk => State.ramRead_plain hm hu h (hk ▸ hread),
      fun h hk => State.ramRead_corrected hm hu h (hk ▸ hread), fun h hk => State.ramRead_uncorrectable hm hu h (hk ▸ hread)⟩,
    fun s w x hx => ⟨by rw [hx]; rfl, rfl, rfl, rfl, fun _ => State.memReact_command, State.memReact_noCommand, rfl, rfl, rfl, State.memReact_latches w⟩,
    fun s r hl hr => ⟨?_, fun v hv => ?_, State.fuseMay_iff, fun h => ?_, fun h => ?_, fun h => ?_, fun h => ?_⟩,
    fun s u n bad hl hu => ⟨fun h => ?_, fun t hop => ⟨fun hn hsup => ?_, fun hn => ?_, fun hn hsup w hw ws hws => ?_⟩,
      fun t w hop hw => ⟨fun hn => ?_, fun hn hsup => ?_, fun hn hsup => ?_⟩⟩,
    fun s w i v hl hw => ⟨fun h => ?_, fun hs hi => ⟨fun h96 h102 => ?_, fun h => ?_⟩⟩⟩
  · rw [exec_scrubVisit_due hl, State.scrubVisit_waits hwait]
  · rw [exec_scrubVisit_due hl, State.scrubVisit_next hdue hr h]
  · rw [exec_scrubVisit_due hl, State.scrubVisit_wraps hdue hr h hid]
  · rw [exec_scrubVisit_due hl, State.scrubVisit_passes hdue hr h hid]
  · rw [exec_scrubVisit_unit hl, if_pos ⟨h1, h2, h3⟩]
  · rw [exec_scrubVisit_unit hl, if_neg h]
  · rw [exec_fuseKey hl, State.fuseKey, if_pos rfl]
  · rw [exec_fuseKey hl, State.fuseKey, if_neg hv]
  · rw [exec_burnMap hl, State.burnMap_starts h, State.fuseStart]
  · rw [exec_burnMap hl, State.burnMap_refused h, State.opRej, hr]
  · rw [exec_seal hl, State.seal_starts h, State.fuseStart]
  · rw [exec_seal hl, State.seal_refused h, State.opRej, hr]
  · rw [exec_fuseOpDone hl, State.fuseDone_none h]
  · rw [exec_fuseOpDone hl, State.fuseDone_map_short hop hn hsup]
  · rw [exec_fuseOpDone hl, hn, State.fuseDone_map_all hu hop, State.burnt]
  · rw [exec_fuseOpDone hl, State.fuseDone_map_cut hu hop hn hsup hw hws]
  · rw [exec_fuseOpDone hl, State.fuseDone_seal_all hu hop hw hn]
  · rw [exec_fuseOpDone hl, State.fuseDone_seal_short hop hn hsup]
  · rw [exec_fuseOpDone hl, State.fuseDone_seal_cut hu hop hw hn hsup]
  · rw [exec_shadowWrite hl, State.shadowWrite_refused h]
  · replace hw : w = s.shadowRow i v := hw
    rw [exec_shadowWrite hl, State.shadowWrite_open hs hi, ← hw, if_pos ⟨h96, h102⟩]
  · replace hw : w = s.shadowRow i v := hw
    rw [exec_shadowWrite hl, State.shadowWrite_open hs hi, ← hw, if_neg (by omega)]

end Sys2Proof.Machine
end
